-- ==== Sys2Proof/Word.lean ====
section
/-! DEFINITION. The plain number types of the Aswal 8416: bytes of messages and of the frame store, 16-bit
sample words (00_scope.md, convention 3) and the 32-bit counters of R72 and R74. -/

namespace Sys2Proof

/-- One byte of a message or of the frame store. -/
abbrev Byte := BitVec 8

/-- One sample word: 16 bits (00_scope.md, convention 3). -/
abbrev Word := BitVec 16

/-- A 32-bit counter of a stream context (R72, R74) or a FLOW word count (R92). -/
abbrev Count32 := BitVec 32

end Sys2Proof
end

