-- ==== Sys2Proof/Syntax.lean ====
section
/-! DEFINITION. The vocabulary of the part and its steps: the numbered things (streams, ports, frames,
pages), the enumerated fields of 12_message_layouts.md, the host commands as the command unit reads them
from a payload, and `Instr`, one constructor for each row of spec/opcode_table.json. -/

namespace Sys2Proof

/-- Stream 0 ~ 7 (00_scope.md, Key numbers). -/
abbrev StreamId := Fin 8

/-- Port 0 ~ 3 (00_scope.md, Key numbers). -/
abbrev PortId := Fin 4

/-- Frame 0 ~ 4095 (R1). -/
abbrev FrameId := Fin 4096

/-- Page 0 ~ 511 of one stream's page space (R20). -/
abbrev VPage := Fin 512

/-- The access of a present map entry (R20). -/
inductive Access where
  | readWrite
  | readOnly
  deriving DecidableEq, Repr

/-- The direction of a stream (R50) and of a bound port (R54). -/
inductive Direction where
  | capture
  | replay
  deriving DecidableEq, Repr

/-- What a page entry does with an absent map entry (R50). -/
inductive FaultPolicy where
  | allocate
  | host
  | skip
  deriving DecidableEq, Repr

/-- Whether a replay stream releases each page it leaves (R50). -/
inductive ReleasePolicy where
  | keep
  | release
  deriving DecidableEq, Repr

/-- The two slots of a stream (R74). -/
inductive SlotName where
  | a
  | b
  deriving DecidableEq, Repr

/-- The mode of a segment (R74). -/
inductive SegmentMode where
  | once
  | loop
  deriving DecidableEq, Repr

/-- The scope of a RESTART (10.5). -/
inductive RestartScope where
  | streams
  | all
  deriving DecidableEq, Repr

/-- A segment descriptor (R74). -/
structure Descriptor where
  first : VPage
  count : Nat
  mode : SegmentMode
  link : Bool
  postTrigger : Nat
  deriving DecidableEq, Repr

/-- The 18 status values of R161. -/
inductive Status where
  | ok
  | full
  | badKind
  | badLength
  | badField
  | badState
  | badCombination
  | absent
  | exists_
  | inUse
  | isProtected
  | isSealed
  | gap
  | poolEmpty
  | frameTaken
  | noTrigger
  | torn
  | slotBusy
  deriving DecidableEq, Repr

/-- One inbound message as the link passes it on: kind, tag and payload; its length field is the payload's
length (R143). -/
structure Message where
  kind : Byte
  tag : Byte
  payload : List Byte
  deriving DecidableEq, Repr

/-- A host command as the command unit reads it from a message whose kind, length and codes are right
(12.3, R170). `map`'s frame is `none` for FFFFh, "any". `arm` carries the page count inside the descriptor;
a count of 0 asks for the slot to be emptied. -/
inductive HostCommand where
  | hello
  | restart (scope : RestartScope)
  | map (stream : StreamId) (access : Access) (vpage : VPage) (frame : Option FrameId)
  | unmap (stream : StreamId) (first : VPage) (count : Nat)
  | protect (stream : StreamId) (access : Access) (first : VPage) (count : Nat)
  | share (source destination : StreamId) (access : Access) (sourceFirst destinationFirst : VPage) (count : Nat)
  | queryMap (stream : StreamId) (first : VPage) (count : Nat)
  | queryFrame (frame : FrameId)
  | poolStatus
  | setPoolMark (mark : Nat)
  | openStream (stream : StreamId) (direction : Direction) (port : PortId) (fault : FaultPolicy) (policy : ReleasePolicy)
  | closeStream (stream : StreamId) (releaseMap : Bool)
  | arm (stream : StreamId) (slot : SlotName) (descriptor : Descriptor)
  | start (stream : StreamId) (slot : SlotName)
  | pause (stream : StreamId)
  | resume (stream : StreamId)
  | stop (stream : StreamId)
  | abort (stream : StreamId)
  | trigger (stream : StreamId)
  | queryStream (stream : StreamId)
  | readData (stream : StreamId) (vpage : VPage) (offset length : Nat)
  | writeData (stream : StreamId) (vpage : VPage) (offset : Nat) (data : List Byte)
  | sealPage (stream : StreamId) (vpage : VPage)
  deriving DecidableEq, Repr

/-- The steps of the part: one constructor for each row of spec/opcode_table.json, in the table's order, with
the operands the step's rule names. The rows that are host commands carry the command's fields; the rows that
are claims or steps of a stream engine carry the stream; the rows of a port carry the port; the link's rows
carry the bytes that the host clocks. -/
inductive Instr where
  | hello
  | restartStreams
  | restartAll
  | map (stream : StreamId) (access : Access) (vpage : VPage) (frame : Option FrameId)
  | unmap (stream : StreamId) (first : VPage) (count : Nat)
  | protect (stream : StreamId) (access : Access) (first : VPage) (count : Nat)
  | share (source destination : StreamId) (access : Access) (sourceFirst destinationFirst : VPage) (count : Nat)
  | queryMap (stream : StreamId) (first : VPage) (count : Nat)
  | queryFrame (frame : FrameId)
  | poolStatus
  | setPoolMark (mark : Nat)
  | openStream (stream : StreamId) (direction : Direction) (port : PortId) (fault : FaultPolicy) (policy : ReleasePolicy)
  | closeStream (stream : StreamId) (releaseMap : Bool)
  | arm (stream : StreamId) (slot : SlotName) (descriptor : Descriptor)
  | start (stream : StreamId) (slot : SlotName)
  | pause (stream : StreamId)
  | resume (stream : StreamId)
  | stop (stream : StreamId)
  | abort (stream : StreamId)
  | trigger (stream : StreamId)
  | queryStream (stream : StreamId)
  | readData (stream : StreamId) (vpage : VPage) (offset length : Nat)
  | writeData (stream : StreamId) (vpage : VPage) (offset : Nat) (data : List Byte)
  | sealPage (stream : StreamId) (vpage : VPage)
  | writeDataCompletion
  | commandTake
  | csNFall
  | badStart (first : Byte)
  | oversize (kind tag : Byte) (length : Word)
  | inboundMessage (kind tag : Byte) (payload : List Byte) (crc : Word)
  | readSelect
  | sendComplete
  | csNRise
  | powerOn
  | pinReset
  | resetEnd
  | poolInitAppend
  | poolInitComplete
  | captureStrobe (port : PortId) (word : Word)
  | replayStrobe (port : PortId)
  | triggerEdge (port : PortId)
  | pendingEdgeTaken (stream : StreamId)
  | captureBurstRequest (stream : StreamId)
  | replayBurstRequest (stream : StreamId)
  | arbiterGrant
  | captureBurstComplete (stream : StreamId)
  | replayBurstComplete (stream : StreamId)
  | hostBurstComplete
  | fillReport (stream : StreamId)
  | leaveSealClaim (stream : StreamId)
  | endingSealClaim (stream : StreamId)
  | writeClaim (stream : StreamId)
  | readClaim (stream : StreamId)
  | waitDataSignal (stream : StreamId)
  | releaseClaim (stream : StreamId)
  | engineRestart (stream : StreamId)
  | restartClaim
  | writeTransactionStart
  deriving DecidableEq, Repr

end Sys2Proof
end

