-- ==== Sys2Proof/Config.lean ====
section
/-! DEFINITION. What one part fixes for itself, and the one value the manual leaves open. -/

namespace Sys2Proof

/-- The silicon revision in the HELLO reply: "1 ~ 255; 1 for the parts this manual describes" (R163). -/
def Config.siliconRevision : Byte := 1

/-- FREE VALUE. The contents of the frame store after power-on are undefined (R128): the byte that the
location `address` holds after the power-on numbered `powerOn`, until a burst writes it. It has no body, so
nothing can be proved about its value. Log entry 1. -/
opaque Config.powerOnByte (powerOn address : Nat) : Byte

end Sys2Proof
end

