-- ==== Sys2Proof/Machine/State.lean ====
section
/-! DEFINITION. The state of the part, block by block as 00_scope.md's block diagram has them, its values at
power-on, and the reasons a step could stop for. INVENTORY.md lists every piece with the rule that names it. -/

namespace Sys2Proof.Machine

/-! ### Frame store -/

/-- The frame store (R127): the bytes that bursts have written since the last power-on, keyed by
`4096 * frame + offset`, addresses strictly rising. A location that is not listed holds no known byte: after
power-on it is undefined (R128, log entry 1). -/
abbrev Memory := List Host.Cell

/-! ### Map unit -/

/-- FREE or BOUND (R1). -/
inductive FrameState where
  | free
  | bound
  deriving DecidableEq, Repr

/-- One record of the frame table (R1). -/
structure FrameRecord where
  state : FrameState
  refcount : Nat
  fill : Nat
  isSealed : Bool
  generation : BitVec 16
  writer : Option StreamId
  hostHold : Bool
  deriving DecidableEq, Repr

/-- A present map entry (R20). -/
structure MapEntry where
  frame : FrameId
  access : Access
  deriving DecidableEq, Repr

/-- The two kinds of claim that can be set aside under a host hold (R8). -/
inductive PageClaim where
  | write (vpage : VPage)
  | release (vpage : VPage)
  deriving DecidableEq, Repr

/-- A claim in the deferred-claim list (R8). -/
structure DeferredClaim where
  stream : StreamId
  claim : PageClaim
  deriving DecidableEq, Repr

/-- A claim of a stream engine that waits at the map unit (R22): a fill report with its frame and offset
(R96), a leave seal claim or an ending seal claim with the offset of a withdrawn fill report (R98, R65), and
the page claims (R100, R119, R118). -/
inductive EngineClaim where
  | fillReport (frame : FrameId) (offset : Nat)
  | leaveSeal (frame : FrameId) (carried : Option Nat)
  | endingSeal (carried : Option Nat)
  | write (vpage : VPage)
  | read (vpage : VPage)
  | release (vpage : VPage)
  deriving DecidableEq, Repr

/-- A claim waiting at the map unit: the command unit's, which carries the current command, or a stream
engine's (R22). -/
inductive Claim where
  | host
  | engine (stream : StreamId) (claim : EngineClaim)
  deriving DecidableEq, Repr

/-- What began a pool initialisation; the reason of its READY notice (R13). -/
inductive ReadyReason where
  | powerOn
  | pinReset
  | restartAll
  deriving DecidableEq, Repr

/-- The map unit: page maps (R20), frame table (R1), free-frame queue (R12), pool-waiter list (R14),
deferred-claim list (R8), waiting claims oldest first (R22), low mark and condition (R16), and the two items
of pool initialisation with what began it (R13). -/
structure MapUnit where
  frames : Vector FrameRecord 4096
  maps : Vector (Vector (Option MapEntry) 512) 8
  freeQueue : List FrameId
  waiters : List StreamId
  deferred : List DeferredClaim
  claims : List Claim
  lowMark : Nat
  lowArmed : Bool
  initInProgress : Bool
  initNext : Nat
  initReason : ReadyReason
  deriving DecidableEq, Repr

/-! ### Stream engines -/

/-- The nine stream states (R51). -/
inductive StreamState where
  | idle
  | ready
  | running
  | paused
  | waitFault
  | waitData
  | stopping
  | done
  | failed
  deriving DecidableEq, Repr

/-- Why a stream is ending or has ended (R50). -/
inductive EndReason where
  | completed
  | starved
  | stopped
  | aborted
  | failed
  deriving DecidableEq, Repr

/-- The reason in a fault record (R50). -/
inductive FaultReason where
  | absent
  | poolEmpty
  deriving DecidableEq, Repr

/-- A vpage and a byte offset 0 ~ 4096: the position (R50) or the trigger record. -/
structure Position where
  vpage : VPage
  offset : Nat
  deriving DecidableEq, Repr

/-- The current page with its current frame (R50). -/
structure CurrentPage where
  vpage : VPage
  frame : FrameId
  deriving DecidableEq, Repr

/-- The page entry that a stream waits on in WAIT_FAULT (R50). -/
structure FaultRecord where
  vpage : VPage
  reason : FaultReason
  deriving DecidableEq, Repr

/-- An occupied entry of a translation cache (R39). -/
structure CacheEntry where
  vpage : VPage
  frame : FrameId
  access : Access
  rank : Nat
  deriving DecidableEq, Repr

/-- The eight counters of R72. -/
structure Counters where
  bytesMoved : Count32
  wordsDropped : Count32
  underrunWords : Count32
  pagesCompleted : Count32
  faultsTaken : Count32
  pagesSkipped : Count32
  cacheHits : BitVec 16
  cacheMisses : BitVec 16
  deriving DecidableEq, Repr

/-- What a replay engine goes on with by itself, between two of its steps: nothing; the lookup of the page of its
position, after a pass-over, which ended a page change (`enter`, R120), or within a page change or chaining
(`entering`: the stream has left a page and holds no current page, R25 note 2, R46); or the leave of the page that
it has just entered at the fill of a sealed frame (`leave`, R115: the entry is answered, so the page change that
led to it has ended, R53). Only `entering` delays commands. DESIGN CHOICE, log entry 8. -/
inductive PageChangeDue where
  | none
  | enter
  | entering
  | leave
  deriving DecidableEq, Repr

/-- How far a stream engine is in a RESTART (R166): not asked, sent and not yet taken, waiting for its burst
in flight, or answered with the frame and offset that the restart claim is to seal. -/
inductive RestartStage where
  | none
  | sent
  | waitingBurst
  | answered (toSeal : Option (FrameId × Nat))
  deriving DecidableEq, Repr

/-- One stream engine: the stream context of R50, the activation page count of R74, the translation cache of
R39, and the engine's own progress (last fill look, R113; page change due; WAIT_DATA signals not yet taken,
R116; restart stage, R166). -/
structure Engine where
  state : StreamState
  direction : Option Direction
  port : Option PortId
  faultPolicy : Option FaultPolicy
  releasePolicy : Option ReleasePolicy
  slotA : Option Descriptor
  slotB : Option Descriptor
  activeSlot : Option SlotName
  activationPages : Count32
  position : Position
  currentPage : Option CurrentPage
  pagesToGo : Option Nat
  triggerRecord : Option Position
  faultRecord : Option FaultRecord
  endReason : Option EndReason
  counters : Counters
  cache : Vector (Option CacheEntry) 4
  lookFill : Option Nat
  due : PageChangeDue
  signals : List FrameId
  restart : RestartStage
  deriving DecidableEq, Repr

/-! ### Port interfaces -/

/-- One port interface (R54) with its edge-pending mark (R84) and the last word given (R122). -/
structure Port where
  bound : Option StreamId
  direction : Option Direction
  gateOpen : Bool
  fifo : List Word
  edgePending : Bool
  lastWord : Word
  deriving DecidableEq, Repr

/-! ### Frame store controller -/

/-- Requester 0 ~ 7, the stream engines, and 8, the host access port (8.2). -/
abbrev Requester := Fin 9

/-- A waiting request (R129). `length` counts bytes. -/
structure BurstRequest where
  frame : FrameId
  offset : Nat
  length : Nat
  isWrite : Bool
  deriving DecidableEq, Repr

/-- The burst in flight (R129) with the bytes that a write burst carries (R94). -/
structure Burst where
  requester : Requester
  frame : FrameId
  offset : Nat
  length : Nat
  isWrite : Bool
  data : List Byte
  deriving DecidableEq, Repr

/-- The arbiter (R129). -/
structure Arbiter where
  requests : Vector (Option BurstRequest) 9
  inFlight : Option Burst
  lastGranted : Requester
  deriving DecidableEq, Repr

/-! ### Command unit -/

/-- The execution state of the command unit (R159). -/
inductive ExecutionState where
  | waitingForInit
  | ready
  | executing
  deriving DecidableEq, Repr

/-- How far the current command is carried out (R162): handed to its owner; a STOP or ABORT taken and waiting
for the ending seal claim (R66); a CLOSE taken whose release waits at the map unit (R38); bursts of the host
access port (R133); the completion claim of a WRITE_DATA sent (R139); a RESTART whose engines stop, with the
number of streams that were not IDLE (R166, R168); a RESTART ALL that waits for pool initialisation (R169). -/
inductive CommandStage where
  | handed
  | awaitingEndingSeal
  | releasingMap
  | transferring
  | completing
  | stoppingEngines (notIdle : Nat)
  | initialising (notIdle : Nat)
  deriving DecidableEq, Repr

/-- The current command (R159): the command at the head of the command queue as it was read. -/
structure CurrentCommand where
  command : HostCommand
  stage : CommandStage
  deriving DecidableEq, Repr

/-- The host access port's transfer (R133): the frame, the offset it began at, the bytes to move, those moved,
the generation of the snapshot (R134), and the data to be written or the data read so far. -/
structure Transfer where
  frame : FrameId
  offset : Nat
  total : Nat
  moved : Nat
  generation : BitVec 16
  isWrite : Bool
  data : List Byte
  deriving DecidableEq, Repr

/-- The command unit (R159) with its host access port (R133). -/
structure CommandUnit where
  queue : List Message
  current : Option CurrentCommand
  execution : ExecutionState
  transfer : Option Transfer
  deriving DecidableEq, Repr

/-! ### Link interface -/

/-- The transaction states of R141. -/
inductive TransactionState where
  | idle
  | start
  | write
  | writeIgnore
  | read
  | ignore
  deriving DecidableEq, Repr

/-- A reply in the reply queue (R149, R171): kind, tag and payload, whose byte 0 is the status. -/
structure Reply where
  kind : Byte
  tag : Byte
  payload : List Byte
  deriving DecidableEq, Repr

/-- The reasons of LINK_ERROR (R146). -/
inductive LinkErrorReason where
  | crc
  | truncated
  | oversize
  | badStart
  | discarded
  deriving DecidableEq, Repr

/-- The eight notice kinds (R153). -/
inductive NoticeKind where
  | ready
  | poolLow
  | linkError
  | fault
  | segmentDone
  | triggered
  | flow
  | streamEnd
  deriving DecidableEq, Repr

/-- The fields of a notice, by kind (12.6). -/
inductive NoticeFields where
  | ready (reason : ReadyReason)
  | poolLow (freeCount mark : Nat)
  | linkError (reason : LinkErrorReason)
  | fault (vpage : VPage) (reason : FaultReason)
  | segmentDone (slot : SlotName) (pages : Count32)
  | triggered (at_ : Position)
  | flow (words : Count32)
  | streamEnd (reason : EndReason) (at_ : Position) (offending : Option VPage)
  deriving DecidableEq, Repr

/-- A notice entry (R153). `stream` is `none` for a global notice, which is sent as FFh. The kind is that of
the fields. -/
structure NoticeEntry where
  stream : Option StreamId
  occurrences : Nat
  fields : NoticeFields
  deriving DecidableEq, Repr

/-- The shadow record (R155). -/
structure Shadow where
  occurrences : Nat
  fields : NoticeFields
  deriving DecidableEq, Repr

/-- What the open read transaction sends (R150): the oldest reply, the oldest notice entry, which a restart may
have marked for removal (R158), or the empty message; with the bytes frozen at the selection. -/
inductive Sending where
  | reply (bytes : List Byte)
  | notice (bytes : List Byte) (marked : Bool)
  | empty (bytes : List Byte)
  deriving DecidableEq, Repr

/-- The link interface (9.1 to 9.6). `csHigh` is the level of CS_N. -/
structure Link where
  csHigh : Bool
  transaction : TransactionState
  replies : List Reply
  reservations : Nat
  notices : List NoticeEntry
  sending : Option Sending
  shadow : Option Shadow
  deriving DecidableEq, Repr

/-! ### The whole part -/

/-- What holds the part in reset (R164). -/
inductive ResetKind where
  | powerOn
  | pinReset
  deriving DecidableEq, Repr

/-- The state of the part. `heldInReset` is present while power-on lasts or RESET_N is low (R164). `powerOns`
and `pending` are the model's own: the number of power-ons so far, which only selects the free bytes of the
frame store (log entry 1), and the queue of the steps that are offered (log entry 5). -/
structure State where
  mapUnit : MapUnit
  engines : Vector Engine 8
  ports : Vector Port 4
  arbiter : Arbiter
  store : Memory
  command : CommandUnit
  link : Link
  heldInReset : Option ResetKind
  powerOns : Nat
  pending : List Instr
  deriving DecidableEq, Repr

/-! ### Values at power-on and pin reset -/

/-- A frame record after power-on and pin reset (R2). -/
def FrameRecord.reset : FrameRecord :=
  { state := .free, refcount := 0, fill := 0, isSealed := false, generation := 0, writer := none, hostHold := false }

/-- The map unit while the part is held in reset: R2, R12, R14, R16, R20, R21, R22. The low condition is armed
only when initialisation completes; before that it is disarmed (DESIGN CHOICE, log entry 13). R13 gives its two
items from the start of an initialisation on; while the part is held in reset none is in progress and the next frame
to add is 0 (DESIGN CHOICE, log entry 31). -/
def MapUnit.reset (reason : ReadyReason) : MapUnit :=
  { frames := Vector.replicate 4096 FrameRecord.reset
    maps := Vector.replicate 8 (Vector.replicate 512 none)
    freeQueue := [], waiters := [], deferred := [], claims := []
    lowMark := 64, lowArmed := false
    initInProgress := false, initNext := 0, initReason := reason }

/-- Every counter 0 (R52, R72). -/
def Counters.zero : Counters :=
  { bytesMoved := 0, wordsDropped := 0, underrunWords := 0, pagesCompleted := 0, faultsTaken := 0
    pagesSkipped := 0, cacheHits := 0, cacheMisses := 0 }

/-- A stream engine after power-on, pin reset and either RESTART (R52, R40, R74). -/
def Engine.reset : Engine :=
  { state := .idle, direction := none, port := none, faultPolicy := none, releasePolicy := none
    slotA := none, slotB := none, activeSlot := none, activationPages := 0
    position := ⟨0, 0⟩, currentPage := none, pagesToGo := none, triggerRecord := none
    faultRecord := none, endReason := none, counters := Counters.zero
    cache := Vector.replicate 4 none
    lookFill := none, due := .none, signals := [], restart := .none }

/-- An unbound port (R54, R84): the last word given is not kept (R122; 0000h, DESIGN CHOICE, log entry 15). -/
def Port.unbound : Port :=
  { bound := none, direction := none, gateOpen := false, fifo := [], edgePending := false, lastWord := 0 }

/-- The arbiter after power-on and pin reset (R129). -/
def Arbiter.reset : Arbiter :=
  { requests := Vector.replicate 9 none, inFlight := none, lastGranted := 8 }

/-- The command unit after power-on and pin reset (R159). -/
def CommandUnit.reset : CommandUnit :=
  { queue := [], current := none, execution := .waitingForInit, transfer := none }

/-- The link interface after power-on and the assertion of RESET_N (R156). The level of CS_N is the host's and
is kept. -/
def Link.reset (csHigh : Bool) : Link :=
  { csHigh := csHigh, transaction := .idle, replies := [], reservations := 0, notices := [], sending := none
    shadow := none }

/-- The state that the application of power leaves (R164): power-on in progress, every block at its reset
value, CS_N high (DESIGN CHOICE, log entry 14), no byte of the frame store known (R128). RESET_END is the
first step of a start-up (R165, log entry 4). -/
def State.reset : State :=
  { mapUnit := MapUnit.reset .powerOn
    engines := Vector.replicate 8 Engine.reset
    ports := Vector.replicate 4 Port.unbound
    arbiter := Arbiter.reset
    store := []
    command := CommandUnit.reset
    link := Link.reset true
    heldInReset := some .powerOn
    powerOns := 0
    pending := [] }

/-! ### Reasons to stop -/

/-- A step that stops the part. The manual gives none: every error of the part is a reply status (R161), a
notice or a stream state, and every burst that is granted completes (R127). So there is no fault, and no
meaning answers one: safe, since nothing rests on a stop. -/
inductive Fault where
  deriving DecidableEq, Repr

/-- A step that has no meaning. -/
inductive Refusal where
  /-- Raised by `exec` alone, for a row of the table that has no meaning yet. Safe: the step does not go on. -/
  | notModelled (mnemonic : String)
  deriving DecidableEq, Repr

end Sys2Proof.Machine
end

