-- ==== Sys2Proof/Machine/Flags.lean ====
section
/-! DEFINITION. Counters that saturate or wrap (R72, R48, R92, R154), the round-robin order (R131), the
conditions that are read off the state: active states (R24), the ATTN, MISO and data pins (R152, R141, R54). -/

namespace Sys2Proof.Machine

/-! ### Counters -/

/-- A count raised by `n`, staying at its largest value (00_scope.md, convention 7). -/
def saturatingAdd {w : Nat} (x : BitVec w) (n : Nat) : BitVec w :=
  BitVec.ofNat w (min (x.toNat + n) (2 ^ w - 1))

/-- Occurrences, 1 ~ 255, saturating (R153). -/
def addOccurrences (x n : Nat) : Nat := min 255 (x + n)

/-! ### Stream states -/

/-- The active states: RUNNING, PAUSED, WAIT_DATA and STOPPING (R24, R51). -/
def StreamState.isActive (state : StreamState) : Bool :=
  match state with
  | .running | .paused | .waitData | .stopping => true
  | .idle | .ready | .waitFault | .done | .failed => false

/-! ### Round robin -/

/-- The requesters in the order in which a grant looks at them after `last` (R131). -/
def grantOrder (last : Requester) : List Requester :=
  (List.range 9).map fun k => Fin.ofNat 9 (last.val + 1 + k)

/-- The waiting request that is granted next (R131). -/
def Arbiter.nextGrant (a : Arbiter) : Option Requester :=
  (grantOrder a.lastGranted).find? fun r => (a.requests[r]).isSome

/-! ### Pins -/

/-- ATTN: high while the reply queue or the notice queue holds a message, the frozen one included (R152). -/
def State.attn (s : State) : Bool :=
  !(s.link.replies.isEmpty && s.link.notices.isEmpty)

/-- Whether the link drives MISO: while CS_N is low and the part is not held in reset (R141, R156). -/
def State.misoDriven (s : State) : Bool :=
  !s.link.csHigh && s.heldInReset.isNone

/-- The bytes of the message that the open read transaction sends, as they were frozen (R150); none in a transaction
that sends no message, or whose message has been sent to its end (R151). -/
def State.misoBytes (s : State) : List Byte :=
  match s.link.sending with
  | some (.reply bytes) => bytes
  | some (.notice bytes _) => bytes
  | some (.empty bytes) => bytes
  | none => []

/-- What MISO carries when byte `k` of the open transaction is clocked, the first byte being `k = 0`; none while MISO is
not driven. MISO carries 00h in the first byte, in a write transaction, in an ignored one and
beyond the message that is sent; in a read transaction the bytes of the message follow the first byte (R141, R150,
R151, R157). -/
def State.misoByte (s : State) (k : Nat) : Option Byte :=
  if s.misoDriven then
    match k with
    | 0 => some 0x00
    | n + 1 => some (s.misoBytes.getD n 0x00)
  else none

/-- The word that the data pins of a port drive: the last word given on a port bound to a replay stream, none
where the pins are inputs (R54, R122). -/
def Port.driven (p : Port) : Option Word :=
  match p.bound, p.direction with
  | some _, some .replay => some p.lastWord
  | _, _ => none

end Sys2Proof.Machine
end

