-- ==== Sys2Proof/Machine/Operands.lean ====
section
/-! DEFINITION. Bytes: little-endian fields and the CRC (R170, R144), the codes of 12.7 and 12.8, the command
unit's reading of a payload into a host command (R160, R170, 12.3), and the bytes of replies and notices
(R171, R172, 12.4 to 12.6). -/

namespace Sys2Proof.Machine

/-! ### Little-endian fields -/

/-- The low byte of a number. -/
def byteOf (n : Nat) : Byte := BitVec.ofNat 8 n

/-- A two-byte field, LSB first. -/
def le16 (n : Nat) : List Byte := [byteOf n, byteOf (n / 256)]

/-- A four-byte field, LSB first. -/
def le32 (n : Nat) : List Byte := [byteOf n, byteOf (n / 256), byteOf (n / 65536), byteOf (n / 16777216)]

/-- Payload byte `i`. -/
def byteAt (payload : List Byte) (i : Nat) : Nat := (payload.getD i 0).toNat

/-- The two-byte field at payload offset `i` (R170). -/
def wordAt (payload : List Byte) (i : Nat) : Nat := byteAt payload i + 256 * byteAt payload (i + 1)

/-- The two bytes of a sample word in the frame store, low byte at the lower offset (R94). -/
def wordBytes (w : Word) : List Byte := [w.setWidth 8, (w >>> 8).setWidth 8]

/-- The words that consecutive bytes of a frame hold (R114). -/
def bytesWords : List Byte → List Word
  | lo :: hi :: rest => (hi ++ lo : BitVec 16) :: bytesWords rest
  | _ => []

/-! ### CRC (R144) -/

/-- One bit of the CRC: generator 1021h, most significant bit first. -/
def crcBit (crc : BitVec 16) : BitVec 16 :=
  if crc.msb then (crc <<< 1) ^^^ 0x1021#16 else crc <<< 1

/-- One byte of the CRC, most significant bit first. -/
def crcByte (crc : BitVec 16) (b : Byte) : BitVec 16 :=
  crcBit (crcBit (crcBit (crcBit (crcBit (crcBit (crcBit (crcBit (crc ^^^ (b.setWidth 16 <<< 8)))))))))

/-- CRC-16 with initial value FFFFh, not inverted (R144). -/
def crc16 (bytes : List Byte) : BitVec 16 := bytes.foldl crcByte 0xFFFF#16

/-- The bytes that the CRC of a message covers: kind, tag, length and payload (R143). -/
def messageBody (kind tag : Byte) (payload : List Byte) : List Byte :=
  kind :: tag :: le16 payload.length ++ payload

/-- A whole message: body and CRC, LSB first (R143, R150). -/
def messageBytes (kind tag : Byte) (payload : List Byte) : List Byte :=
  messageBody kind tag payload ++ le16 (crc16 (messageBody kind tag payload)).toNat

/-- The empty message: kind 00h, tag 00h, length 0000h, no CRC (R150). -/
def emptyMessage : List Byte := [0, 0, 0, 0]

/-! ### Codes (12.7, 12.8) -/

/-- 12.8. -/
def statusCode (status : Status) : Byte :=
  match status with
  | .ok => 0x00 | .full => 0x01 | .badKind => 0x02 | .badLength => 0x03 | .badField => 0x04 | .badState => 0x05
  | .badCombination => 0x06 | .absent => 0x07 | .exists_ => 0x08 | .inUse => 0x09 | .isProtected => 0x0A
  | .isSealed => 0x0B | .gap => 0x0C | .poolEmpty => 0x0D | .frameTaken => 0x0E | .noTrigger => 0x0F
  | .torn => 0x10 | .slotBusy => 0x11

/-- 00h no, 01h yes. -/
def boolCode (b : Bool) : Byte := if b then 1 else 0

def accessCode (access : Access) : Byte :=
  match access with | .readWrite => 0 | .readOnly => 1

def directionCode (direction : Direction) : Byte :=
  match direction with | .capture => 0 | .replay => 1

def faultPolicyCode (policy : FaultPolicy) : Byte :=
  match policy with | .allocate => 0 | .host => 1 | .skip => 2

def releasePolicyCode (policy : ReleasePolicy) : Byte :=
  match policy with | .keep => 0 | .release => 1

def slotCode (slot : SlotName) : Byte :=
  match slot with | .a => 0 | .b => 1

def modeCode (mode : SegmentMode) : Byte :=
  match mode with | .once => 0 | .loop => 1

def scopeCode (scope : RestartScope) : Byte :=
  match scope with | .streams => 0 | .all => 1

def frameStateCode (state : FrameState) : Byte :=
  match state with | .free => 0 | .bound => 1

def streamStateCode (state : StreamState) : Byte :=
  match state with
  | .idle => 0 | .ready => 1 | .running => 2 | .paused => 3 | .waitFault => 4 | .waitData => 5 | .stopping => 6
  | .done => 7 | .failed => 8

def endReasonCode (reason : EndReason) : Byte :=
  match reason with
  | .completed => 0 | .starved => 1 | .stopped => 2 | .aborted => 3 | .failed => 4

def faultReasonCode (reason : FaultReason) : Byte :=
  match reason with | .absent => 0 | .poolEmpty => 1

def readyReasonCode (reason : ReadyReason) : Byte :=
  match reason with | .powerOn => 0 | .pinReset => 1 | .restartAll => 2

def linkErrorCode (reason : LinkErrorReason) : Byte :=
  match reason with | .crc => 0 | .truncated => 1 | .oversize => 2 | .badStart => 3 | .discarded => 4

/-- A field of one byte, FFh where it is absent (R171). -/
def optionByte {α : Type} (code : α → Byte) (field : Option α) : Byte :=
  match field with | some x => code x | none => 0xFF

/-- A field of two bytes, FFFFh where it is absent (R171). -/
def option16 {α : Type} (number : α → Nat) (field : Option α) : List Byte :=
  match field with | some x => le16 (number x) | none => [0xFF, 0xFF]

/-! ### Reading a payload -/

/-- A number in range as a `Fin`. -/
def finOf? (n value : Nat) : Option (Fin n) := if h : value < n then some ⟨value, h⟩ else none

def boolOf? (code : Nat) : Option Bool :=
  if code = 0 then some false else if code = 1 then some true else none

def accessOf? (code : Nat) : Option Access :=
  if code = 0 then some .readWrite else if code = 1 then some .readOnly else none

def directionOf? (code : Nat) : Option Direction :=
  if code = 0 then some .capture else if code = 1 then some .replay else none

def faultPolicyOf? (code : Nat) : Option FaultPolicy :=
  if code = 0 then some .allocate else if code = 1 then some .host else if code = 2 then some .skip else none

def releasePolicyOf? (code : Nat) : Option ReleasePolicy :=
  if code = 0 then some .keep else if code = 1 then some .release else none

def slotOf? (code : Nat) : Option SlotName :=
  if code = 0 then some .a else if code = 1 then some .b else none

def modeOf? (code : Nat) : Option SegmentMode :=
  if code = 0 then some .once else if code = 1 then some .loop else none

def scopeOf? (code : Nat) : Option RestartScope :=
  if code = 0 then some .streams else if code = 1 then some .all else none

/-- The frame of MAP: 0 ~ 4095, or FFFFh for any (R26). -/
def mapFrameOf? (value : Nat) : Option (Option FrameId) :=
  if value = 0xFFFF then some none else (finOf? 4096 value).map some

/-- A reserved byte must be 00h (R170). -/
def reserved? (code : Nat) : Option Unit := if code = 0 then some () else none

/-- The host command kinds with their payload lengths (12.3, 12.7). -/
inductive LengthRule where
  | exactly (n : Nat)
  | writeData
  deriving DecidableEq, Repr

/-- The length that 12.3 gives for a kind; `none` for a kind that is no command kind (12.7). -/
def lengthRule? (kind : Nat) : Option LengthRule :=
  match kind with
  | 0x01 => some (.exactly 0)
  | 0x02 => some (.exactly 1)
  | 0x10 => some (.exactly 6)
  | 0x11 => some (.exactly 6)
  | 0x12 => some (.exactly 6)
  | 0x13 => some (.exactly 10)
  | 0x14 => some (.exactly 4)
  | 0x18 => some (.exactly 2)
  | 0x19 => some (.exactly 0)
  | 0x1A => some (.exactly 2)
  | 0x20 => some (.exactly 5)
  | 0x21 => some (.exactly 2)
  | 0x22 => some (.exactly 10)
  | 0x23 => some (.exactly 2)
  | 0x24 => some (.exactly 1)
  | 0x25 => some (.exactly 1)
  | 0x26 => some (.exactly 1)
  | 0x27 => some (.exactly 1)
  | 0x28 => some (.exactly 1)
  | 0x29 => some (.exactly 1)
  | 0x30 => some (.exactly 8)
  | 0x31 => some .writeData
  | 0x32 => some (.exactly 4)
  | _ => none

/-- Whether a payload length fits: for WRITE_DATA 8 ~ 262, even (R170). -/
def LengthRule.accepts (rule : LengthRule) (length : Nat) : Bool :=
  match rule with
  | .exactly n => length == n
  | .writeData => 8 ≤ length && length ≤ 262 && length % 2 == 0

/-- The fields of a payload laid out as 12.3 gives for its kind; `none` where a code, a reserved byte or a
number that names one thing is out of range (R170). -/
def readFields (kind : Nat) (p : List Byte) : Option HostCommand :=
  match kind with
  | 0x01 => some .hello
  | 0x02 => do some (.restart (← scopeOf? (byteAt p 0)))
  | 0x10 => do
    some (.map (← finOf? 8 (byteAt p 0)) (← accessOf? (byteAt p 1)) (← finOf? 512 (wordAt p 2))
      (← mapFrameOf? (wordAt p 4)))
  | 0x11 => do
    reserved? (byteAt p 1)
    some (.unmap (← finOf? 8 (byteAt p 0)) (← finOf? 512 (wordAt p 2)) (wordAt p 4))
  | 0x12 => do
    some (.protect (← finOf? 8 (byteAt p 0)) (← accessOf? (byteAt p 1)) (← finOf? 512 (wordAt p 2)) (wordAt p 4))
  | 0x13 => do
    reserved? (byteAt p 3)
    some (.share (← finOf? 8 (byteAt p 0)) (← finOf? 8 (byteAt p 1)) (← accessOf? (byteAt p 2))
      (← finOf? 512 (wordAt p 4)) (← finOf? 512 (wordAt p 6)) (wordAt p 8))
  | 0x14 => do
    some (.queryMap (← finOf? 8 (byteAt p 0)) (← finOf? 512 (wordAt p 2)) (byteAt p 1))
  | 0x18 => do some (.queryFrame (← finOf? 4096 (wordAt p 0)))
  | 0x19 => some .poolStatus
  | 0x1A => some (.setPoolMark (wordAt p 0))
  | 0x20 => do
    some (.openStream (← finOf? 8 (byteAt p 0)) (← directionOf? (byteAt p 1)) (← finOf? 4 (byteAt p 2))
      (← faultPolicyOf? (byteAt p 3)) (← releasePolicyOf? (byteAt p 4)))
  | 0x21 => do some (.closeStream (← finOf? 8 (byteAt p 0)) (← boolOf? (byteAt p 1)))
  | 0x22 => do
    some (.arm (← finOf? 8 (byteAt p 0)) (← slotOf? (byteAt p 1))
      { first := ← finOf? 512 (wordAt p 4), count := wordAt p 6, mode := ← modeOf? (byteAt p 2)
        link := ← boolOf? (byteAt p 3), postTrigger := wordAt p 8 })
  | 0x23 => do some (.start (← finOf? 8 (byteAt p 0)) (← slotOf? (byteAt p 1)))
  | 0x24 => do some (.pause (← finOf? 8 (byteAt p 0)))
  | 0x25 => do some (.resume (← finOf? 8 (byteAt p 0)))
  | 0x26 => do some (.stop (← finOf? 8 (byteAt p 0)))
  | 0x27 => do some (.abort (← finOf? 8 (byteAt p 0)))
  | 0x28 => do some (.trigger (← finOf? 8 (byteAt p 0)))
  | 0x29 => do some (.queryStream (← finOf? 8 (byteAt p 0)))
  | 0x30 => do
    reserved? (byteAt p 1)
    some (.readData (← finOf? 8 (byteAt p 0)) (← finOf? 512 (wordAt p 2)) (wordAt p 4) (wordAt p 6))
  | 0x31 => do
    reserved? (byteAt p 1)
    some (.writeData (← finOf? 8 (byteAt p 0)) (← finOf? 512 (wordAt p 2)) (wordAt p 4) (p.drop 6))
  | 0x32 => do
    reserved? (byteAt p 1)
    some (.sealPage (← finOf? 8 (byteAt p 0)) (← finOf? 512 (wordAt p 2)))
  | _ => none

/-- A range of pages within the map: count 1 ~ `limit` and first vpage plus count at most 512 (R30, R37). -/
def pageRangeOk (first : VPage) (count limit : Nat) : Bool :=
  1 ≤ count && count ≤ limit && first.val + count ≤ 512

/-- The numeric ranges of a command's fields that its types do not hold already: R17, R30, R33, R35, R37, R76,
R134, R137. -/
def commandFieldsOk (command : HostCommand) : Bool :=
  match command with
  | .unmap _ first count => pageRangeOk first count 512
  | .protect _ _ first count => pageRangeOk first count 512
  | .share _ _ _ sourceFirst destinationFirst count =>
    pageRangeOk sourceFirst count 512 && pageRangeOk destinationFirst count 512
  | .queryMap _ first count => pageRangeOk first count 32
  | .setPoolMark mark => mark ≤ 4096
  | .arm _ _ d => d.count ≤ 512 && d.postTrigger ≤ 511 && (d.count == 0 || d.first.val + d.count ≤ 512)
  | .readData _ _ offset length =>
    offset % 2 == 0 && offset ≤ 4094 && length % 2 == 0 && 2 ≤ length && length ≤ 256
  | .writeData _ _ offset data =>
    offset % 2 == 0 && offset ≤ 4094 && data.length % 2 == 0 && 2 ≤ data.length && data.length ≤ 256
  | .hello | .restart _ | .map _ _ _ _ | .queryFrame _ | .poolStatus | .openStream _ _ _ _ _ | .closeStream _ _
  | .start _ _ | .pause _ | .resume _ | .stop _ | .abort _ | .trigger _ | .queryStream _ | .sealPage _ _ => true

/-- The command unit's checks of kind, length and field ranges, in the order of R160: the host command, or the
status that refuses the message. -/
def readCommand (m : Message) : Except Status HostCommand :=
  match lengthRule? m.kind.toNat with
  | none => .error .badKind
  | some rule =>
    if rule.accepts m.payload.length then
      match readFields m.kind.toNat m.payload with
      | none => .error .badField
      | some command => if commandFieldsOk command then .ok command else .error .badField
    else .error .badLength

/-! ### Reply payloads (12.4, 12.5) -/

/-- The kind of a reply: the command's kind plus 80h, modulo 100h (R149, R171). -/
def replyKind (kind : Byte) : Byte := kind + 0x80

/-- A reply that carries the status alone (R172). -/
def statusPayload (status : Status) : List Byte := [statusCode status]

/-- HELLO: R163, laid out as 12.4. -/
def helloPayload : List Byte :=
  statusCode .ok :: le16 0x8416 ++ [Config.siliconRevision, 8, 4] ++ le16 4096 ++ le16 512 ++ le16 4096 ++ le16 256
    ++ [4, 4, 8, 48] ++ le16 264 ++ le16 256

/-- An OK reply with two two-byte counts or numbers (MAP, UNMAP, SET_POOL_MARK, CLOSE). -/
def pairPayload (x y : Nat) : List Byte := statusCode .ok :: le16 x ++ le16 y

/-- An OK reply with one two-byte count (PROTECT, SHARE). -/
def countPayload (x : Nat) : List Byte := statusCode .ok :: le16 x

/-- One record of the QUERY_MAP reply. -/
def mapEntryBytes (entry : Option MapEntry) : List Byte :=
  match entry with
  | some e => [1, accessCode e.access] ++ le16 e.frame.val
  | none => [0, 0xFF, 0xFF, 0xFF]

/-- QUERY_MAP (R37). -/
def queryMapPayload (stream : StreamId) (first : VPage) (entries : List (Option MapEntry)) : List Byte :=
  [statusCode .ok, byteOf stream.val, byteOf entries.length] ++ le16 first.val ++ entries.flatMap mapEntryBytes

/-- QUERY_FRAME (R19). -/
def queryFramePayload (frame : FrameId) (r : FrameRecord) (queuePosition : Option Nat) : List Byte :=
  statusCode .ok :: le16 frame.val ++ [frameStateCode r.state, byteOf r.refcount] ++ le16 r.fill
    ++ [boolCode r.isSealed] ++ le16 r.generation.toNat
    ++ [optionByte (fun (w : StreamId) => byteOf w.val) r.writer, boolCode r.hostHold]
    ++ option16 (fun (n : Nat) => n) queuePosition

/-- POOL_STATUS (R18). -/
def poolStatusPayload (freeCount boundCount mark : Nat) (armed initialising : Bool) (waiters : List StreamId) :
    List Byte :=
  statusCode .ok :: le16 freeCount ++ le16 boundCount ++ le16 mark
    ++ [boolCode armed, boolCode initialising, byteOf waiters.length]
    ++ (waiters.map (fun (w : StreamId) => byteOf w.val) ++ List.replicate 8 0xFF).take 8

/-- RESTART (R168, R169). -/
def restartPayload (scope : RestartScope) (notIdle : Nat) : List Byte :=
  [statusCode .ok, scopeCode scope, byteOf notIdle]

/-- ARM (R76): the slot's content before the command. -/
def armPayload (before : Option Descriptor) : List Byte := [statusCode .ok, boolCode before.isSome]

/-- TRIGGER (R85). -/
def triggerPayload (at_ : Position) (pagesToGo : Nat) : List Byte :=
  statusCode .ok :: le16 at_.vpage.val ++ le16 at_.offset ++ le16 pagesToGo

/-- READ_DATA (R136): also the TORN reply, with its status and no data. -/
def readDataPayload (status : Status) (frame : FrameId) (generation : BitVec 16) (data : List Byte) : List Byte :=
  statusCode status :: le16 frame.val ++ le16 generation.toNat ++ le16 data.length ++ data

/-- The ABSENT reply to READ_DATA (R172). -/
def readDataAbsentPayload : List Byte := [statusCode .absent, 0xFF, 0xFF, 0xFF, 0xFF, 0x00, 0x00]

/-- WRITE_DATA (R139). -/
def writeDataPayload (frame : FrameId) (generation : BitVec 16) (fill : Nat) : List Byte :=
  statusCode .ok :: le16 frame.val ++ le16 generation.toNat ++ le16 fill

/-- SEAL (R140). -/
def sealPayload (frame : FrameId) (fill : Nat) (already : Bool) : List Byte :=
  statusCode .ok :: le16 frame.val ++ le16 fill ++ [boolCode already]

/-- A slot in the QUERY_STREAM reply (12.5). -/
def slotBytes (slot : Option Descriptor) : List Byte :=
  match slot with
  | some d => 1 :: le16 d.first.val ++ le16 d.count ++ [modeCode d.mode, boolCode d.link] ++ le16 d.postTrigger
  | none => List.replicate 9 0

/-- A translation cache entry in the QUERY_STREAM reply (12.5). -/
def cacheEntryBytes (entry : Option CacheEntry) : List Byte :=
  match entry with
  | some e => 1 :: le16 e.vpage.val ++ le16 e.frame.val ++ [accessCode e.access, byteOf e.rank]
  | none => [0, 0xFF, 0xFF, 0xFF, 0xFF, 0xFF, 0xFF]

/-- QUERY_STREAM (R73, 12.5): the engine, the port bound to it, and whether its burst is in flight. -/
def queryStreamPayload (stream : StreamId) (e : Engine) (port : Option Port) (inFlight : Bool) : List Byte :=
  [statusCode .ok, byteOf stream.val, streamStateCode e.state, optionByte directionCode e.direction,
    optionByte (fun (p : PortId) => byteOf p.val) e.port, optionByte faultPolicyCode e.faultPolicy,
    optionByte releasePolicyCode e.releasePolicy, optionByte (fun (p : Port) => boolCode p.gateOpen) port]
    ++ slotBytes e.slotA ++ slotBytes e.slotB
    ++ [optionByte slotCode e.activeSlot] ++ le32 e.activationPages.toNat
    ++ le16 e.position.vpage.val ++ le16 e.position.offset
    ++ option16 (fun (c : CurrentPage) => c.vpage.val) e.currentPage
    ++ option16 (fun (c : CurrentPage) => c.frame.val) e.currentPage
    ++ option16 (fun (n : Nat) => n) e.pagesToGo
    ++ option16 (fun (t : Position) => t.vpage.val) e.triggerRecord
    ++ option16 (fun (t : Position) => t.offset) e.triggerRecord
    ++ option16 (fun (r : FaultRecord) => r.vpage.val) e.faultRecord
    ++ [optionByte (fun (r : FaultRecord) => faultReasonCode r.reason) e.faultRecord,
      optionByte endReasonCode e.endReason]
    ++ option16 (fun (p : Port) => p.fifo.length) port ++ [boolCode inFlight]
    ++ le32 e.counters.bytesMoved.toNat ++ le32 e.counters.wordsDropped.toNat
    ++ le32 e.counters.underrunWords.toNat ++ le32 e.counters.pagesCompleted.toNat
    ++ le32 e.counters.faultsTaken.toNat ++ le32 e.counters.pagesSkipped.toNat
    ++ le16 e.counters.cacheHits.toNat ++ le16 e.counters.cacheMisses.toNat
    ++ e.cache.toList.flatMap cacheEntryBytes

/-! ### Notices (12.6) -/

/-- The kind of a notice's fields. -/
def NoticeFields.kind (fields : NoticeFields) : NoticeKind :=
  match fields with
  | .ready _ => .ready | .poolLow _ _ => .poolLow | .linkError _ => .linkError | .fault _ _ => .fault
  | .segmentDone _ _ => .segmentDone | .triggered _ => .triggered | .flow _ => .flow | .streamEnd _ _ _ => .streamEnd

/-- The kind codes of 12.6. -/
def NoticeKind.code (kind : NoticeKind) : Byte :=
  match kind with
  | .ready => 0x40 | .poolLow => 0x41 | .linkError => 0x42 | .fault => 0x48 | .segmentDone => 0x49
  | .triggered => 0x4A | .flow => 0x4B | .streamEnd => 0x4C

/-- READY, POOL_LOW and LINK_ERROR are the global kinds; the other five are stream notices (R153). -/
def NoticeKind.isGlobal (kind : NoticeKind) : Bool :=
  match kind with
  | .ready | .poolLow | .linkError => true
  | .fault | .segmentDone | .triggered | .flow | .streamEnd => false

/-- Bytes 2 onward of a notice payload (12.6). -/
def NoticeFields.bytes (fields : NoticeFields) : List Byte :=
  match fields with
  | .ready reason => [readyReasonCode reason]
  | .poolLow freeCount mark => le16 freeCount ++ le16 mark
  | .linkError reason => [linkErrorCode reason]
  | .fault vpage reason => le16 vpage.val ++ [faultReasonCode reason]
  | .segmentDone slot pages => slotCode slot :: le32 pages.toNat
  | .triggered at_ => le16 at_.vpage.val ++ le16 at_.offset
  | .flow words => le32 words.toNat
  | .streamEnd reason at_ offending =>
    endReasonCode reason :: le16 at_.vpage.val ++ le16 at_.offset ++ option16 (fun (v : VPage) => v.val) offending

/-- A notice entry as it is sent: tag 00h, the stream or FFh, the occurrences, the fields (R150, 12.6). -/
def NoticeEntry.bytes (e : NoticeEntry) : List Byte :=
  messageBytes e.fields.kind.code 0
    (optionByte (fun (s : StreamId) => byteOf s.val) e.stream :: byteOf e.occurrences :: e.fields.bytes)

/-- A reply as it is sent (R150). -/
def Reply.bytes (r : Reply) : List Byte := messageBytes r.kind r.tag r.payload

end Sys2Proof.Machine
end

