-- ==== Sys2Proof/Machine/Ops.lean ====
section
/-! DEFINITION. The named operations over the state: reads and updates of each register, the frame store
(R127, R132), notices (R153 to R155), replies (R149), claims at the map unit (R22), requests at the arbiter
(R129, R130), the port of a stream (R54). -/

namespace Sys2Proof.Machine

/-! ### Registers -/

/-- Stream engine `i`. -/
def State.engine (s : State) (i : StreamId) : Engine := s.engines[i]

/-- Port `p`. -/
def State.port (s : State) (p : PortId) : Port := s.ports[p]

/-- The record of frame `f` (R1). -/
def State.frame (s : State) (f : FrameId) : FrameRecord := s.mapUnit.frames[f]

/-- The entry of a vpage in a stream's map (R20). -/
def State.entry (s : State) (i : StreamId) (v : VPage) : Option MapEntry := (s.mapUnit.maps[i])[v]

def State.setEngine (s : State) (i : StreamId) (e : Engine) : State :=
  { s with engines := s.engines.set i e }

/-- An update of one stream engine. -/
def State.modEngine (s : State) (i : StreamId) (f : Engine → Engine) : State := s.setEngine i (f (s.engine i))

def State.setPort (s : State) (p : PortId) (x : Port) : State :=
  { s with ports := s.ports.set p x }

def State.setMapUnit (s : State) (m : MapUnit) : State := { s with mapUnit := m }

def State.setFrame (s : State) (f : FrameId) (r : FrameRecord) : State :=
  { s with mapUnit := { s.mapUnit with frames := s.mapUnit.frames.set f r } }

def State.setEntry (s : State) (i : StreamId) (v : VPage) (e : Option MapEntry) : State :=
  { s with mapUnit := { s.mapUnit with maps := s.mapUnit.maps.set i ((s.mapUnit.maps[i]).set v e) } }

def State.setFreeQueue (s : State) (q : List FrameId) : State :=
  { s with mapUnit := { s.mapUnit with freeQueue := q } }

def State.setWaiters (s : State) (ws : List StreamId) : State :=
  { s with mapUnit := { s.mapUnit with waiters := ws } }

def State.setDeferred (s : State) (ds : List DeferredClaim) : State :=
  { s with mapUnit := { s.mapUnit with deferred := ds } }

def State.setClaims (s : State) (cs : List Claim) : State :=
  { s with mapUnit := { s.mapUnit with claims := cs } }

def State.setLowArmed (s : State) (armed : Bool) : State :=
  { s with mapUnit := { s.mapUnit with lowArmed := armed } }

def State.setArbiter (s : State) (a : Arbiter) : State := { s with arbiter := a }

def State.setStore (s : State) (m : Memory) : State := { s with store := m }

def State.setCommand (s : State) (c : CommandUnit) : State := { s with command := c }

def State.setLink (s : State) (l : Link) : State := { s with link := l }

/-- The port that a stream is bound to (R50, R54). -/
def State.portOf (s : State) (i : StreamId) : Option Port := (s.engine i).port.map s.port

/-- An update of the port that a stream is bound to. -/
def State.modPortOf (s : State) (i : StreamId) (f : Port → Port) : State :=
  match (s.engine i).port with
  | some p => s.setPort p (f (s.port p))
  | none => s

/-- The words in the FIFO of a stream's port. -/
def State.fifoOf (s : State) (i : StreamId) : List Word :=
  match s.portOf i with
  | some p => p.fifo
  | none => []

/-- Opens or closes the gate of a stream's port (R55). -/
def State.setGate (s : State) (i : StreamId) (isOpen : Bool) : State :=
  s.modPortOf i fun p => { p with gateOpen := isOpen }

/-- Replaces the FIFO of a stream's port. -/
def State.setFifo (s : State) (i : StreamId) (words : List Word) : State :=
  s.modPortOf i fun p => { p with fifo := words }

/-- The descriptor in a slot (R74). -/
def Engine.slot (e : Engine) (name : SlotName) : Option Descriptor :=
  match name with
  | .a => e.slotA
  | .b => e.slotB

/-- Puts a descriptor in a slot, or empties it (R76). -/
def Engine.setSlot (e : Engine) (name : SlotName) (d : Option Descriptor) : Engine :=
  match name with
  | .a => { e with slotA := d }
  | .b => { e with slotB := d }

/-- The other slot. -/
def otherSlot (name : SlotName) : SlotName :=
  match name with
  | .a => .b
  | .b => .a

/-- The descriptor that governs the activation (R77). -/
def Engine.activeDescriptor (e : Engine) : Option Descriptor :=
  e.activeSlot.bind e.slot

/-- Empties the active slot (R79). -/
def Engine.emptyActiveSlot (e : Engine) : Engine :=
  match e.activeSlot with
  | some name => e.setSlot name none
  | none => e

/-! ### Frame store -/

/-- The canonical form of the frame store: addresses strictly rising. A location that is not listed has no
byte of its own, so no listed byte can equal what an unlisted location reads as. -/
def Memory.wf (m : Memory) : Bool :=
  match m with
  | [] => true
  | (x, _) :: rest =>
    (match rest with
    | [] => true
    | (y, _) :: _ => x < y) && Memory.wf rest

/-- The byte that bursts have left at an address. -/
def Memory.read (m : Memory) (address : Nat) : Option Byte :=
  match m with
  | [] => none
  | (x, b) :: rest => if x = address then some b else Memory.read rest address

/-- Writes one byte, keeping the addresses in order. -/
def Memory.write (m : Memory) (address : Nat) (b : Byte) : Memory :=
  match m with
  | [] => [(address, b)]
  | (x, c) :: rest =>
    if address < x then (address, b) :: (x, c) :: rest
    else if address = x then (address, b) :: rest
    else (x, c) :: Memory.write rest address b

/-- Writes consecutive bytes. -/
def Memory.writeBytes (m : Memory) (address : Nat) (bytes : List Byte) : Memory :=
  match bytes with
  | [] => m
  | b :: rest => Memory.writeBytes (Memory.write m address b) (address + 1) rest

/-- The address of offset `o` of frame `f` (R127). -/
def address (f : FrameId) (o : Nat) : Nat := 4096 * f.val + o

/-- The byte at an address: the byte a burst left there, else the free value of the last power-on (R128, log
entry 1). -/
def State.storeByte (s : State) (a : Nat) : Byte :=
  (Memory.read s.store a).getD (Config.powerOnByte s.powerOns a)

/-- The bytes of consecutive offsets of a frame (R132). -/
def State.storeBytes (s : State) (f : FrameId) (o n : Nat) : List Byte :=
  (List.range n).map fun k => s.storeByte (address f o + k)

/-- A write burst puts its bytes into its frame (R132). -/
def State.storeWrite (s : State) (f : FrameId) (o : Nat) (bytes : List Byte) : State :=
  s.setStore (Memory.writeBytes s.store (address f o) bytes)

/-! ### Notices (R153 to R155) -/

/-- The fields of an entry after an occurrence: FLOW sums its word count, every other kind takes the newest
fields (R154). -/
def mergeFields (held new : NoticeFields) : NoticeFields :=
  match held, new with
  | .flow x, .flow y => .flow (saturatingAdd x y.toNat)
  | _, _ => new

/-- Whether an entry is of a kind and stream. -/
def NoticeEntry.isFor (e : NoticeEntry) (stream : Option StreamId) (kind : NoticeKind) : Bool :=
  e.stream == stream && e.fields.kind == kind

/-- An occurrence taken into a queue none of whose entries is frozen: coalesced into the entry of its kind and
stream, which keeps its place (R154), else appended at the tail (R153). -/
def coalesce (notices : List NoticeEntry) (stream : Option StreamId) (fields : NoticeFields) : List NoticeEntry :=
  match notices with
  | [] => [⟨stream, 1, fields⟩]
  | e :: rest =>
    if e.isFor stream fields.kind then
      { e with occurrences := addOccurrences e.occurrences 1, fields := mergeFields e.fields fields } :: rest
    else e :: coalesce rest stream fields

/-- An occurrence taken into the shadow record (R155). -/
def shadowWith (shadow : Option Shadow) (fields : NoticeFields) : Shadow :=
  match shadow with
  | none => ⟨1, fields⟩
  | some sh => ⟨addOccurrences sh.occurrences 1, mergeFields sh.fields fields⟩

/-- Whether a notice entry is frozen (R150). -/
def Link.noticeFrozen (l : Link) : Bool :=
  match l.sending with
  | some (.notice _ _) => true
  | _ => false

/-- The link takes one occurrence of a notice (R153): into the shadow record when the frozen entry, which
stands at the head of the queue, is of its kind and stream (R155); else by R153 and R154. -/
def Link.post (l : Link) (stream : Option StreamId) (fields : NoticeFields) : Link :=
  match l.noticeFrozen, l.notices with
  | true, e :: rest =>
    if e.isFor stream fields.kind then { l with shadow := some (shadowWith l.shadow fields) }
    else { l with notices := e :: coalesce rest stream fields }
  | _, notices => { l with notices := coalesce notices stream fields }

/-- A block posts an occurrence of a notice. -/
def State.post (s : State) (stream : Option StreamId) (fields : NoticeFields) : State :=
  s.setLink (s.link.post stream fields)

/-! ### Replies (R149) -/

/-- The command unit produces the reply of the current command: the reply is appended, the command leaves the
command queue, its reservation is released, and execution ends (R149, R159). -/
def State.produceReply (s : State) (payload : List Byte) : State :=
  match s.command.queue with
  | [] => s
  | m :: rest =>
    { s with
      link := { s.link with
        replies := s.link.replies ++ [⟨replyKind m.kind, m.tag, payload⟩]
        reservations := s.link.reservations - 1 }
      command := { queue := rest, current := none, execution := .ready, transfer := none } }

/-- The reply that carries a refusal's status alone (R172). -/
def State.refuse (s : State) (status : Status) : State := s.produceReply (statusPayload status)

/-- The stage of the current command. -/
def State.setStage (s : State) (command : HostCommand) (stage : CommandStage) : State :=
  s.setCommand { s.command with current := some ⟨command, stage⟩ }

/-- Whether a host command is the current command and has reached a stage (R159). -/
def State.isAt (s : State) (command : HostCommand) (stage : CommandStage) : Bool :=
  s.command.current == some ⟨command, stage⟩

/-! ### Claims at the map unit (R22) -/

/-- A requester sends a claim, which waits behind the claims that came before it (R22). -/
def State.sendClaim (s : State) (c : Claim) : State := s.setClaims (s.mapUnit.claims ++ [c])

/-- The map unit takes claims: it is not held in reset, and no pool initialisation is in progress (R22). -/
def State.mapUnitTakes (s : State) : Bool := s.heldInReset.isNone && !s.mapUnit.initInProgress

/-- The oldest waiting claim, if the map unit takes claims (R22). -/
def State.oldestClaim (s : State) : Option Claim :=
  if s.mapUnitTakes then s.mapUnit.claims.head? else none

/-- The oldest waiting claim is taken off the list. -/
def State.dropOldestClaim (s : State) : State := s.setClaims s.mapUnit.claims.tail

/-- Whether a claim is a stream engine's. -/
def Claim.isOf (c : Claim) (i : StreamId) : Bool :=
  match c with
  | .host => false
  | .engine j _ => j == i

/-- The offset of a stream's fill report. -/
def Claim.reportOf (c : Claim) (i : StreamId) : Option Nat :=
  match c with
  | .engine j (.fillReport _ offset) => if j = i then some offset else none
  | .engine _ _ | .host => none

/-- The offset of a stream's fill report that waits at the map unit (R96). -/
def State.waitingReport (s : State) (i : StreamId) : Option Nat :=
  s.mapUnit.claims.findSome? fun c => c.reportOf i

/-- A fill report: a new claim, or a new offset in the stream's waiting report, which keeps its place (R96). -/
def State.reportFill (s : State) (i : StreamId) (f : FrameId) (offset : Nat) : State :=
  if (s.waitingReport i).isSome then
    s.setClaims (s.mapUnit.claims.map fun c =>
      if (c.reportOf i).isSome then .engine i (.fillReport f offset) else c)
  else s.sendClaim (.engine i (.fillReport f offset))

/-- A seal claim withdraws the stream's waiting fill report and carries its offset (R96). The seal claim itself
waits behind the claims that came before it (DEDUCED, log entry 11). -/
def State.sendSeal (s : State) (i : StreamId) (claim : Option Nat → EngineClaim) : State :=
  let carried := s.waitingReport i
  let s := s.setClaims (s.mapUnit.claims.filter fun c => (c.reportOf i).isNone)
  s.sendClaim (.engine i (claim carried))

/-- Whether a stream engine still makes its own steps: it has not taken a restart (R166). -/
def Engine.isLive (e : Engine) : Bool :=
  match e.restart with
  | .none | .sent => true
  | .waitingBurst | .answered _ => false

/-- Whether the engine makes its own steps now: the part is out of reset (R164) and the engine has not taken a
restart (R166). -/
def State.engineLive (s : State) (i : StreamId) : Bool := s.heldInReset.isNone && (s.engine i).isLive

/-- Whether the engine takes a command, a trigger edge or a signal now: no claim of its own waits or is set
aside (R53, R111), no page change is in progress (R53: the page left, the next one not yet looked up, log entry 8),
and it has not taken a restart (R166). -/
def State.engineFree (s : State) (i : StreamId) : Bool :=
  s.engineLive i && !(s.mapUnit.claims.any fun c => c.isOf i)
    && !(s.mapUnit.deferred.any fun d => d.stream == i) && (s.engine i).due != .entering

/-! ### Requests at the arbiter (R129, R130) -/

/-- The arbiter's number of a stream engine (8.2). -/
def requesterOf (i : StreamId) : Requester := ⟨i.val, by omega⟩

/-- The host access port (8.2). -/
def hostRequester : Requester := 8

/-- Whether the burst in flight is a requester's (R129). -/
def State.burstInFlight (s : State) (r : Requester) : Bool :=
  match s.arbiter.inFlight with
  | some b => b.requester == r
  | none => false

/-- A requester makes a request (R129). -/
def State.request (s : State) (r : Requester) (req : BurstRequest) : State :=
  s.setArbiter { s.arbiter with requests := s.arbiter.requests.set r (some req) }

/-- A waiting request is withdrawn; without one nothing happens (R130). -/
def State.withdrawRequest (s : State) (i : StreamId) : State :=
  s.setArbiter { s.arbiter with requests := s.arbiter.requests.set (requesterOf i) none }

/-- The burst in flight ends (R131). -/
def State.endBurst (s : State) : State := s.setArbiter { s.arbiter with inFlight := none }

/-- The next burst of the host access port: the lesser of 64 bytes and the bytes not yet moved (R133). -/
def Transfer.nextRequest (t : Transfer) : BurstRequest :=
  { frame := t.frame, offset := t.offset + t.moved, length := min 64 (t.total - t.moved), isWrite := t.isWrite }

/-! ### A step and its occasion -/

/-- A step takes place on its occasion; offered at any other time it is none of the part's steps, and leaves the
state as it is (DESIGN CHOICE, log entry 2). -/
def takeStep (occasion : Bool) (s : State) (effect : State → State) : Host.Outcome State Fault Refusal :=
  .next (if occasion then effect s else s)

/-! ### Streams in WAIT_DATA (R4, R5, R116) -/

/-- The map unit signals every stream engine that is in WAIT_DATA on a frame (R4, R116). -/
def State.signal (s : State) (f : FrameId) : State :=
  { s with
    engines := s.engines.map fun e =>
      if e.state = .waitData ∧ e.currentPage.map (fun c => c.frame) = some f then
        { e with signals := e.signals ++ [f] }
      else e }

end Sys2Proof.Machine
end

