-- ==== Sys2Proof/Machine/Cache.lean ====
section
/-! DEFINITION. Translation caches (R39 to R49) and the purge handshake (R24, R46). -/

namespace Sys2Proof.Machine

/-- A translation cache: 4 entries (R39). -/
abbrev Cache := Vector (Option CacheEntry) 4

/-- An empty cache (R40). -/
def emptyCache : Cache := Vector.replicate 4 none

/-- The occupied entry that holds a vpage (R39, R43). -/
def cacheLookup (c : Cache) (v : VPage) : Option CacheEntry :=
  c.toList.findSome? fun entry =>
    match entry with
    | some e => if e.vpage = v then some e else none
    | none => none

/-- The entry of rank `r` becomes rank 0, and every entry of rank below `r` is raised by 1 (R41). -/
def touchRank (r : Nat) (e : CacheEntry) : CacheEntry :=
  if e.rank = r then { e with rank := 0 } else if e.rank < r then { e with rank := e.rank + 1 } else e

/-- A hit on the entry of rank `r` (R41). -/
def cacheTouch (c : Cache) (r : Nat) : Cache := c.map (Option.map (touchRank r))

/-- The lowest-numbered empty entry (R42). -/
def emptyIndex (cache : Cache) : Option (Fin 4) :=
  [(0 : Fin 4), 1, 2, 3].find? fun k => (cache[k]).isNone

/-- Installation of a translation (R42), with the change of ranks of R41: over the entry that holds the vpage,
else into the lowest-numbered empty entry, else in place of the entry of rank 3. -/
def cacheInstall (c : Cache) (v : VPage) (f : FrameId) (access : Access) : Cache :=
  let raised : Cache := c.map (Option.map fun e => { e with rank := e.rank + 1 })
  match cacheLookup c v with
  | some old =>
    c.map (Option.map fun e => if e.vpage = v then ⟨v, f, access, 0⟩ else touchRank old.rank e)
  | none =>
    match emptyIndex c with
    | some k => raised.set k (some ⟨v, f, access, 0⟩)
    | none =>
      c.map (Option.map fun e => if e.rank = 3 then ⟨v, f, access, 0⟩ else { e with rank := e.rank + 1 })

/-- Whether a vpage lies in the range of `count` pages from `first`. -/
def inPageRange (first : VPage) (count : Nat) (v : VPage) : Bool :=
  first.val ≤ v.val && v.val < first.val + count

/-- Drops every entry of a range, and closes up the ranks of the others (R41, R46). -/
def cacheDrop (c : Cache) (first : VPage) (count : Nat) : Cache :=
  let dropped : List Nat := c.toList.filterMap fun entry =>
    match entry with
    | some e => if inPageRange first count e.vpage then some e.rank else none
    | none => none
  c.map fun entry =>
    match entry with
    | some e =>
      if inPageRange first count e.vpage then none
      else some { e with rank := e.rank - (dropped.filter fun r => r < e.rank).length }
    | none => none

/-- A lookup that hits counts a hit and makes the entry rank 0 (R43, R44). -/
def Engine.hit (e : Engine) (entry : CacheEntry) : Engine :=
  { e with
    cache := cacheTouch e.cache entry.rank
    counters := { e.counters with cacheHits := e.counters.cacheHits + 1 } }

/-- Whether a stream answers a purge of a range with IN_USE: it is active and its current page lies in the
range (R24, R46). -/
def Engine.purgeInUse (e : Engine) (first : VPage) (count : Nat) : Bool :=
  e.state.isActive &&
    match e.currentPage with
    | some c => inPageRange first count c.vpage
    | none => false

/-- A purge answered CLEARED drops the entries of the range (R46). -/
def State.purge (s : State) (i : StreamId) (first : VPage) (count : Nat) : State :=
  s.setEngine i { s.engine i with cache := cacheDrop (s.engine i).cache first count }

end Sys2Proof.Machine
end

