-- ==== Sys2Proof/Machine/Stream.lean ====
section
/-! DEFINITION. What a stream engine does to itself on an answer or an ending: discarding captured words (R72),
entering DONE (R71) and FAILED (R70), a fault (R106, R107, R121), STOP in WAIT_FAULT (R66), receiving a frame
(R105), counting a page leave (R88, R97), moving through a segment (R75, R77, R78). -/

namespace Sys2Proof.Machine

/-! ### Endings -/

/-- The words in a capture FIFO are discarded and counted as words dropped (R72, R91). -/
def State.discardCapture (s : State) (i : StreamId) : State :=
  let n := (s.fifoOf i).length
  (s.setFifo i []).modEngine i fun e =>
    { e with counters := { e.counters with wordsDropped := saturatingAdd e.counters.wordsDropped n } }

/-- The stream enters DONE: gate closed, no current page, no active slot, STREAM_END posted (R51, R65, R71). -/
def State.enterDone (s : State) (i : StreamId) (reason : EndReason) : State :=
  let s := s.setGate i false
  let s := s.modEngine i fun e =>
    { e with
      state := .done, endReason := some reason, currentPage := none, activeSlot := none, faultRecord := none
      lookFill := none, due := .none }
  s.post (some i) (.streamEnd reason (s.engine i).position none)

/-- The stream fails on the READ_ONLY page `v` (R70, R110). -/
def State.enterFailed (s : State) (i : StreamId) (v : VPage) : State :=
  let s := (s.setGate i false).discardCapture i
  let s := s.modEngine i fun e =>
    { e with
      state := .failed, endReason := some .failed, currentPage := none, activeSlot := none, faultRecord := none
      position := ⟨v, 0⟩ }
  s.post (some i) (.streamEnd .failed ⟨v, 0⟩ (some v))

/-- STOP or ABORT of a capture stream in WAIT_FAULT (R66): DONE at once for reason ABSENT; for reason POOL_EMPTY
the ending seal claim is sent and the stream stays in WAIT_FAULT. -/
def State.stopInFault (s : State) (i : StreamId) (reason : EndReason) : State :=
  let s := (s.setGate i false).discardCapture i
  let s := s.modEngine i fun e => { e with endReason := some reason }
  match (s.engine i).faultRecord with
  | some ⟨_, .poolEmpty⟩ => s.sendSeal i .endingSeal
  | _ => s.enterDone i reason

/-! ### Faults and frames -/

/-- A page entry leaves the stream in WAIT_FAULT (R106, R107, R108, R121): fault record, faults taken, FAULT
notice; the gate open, unless a STOP or ABORT has been taken. A STOP drain that faults then acts as R66 gives
(R64). -/
def State.enterFault (s : State) (i : StreamId) (v : VPage) (reason : FaultReason) : State :=
  let before := s.engine i
  let s := s.setGate i before.endReason.isNone
  let s := s.modEngine i fun e =>
    { e with
      state := .waitFault, currentPage := none, position := ⟨v, 0⟩, faultRecord := some ⟨v, reason⟩
      lookFill := none, due := .none
      counters := { e.counters with faultsTaken := saturatingAdd e.counters.faultsTaken 1 } }
  let s := s.post (some i) (.fault v reason)
  match before.state, before.endReason with
  | .stopping, some ending => s.stopInFault i ending
  | _, _ => s

/-- The state a capture stream enters when a decision gives it a frame (R105). -/
def stateGivenFrame (state : StreamState) (ending : Option EndReason) : StreamState :=
  match state, ending with
  | .waitFault, some _ => .stopping
  | .waitFault, none => .running
  | other, _ => other

/-- A decision of the map unit gives a capture stream the frame `f` for page `v` (R105): installed in the cache,
current at offset 0, fault record cleared. -/
def State.giveFrame (s : State) (i : StreamId) (v : VPage) (f : FrameId) (access : Access) : State :=
  let before := s.engine i
  let s := s.modEngine i fun e =>
    { e with
      state := stateGivenFrame e.state e.endReason
      cache := cacheInstall e.cache v f access
      currentPage := some ⟨v, f⟩, position := ⟨v, 0⟩, faultRecord := none }
  if before.state = .waitFault ∧ before.endReason = none then s.setGate i true else s

/-! ### Segments -/

/-- The last page of a segment (R75). -/
def isLastPage (d : Descriptor) (v : VPage) : Bool := v.val + 1 == d.first.val + d.count

/-- The next page in the order of the segment (R75). -/
def nextPageOf (d : Descriptor) (v : VPage) : VPage := if isLastPage d v then d.first else v + 1

/-- The page after the page left: the next page of the active segment (R75). -/
def Engine.nextPage (e : Engine) (v : VPage) : VPage :=
  match e.activeDescriptor with
  | some d => nextPageOf d v
  | none => v

/-- Pages to go after the leave of page `v` (R88): decremented when the page left is the trigger page, or when
the count is already below post-trigger pages + 1. -/
def Engine.pagesToGoAfterLeave (e : Engine) (v : VPage) : Option Nat :=
  match e.pagesToGo with
  | none => none
  | some n =>
    let post := (e.activeDescriptor.map fun d => d.postTrigger).getD 0
    if e.triggerRecord.map (fun t => t.vpage) = some v ∨ n < post + 1 then some (n - 1) else some n

/-- The counts of a page leave (R97, R117, R88). -/
def Engine.countLeave (e : Engine) (v : VPage) : Engine :=
  { e with
    counters := { e.counters with pagesCompleted := e.counters.pagesCompleted + 1 }
    activationPages := saturatingAdd e.activationPages 1
    pagesToGo := e.pagesToGoAfterLeave v }

/-- Whether the leave or pass-over of page `v`, already counted, completes the segment (R78): the last page of a
ONCE segment, or a LOOP segment whose pages to go are brought to 0. -/
def Engine.completes (e : Engine) (v : VPage) : Bool :=
  match e.activeDescriptor with
  | none => false
  | some d =>
    match d.mode with
    | .once => isLastPage d v
    | .loop => e.pagesToGo == some 0

/-- An activation begins (R77). -/
def Engine.activate (e : Engine) (name : SlotName) : Engine :=
  { e with
    activeSlot := some name
    position := ⟨((e.slot name).map fun d => d.first).getD e.position.vpage, 0⟩
    pagesToGo := none, triggerRecord := none, activationPages := 0 }

end Sys2Proof.Machine
end

