-- ==== Sys2Proof/Machine/Pool.lean ====
section
/-! DEFINITION. The map unit's work on frames and entries: issue (R9), the low mark (R16), return (R11), sealing
(R5), the write claim (R101 to R111), hand-off (R15) and release (R11, R32). -/

namespace Sys2Proof.Machine

/-! ### Issue, return, seal -/

/-- After an issue from the queue: POOL_LOW when the free count is below the mark and the condition is armed,
which disarms it (R16). -/
def State.lowMarkCheck (s : State) : State :=
  if s.mapUnit.freeQueue.length < s.mapUnit.lowMark ∧ s.mapUnit.lowArmed = true then
    (s.setLowArmed false).post none (.poolLow s.mapUnit.freeQueue.length s.mapUnit.lowMark)
  else s

/-- A frame begins a new life: fill 0, unsealed, generation incremented by 1 (R9, R10). -/
def FrameRecord.renewed (r : FrameRecord) (writer : Option StreamId) : FrameRecord :=
  { r with fill := 0, isSealed := false, generation := r.generation + 1, writer := writer }

/-- Issue of a frame that has been taken out of the pool (R9). -/
def State.issue (s : State) (f : FrameId) (writer : Option StreamId) : State :=
  s.setFrame f { (s.frame f).renewed writer with state := .bound, refcount := 1 }

/-- Issue of a frame from the free-frame queue, from its head or from where it stands, with the low-mark check
(R9, R12, R16). -/
def State.issueFromQueue (s : State) (f : FrameId) (writer : Option StreamId) : State :=
  ((s.setFreeQueue (s.mapUnit.freeQueue.erase f)).issue f writer).lowMarkCheck

/-- Return of a frame whose refcount is 0: FREE, no writer, tail of the queue, re-arm check (R11, R16). -/
def State.returnToQueue (s : State) (f : FrameId) : State :=
  let s := s.setFrame f { s.frame f with state := .free, writer := none }
  let s := s.setFreeQueue (s.mapUnit.freeQueue ++ [f])
  if s.mapUnit.lowMark ≤ s.mapUnit.freeQueue.length then s.setLowArmed true else s

/-- Sets a frame's fill, signalling its readers if it rose (R4). -/
def State.setFill (s : State) (f : FrameId) (fill : Nat) : State :=
  let rose := (s.frame f).fill < fill
  let s := s.setFrame f { s.frame f with fill := fill }
  if rose then s.signal f else s

/-- Seals an unsealed frame and clears its writer, signalling its readers (R5); a sealed frame stays as it is. -/
def State.sealFrame (s : State) (f : FrameId) : State :=
  if (s.frame f).isSealed then s
  else (s.setFrame f { s.frame f with isSealed := true, writer := none }).signal f

/-- A seal claim: the carried offset, if any, becomes the fill, and then the frame is sealed (R96, R98, R65). -/
def State.sealAt (s : State) (f : FrameId) (carried : Option Nat) : State :=
  match carried with
  | some offset => (s.setFill f offset).sealFrame f
  | none => s.sealFrame f

/-! ### The write claim -/

/-- The decisions of the table of R101. -/
inductive WriteDecision where
  | allocate (f : FrameId)
  | waitAbsent
  | setAside
  | fail
  | inPlace (f : FrameId)
  | reuse (f : FrameId)
  | detach (old f : FrameId)
  | waitPool
  deriving DecidableEq, Repr

/-- The first line of R101 that applies. `next` is the frame that the pool can issue: the head of the queue, or
the frame being given back at a hand-off. -/
def State.decideWrite (s : State) (i : StreamId) (v : VPage) (next : Option FrameId) : WriteDecision :=
  match s.entry i v with
  | none =>
    match (s.engine i).faultPolicy with
    | some .allocate =>
      match next with
      | some f => .allocate f
      | none => .waitPool
    | _ => .waitAbsent
  | some e =>
    let r := s.frame e.frame
    if r.hostHold then .setAside
    else if e.access = .readOnly then .fail
    else if r.isSealed = false ∧ r.fill = 0 ∧ r.writer = none then .inPlace e.frame
    else if r.refcount ≤ 1 then .reuse e.frame
    else
      match next with
      | some f => .detach e.frame f
      | none => .waitPool

/-- Issue for a write claim: at a hand-off the frame is not in the queue, and no low-mark check is made (R9). -/
def State.issueFor (s : State) (i : StreamId) (f : FrameId) (handed : Bool) : State :=
  if handed then s.issue f (some i) else s.issueFromQueue f (some i)

/-- Carries a decision of R101 out, at the map unit and at the engine. -/
def State.applyWrite (s : State) (i : StreamId) (v : VPage) (handed : Bool) (decision : WriteDecision) : State :=
  match decision with
  | .allocate f =>
    ((s.issueFor i f handed).setEntry i v (some ⟨f, .readWrite⟩)).giveFrame i v f .readWrite
  | .waitAbsent => s.enterFault i v .absent
  | .setAside => s.setDeferred (s.mapUnit.deferred ++ [⟨i, .write v⟩])
  | .fail => s.enterFailed i v
  | .inPlace f => (s.setFrame f { s.frame f with writer := some i }).giveFrame i v f .readWrite
  | .reuse f => (s.setFrame f ((s.frame f).renewed (some i))).giveFrame i v f .readWrite
  | .detach old f =>
    let s := ((s.purge i v 1).issueFor i f handed).setEntry i v (some ⟨f, .readWrite⟩)
    (s.setFrame old { s.frame old with refcount := (s.frame old).refcount - 1 }).giveFrame i v f .readWrite
  | .waitPool => (s.setWaiters (s.mapUnit.waiters ++ [i])).enterFault i v .poolEmpty

/-- The map unit decides a write claim with the free-frame queue as the pool (R101). -/
def State.writeClaim (s : State) (i : StreamId) (v : VPage) : State :=
  s.applyWrite i v false (s.decideWrite i v s.mapUnit.freeQueue.head?)

/-! ### Hand-off and release -/

/-- Whether a decision issues a frame from the pool (R15, steps 3 and 4). -/
def WriteDecision.issues (d : WriteDecision) : Bool :=
  match d with
  | .allocate _ | .detach _ _ => true
  | .waitAbsent | .setAside | .fail | .inPlace _ | .reuse _ | .waitPool => false

/-- Whether a stream engine has stopped for a RESTART (R166). -/
def Engine.stoppedByRestart (e : Engine) : Bool :=
  match e.restart with
  | .answered _ => true
  | .none | .sent | .waitingBurst => false

/-- Hands a frame whose refcount is 0 to the oldest waiter of the list, or to the next one where the decision
does not issue it, or returns it to the queue (R15). A stream that has answered a restart only leaves the list
(R166). -/
def State.handOff (s : State) (waiters : List StreamId) (f : FrameId) : State :=
  match waiters with
  | [] => s.returnToQueue f
  | w :: rest =>
    let s := s.setWaiters rest
    if (s.engine w).stoppedByRestart then State.handOff s rest f
    else
      match (s.engine w).faultRecord with
      | none => State.handOff s rest f
      | some record =>
        let decision := s.decideWrite w record.vpage (some f)
        let s := s.applyWrite w record.vpage true decision
        if decision.issues then s else State.handOff s rest f

/-- One entry stops naming a frame (R11): the refcount falls by 1, and at 0 the frame is given back. -/
def State.release (s : State) (f : FrameId) : State :=
  let s := s.setFrame f { s.frame f with refcount := (s.frame f).refcount - 1 }
  if (s.frame f).refcount = 0 then s.handOff s.mapUnit.waiters f else s

/-- The result of passing over a range: the state, the entries made absent and the frames given back (R32). -/
structure ReleaseCount where
  state : State
  entries : Nat
  frames : Nat
  deriving DecidableEq, Repr

/-- Makes the present entries among `vs` absent, in order, releasing the frame of each (R32, R38). A page that a
hand-off within the same operation has made the stream's current page is in use by then (R24, R25) and is passed
over (DEDUCED, log entry 30). -/
def State.releasePages (s : State) (i : StreamId) (vs : List VPage) : ReleaseCount :=
  match vs with
  | [] => ⟨s, 0, 0⟩
  | v :: rest =>
    match s.entry i v with
    | none => State.releasePages s i rest
    | some e =>
      if (s.engine i).purgeInUse v 1 then State.releasePages s i rest
      else
        let given := if (s.frame e.frame).refcount - 1 = 0 then 1 else 0
        let r := State.releasePages ((s.setEntry i v none).release e.frame) i rest
        ⟨r.state, r.entries + 1, r.frames + given⟩

/-- The pages of a range in ascending order. -/
def pagesFrom (first : VPage) (count : Nat) : List VPage :=
  (List.range count).filterMap fun k => finOf? 512 (first.val + k)

end Sys2Proof.Machine
end

