-- ==== Sys2Proof/Machine/Paging.lean ====
section
/-! DEFINITION. Page entry, page evaluation, page leave and segment completion (R60, R75 to R81, R97, R100,
R115, R117 to R121), which commands, claims and burst completions share. A step of a replay stream makes at most one
leave or one lookup after a leave; what the engine goes on with then, `due` says (log entry 8). -/

namespace Sys2Proof.Machine

/-! ### Entering a page -/

/-- A capture stream sends the write claim for the page of its position (R100). -/
def State.sendWrite (s : State) (i : StreamId) : State :=
  s.sendClaim (.engine i (.write (s.engine i).position.vpage))

/-- What a fill look finds (R115): the offset below the fill, at the fill of a sealed frame, or at the fill of an
unsealed one. -/
inductive FillLook where
  | below (fill : Nat)
  | sealedEnd
  | openEnd
  deriving DecidableEq, Repr

/-- A fill look (R113) with the table of R115. -/
def State.fillLook (s : State) (f : FrameId) (offset : Nat) : FillLook :=
  if offset < (s.frame f).fill then .below (s.frame f).fill
  else if (s.frame f).isSealed then .sealedEnd
  else .openEnd

/-- The page of a replay stream in RUNNING is evaluated (R115), as far as the stream keeps the page; a page that is
to be left is marked so (log entry 8). -/
def State.evaluateEntry (s : State) (i : StreamId) : State :=
  match (s.engine i).currentPage with
  | none => s
  | some c =>
    match s.fillLook c.frame (s.engine i).position.offset with
    | .below fill => s.modEngine i fun e => { e with state := .running, lookFill := some fill, due := .none }
    | .sealedEnd => s.modEngine i fun e => { e with state := .running, lookFill := none, due := .leave }
    | .openEnd => s.modEngine i fun e => { e with state := .waitData, lookFill := none, due := .none }

/-- A replay stream enters the page of its position by a lookup in its cache (R44, R119): a hit makes the page
current and evaluates it, a miss sends a read claim. -/
def State.enterReplayPage (s : State) (i : StreamId) : State :=
  let v := (s.engine i).position.vpage
  match cacheLookup (s.engine i).cache v with
  | some entry =>
    (s.modEngine i fun e =>
      { e.hit entry with currentPage := some ⟨v, entry.frame⟩, due := .none, lookFill := none }).evaluateEntry i
  | none =>
    (s.modEngine i fun e =>
      { e with
        counters := { e.counters with cacheMisses := e.counters.cacheMisses + 1 }
        due := .none, lookFill := none }).sendClaim (.engine i (.read v))

/-- A replay stream that has left a page or chained is about to look up the page of its position. The lookup is a step
of its own, since a purge may be taken before it (R25 note 2, R46, log entry 8). -/
def State.goToNextPage (s : State) (i : StreamId) : State :=
  s.modEngine i fun e => { e with due := .entering, lookFill := none }

/-- The page entry that follows a chaining (R80): a write claim, or the lookup that a replay stream is about to make. -/
def State.enterChained (s : State) (i : StreamId) : State :=
  match (s.engine i).direction with
  | some .capture => s.sendWrite i
  | some .replay => s.goToNextPage i
  | none => s

/-- The page entry of the stream's direction at START, for the page of its position (R59, R60). -/
def State.enterPage (s : State) (i : StreamId) : State :=
  match (s.engine i).direction with
  | some .capture => s.sendWrite i
  | some .replay => s.enterReplayPage i
  | none => s

/-! ### Completion of a segment -/

/-- A replay stream that has emptied its FIFO to the lane empties the completed slot and enters DONE (R81). -/
def State.finishEmptying (s : State) (i : StreamId) (reason : EndReason) : State :=
  (s.modEngine i Engine.emptyActiveSlot).enterDone i reason

/-- A stream ends by COMPLETED or STARVED at page `v` (R79, R81). -/
def State.endSegment (s : State) (i : StreamId) (v : VPage) (reason : EndReason) : State :=
  match (s.engine i).direction with
  | some .replay =>
    let s := s.modEngine i fun e =>
      { e with
        state := .stopping, endReason := some reason, position := ⟨v, 0⟩, currentPage := none
        lookFill := none, due := .none }
    if (s.fifoOf i).isEmpty then s.finishEmptying i reason else s
  | _ =>
    let s := s.discardCapture i
    (s.modEngine i fun e => { e.emptyActiveSlot with position := ⟨v, 0⟩ }).enterDone i reason

/-- A segment completes at the leave or pass-over of page `v`, outside a STOP drain: SEGMENT_DONE is posted (R82),
and the stream chains to the other slot (R80) or ends (R81). -/
def State.completeSegment (s : State) (i : StreamId) (v : VPage) : State :=
  match (s.engine i).activeSlot, (s.engine i).activeDescriptor with
  | some name, some d =>
    let s := s.modEngine i fun e => { e with pagesToGo := none }
    let s := s.post (some i) (.segmentDone name (s.engine i).activationPages)
    if d.link then
      if ((s.engine i).slot (otherSlot name)).isSome then
        (s.modEngine i fun e => (e.setSlot name none).activate (otherSlot name)).enterChained i
      else s.endSegment i v .starved
    else s.endSegment i v .completed
  | _, _ => s

/-- The position goes to the page after `v` (R75). -/
def State.advancePage (s : State) (i : StreamId) (v : VPage) : State :=
  s.modEngine i fun e => { e with position := ⟨e.nextPage v, 0⟩ }

/-! ### Leaving a capture page -/

/-- The page leave of a STOP drain (R64): it ends the stream when it completes the segment or when the FIFO is
empty, and else enters the next page. -/
def State.leaveInDrain (s : State) (i : StreamId) (v : VPage) : State :=
  let reason := (s.engine i).endReason.getD .stopped
  if (s.engine i).completes v then
    let s := s.discardCapture i
    (s.modEngine i fun e =>
      { e.emptyActiveSlot with pagesToGo := none, position := ⟨v, 0⟩ }).enterDone i reason
  else
    let s := s.advancePage i v
    if (s.fifoOf i).isEmpty then s.enterDone i reason else s.sendWrite i

/-- A capture stream leaves page `v` when its leave seal claim has been taken (R97, steps 2 to 4). -/
def State.leaveCapturePage (s : State) (i : StreamId) (v : VPage) : State :=
  let s := s.modEngine i fun e => { e.countLeave v with currentPage := none }
  if (s.engine i).state = .stopping then s.leaveInDrain i v
  else if (s.engine i).completes v then s.completeSegment i v
  else (s.advancePage i v).sendWrite i

/-! ### Leaving a replay page -/

/-- The end of a replay page leave (R117, steps 3 and 4): the stream holds no current page until it has looked the next
one up (R25 note 2). -/
def State.afterReplayLeave (s : State) (i : StreamId) (v : VPage) : State :=
  let s := s.modEngine i fun e => { e with currentPage := none }
  if (s.engine i).completes v then s.completeSegment i v else (s.advancePage i v).goToNextPage i

/-- A replay stream leaves its current page (R117): under RELEASE the leave waits for the release claim. -/
def State.leaveReplayPage (s : State) (i : StreamId) (v : VPage) : State :=
  let s := s.modEngine i fun e => { e.countLeave v with state := .running, lookFill := none, due := .none }
  match (s.engine i).releasePolicy with
  | some .release => s.sendClaim (.engine i (.release v))
  | _ => s.afterReplayLeave i v

/-- A replay stream in RUNNING evaluates its page (R115), and leaves it at the fill of a sealed frame. -/
def State.evaluatePage (s : State) (i : StreamId) : State :=
  match (s.engine i).currentPage with
  | none => s
  | some c =>
    match s.fillLook c.frame (s.engine i).position.offset with
    | .sealedEnd => s.leaveReplayPage i c.vpage
    | .below _ | .openEnd => s.evaluateEntry i

/-! ### Answers to a replay stream -/

/-- A read claim answered present: the answer is installed and the page becomes current (R42, R119). A fault
record is cleared (R121). -/
def State.giveReplayPage (s : State) (i : StreamId) (v : VPage) (entry : MapEntry) : State :=
  s.modEngine i fun e =>
    { e with
      state := .running, cache := cacheInstall e.cache v entry.frame entry.access
      currentPage := some ⟨v, entry.frame⟩, position := ⟨v, 0⟩, faultRecord := none }

/-- A replay stream with policy SKIP passes over the absent page `v` (R120). The lookup of the next page is a step
of its own (log entry 8). -/
def State.passOver (s : State) (i : StreamId) (v : VPage) : State :=
  let s := s.modEngine i fun e =>
    { e with counters := { e.counters with pagesSkipped := saturatingAdd e.counters.pagesSkipped 1 } }
  if (s.engine i).completes v then s.completeSegment i v
  else (s.advancePage i v).modEngine i fun e => { e with due := .enter }

/-- The map unit answers a read claim (R119 to R121). The answer ends the page change (R53): a page that is to be left
at once is marked so (log entry 8). -/
def State.answerRead (s : State) (i : StreamId) (v : VPage) : State :=
  match s.entry i v with
  | some entry => (s.giveReplayPage i v entry).evaluateEntry i
  | none =>
    match (s.engine i).faultPolicy with
    | some .skip => s.passOver i v
    | _ => s.enterFault i v .absent

/-- The map unit takes a release claim for page `v` that no host hold keeps back (R118, steps 2 and 3), and the
engine goes on. -/
def State.decideRelease (s : State) (i : StreamId) (v : VPage) : State :=
  let s := s.purge i v 1
  match s.entry i v with
  | some entry => ((s.setEntry i v none).release entry.frame).afterReplayLeave i v
  | none => s.afterReplayLeave i v

/-! ### Retry and deferred claims -/

/-- The retry of R28, after entries of a range have been made present. -/
def State.retry (s : State) (i : StreamId) (first : VPage) (count : Nat) : State :=
  match (s.engine i).state, (s.engine i).faultRecord with
  | .waitFault, some ⟨v, .absent⟩ =>
    if inPageRange first count v then
      match (s.engine i).direction, s.entry i v with
      | some .capture, _ => s.writeClaim i v
      | some .replay, some entry => (s.giveReplayPage i v entry).evaluateEntry i
      | _, _ => s
    else s
  | _, _ => s

/-- A deferred claim is decided when the hold has cleared (R8). -/
def State.decideDeferred (s : State) (d : DeferredClaim) : State :=
  match d.claim with
  | .write v => s.writeClaim d.stream v
  | .release v => s.decideRelease d.stream v

/-- The deferred claims are decided, oldest first (R8). -/
def State.decideAllDeferred (s : State) : State :=
  s.mapUnit.deferred.foldl State.decideDeferred (s.setDeferred [])

/-! ### Ending a capture stream -/

/-- The end of a capture stream's drain or abort: with no burst in flight, and with the FIFO empty, it sends the
ending seal claim (R64, R65, R68). -/
def State.endWhenDrained (s : State) (i : StreamId) : State :=
  if (s.engine i).state = .stopping ∧ (s.fifoOf i).isEmpty ∧ s.burstInFlight (requesterOf i) = false then
    s.sendSeal i .endingSeal
  else s

end Sys2Proof.Machine
end

