-- ==== Sys2Proof/Machine/MapCommands.lean ====
section
/-! DEFINITION. The map and pool commands of the host (chapters 1 and 2): MAP, UNMAP, PROTECT, SHARE, QUERY_MAP,
QUERY_FRAME, POOL_STATUS, SET_POOL_MARK. Each is one claim of the command unit at the map unit (R22). -/

namespace Sys2Proof.Machine

/-- Whether the map unit takes the claim that carries this current command now: it is the oldest (R22). -/
def State.claimDue (s : State) (command : HostCommand) (stage : CommandStage) : Bool :=
  s.isAt command stage && s.oldestClaim == some .host

/-- The step at which the map unit takes the claim of a current command. -/
def takeHostClaim (command : HostCommand) (s : State) (effect : State → State) :
    Host.Outcome State Fault Refusal :=
  takeStep (s.claimDue command .handed) s fun s => effect s.dropOldestClaim

/-! ### MAP (R26, R27) -/

/-- A MAP that has passed its checks (R27): issue, entry, retry, reply. -/
def State.mapFrame (s : State) (i : StreamId) (access : Access) (v : VPage) (f : FrameId) : State :=
  let s := (s.issueFromQueue f none).setEntry i v (some ⟨f, access⟩)
  let generation := (s.frame f).generation
  (s.retry i v 1).produceReply (pairPayload f.val generation.toNat)

/-- The checks of R26, in their order. -/
def State.mapPage (s : State) (i : StreamId) (access : Access) (v : VPage) (frame : Option FrameId) : State :=
  match s.entry i v, frame with
  | some _, _ => s.refuse .exists_
  | none, none =>
    match s.mapUnit.freeQueue with
    | [] => s.refuse .poolEmpty
    | f :: _ => s.mapFrame i access v f
  | none, some f => if (s.frame f).state = .bound then s.refuse .frameTaken else s.mapFrame i access v f

/-- MAP (R27). -/
def execMap (stream : StreamId) (access : Access) (vpage : VPage) (frame : Option FrameId) (s : State) :
    Host.Outcome State Fault Refusal :=
  takeHostClaim (.map stream access vpage frame) s fun s => s.mapPage stream access vpage frame

/-! ### UNMAP (R30 to R32) -/

def State.unmapRange (s : State) (i : StreamId) (first : VPage) (count : Nat) : State :=
  if (s.engine i).purgeInUse first count then s.refuse .inUse
  else
    let r := (s.purge i first count).releasePages i (pagesFrom first count)
    r.state.produceReply (pairPayload r.entries r.frames)

/-- UNMAP (R32). -/
def execUnmap (stream : StreamId) (first : VPage) (count : Nat) (s : State) : Host.Outcome State Fault Refusal :=
  takeHostClaim (.unmap stream first count) s fun s => s.unmapRange stream first count

/-! ### PROTECT (R33, R34) -/

/-- Sets the access of one present entry. -/
def State.setAccess (s : State) (i : StreamId) (access : Access) (v : VPage) : State :=
  s.setEntry i v ((s.entry i v).map fun e => { e with access := access })

def State.protectRange (s : State) (i : StreamId) (access : Access) (first : VPage) (count : Nat) : State :=
  if (pagesFrom first count).any fun v => (s.entry i v).isNone then s.refuse .absent
  else if (s.engine i).purgeInUse first count then s.refuse .inUse
  else
    ((pagesFrom first count).foldl (fun (s : State) v => s.setAccess i access v) (s.purge i first count)).produceReply
      (countPayload count)

/-- PROTECT (R34). -/
def execProtect (stream : StreamId) (access : Access) (first : VPage) (count : Nat) (s : State) :
    Host.Outcome State Fault Refusal :=
  takeHostClaim (.protect stream access first count) s fun s => s.protectRange stream access first count

/-! ### SHARE (R35, R36) -/

/-- One pair of source and destination pages: the destination entry is made and the refcount raised (R36). -/
def State.sharePage (s : State) (source destination : StreamId) (access : Access) (pages : VPage × VPage) : State :=
  match s.entry source pages.1 with
  | none => s
  | some e =>
    let s := s.setEntry destination pages.2 (some ⟨e.frame, access⟩)
    s.setFrame e.frame { s.frame e.frame with refcount := (s.frame e.frame).refcount + 1 }

/-- Whether a stream's map names a frame at any page (R35, check 4). -/
def State.mapNames (s : State) (i : StreamId) (f : FrameId) : Bool :=
  (s.mapUnit.maps[i]).toList.any fun entry => entry.any fun e => e.frame == f

def State.shareRange (s : State) (source destination : StreamId) (access : Access)
    (sourceFirst destinationFirst : VPage) (count : Nat) : State :=
  let sources := pagesFrom sourceFirst count
  let destinations := pagesFrom destinationFirst count
  if source = destination then s.refuse .badCombination
  else if sources.any fun v => (s.entry source v).isNone then s.refuse .absent
  else if destinations.any fun v => (s.entry destination v).isSome then s.refuse .exists_
  else if sources.any fun v => (s.entry source v).any fun e => s.mapNames destination e.frame then
    s.refuse .exists_
  else
    let s := (sources.zip destinations).foldl
      (fun (s : State) pages => s.sharePage source destination access pages) s
    (s.retry destination destinationFirst count).produceReply (countPayload count)

/-- SHARE (R36). -/
def execShare (source destination : StreamId) (access : Access) (sourceFirst destinationFirst : VPage) (count : Nat)
    (s : State) : Host.Outcome State Fault Refusal :=
  takeHostClaim (.share source destination access sourceFirst destinationFirst count) s fun s =>
    s.shareRange source destination access sourceFirst destinationFirst count

/-! ### Queries and the mark -/

/-- QUERY_MAP (R37). -/
def execQueryMap (stream : StreamId) (first : VPage) (count : Nat) (s : State) :
    Host.Outcome State Fault Refusal :=
  takeHostClaim (.queryMap stream first count) s fun s =>
    s.produceReply (queryMapPayload stream first ((pagesFrom first count).map fun v => s.entry stream v))

/-- The position of a FREE frame in the free-frame queue, counted from the head (R19). -/
def State.queuePosition (s : State) (f : FrameId) : Option Nat :=
  match (s.frame f).state with
  | .free => s.mapUnit.freeQueue.idxOf? f
  | .bound => none

/-- QUERY_FRAME (R19). -/
def execQueryFrame (frame : FrameId) (s : State) : Host.Outcome State Fault Refusal :=
  takeHostClaim (.queryFrame frame) s fun s =>
    s.produceReply (queryFramePayload frame (s.frame frame) (s.queuePosition frame))

/-- The number of BOUND frames (R18). -/
def State.boundCount (s : State) : Nat := s.mapUnit.frames.toList.countP fun r => r.state == .bound

/-- POOL_STATUS (R18). -/
def execPoolStatus (s : State) : Host.Outcome State Fault Refusal :=
  takeHostClaim .poolStatus s fun s =>
    s.produceReply (poolStatusPayload s.mapUnit.freeQueue.length s.boundCount s.mapUnit.lowMark s.mapUnit.lowArmed
      s.mapUnit.initInProgress s.mapUnit.waiters)

/-- SET_POOL_MARK (R17). -/
def execSetPoolMark (mark : Nat) (s : State) : Host.Outcome State Fault Refusal :=
  takeHostClaim (.setPoolMark mark) s fun s =>
    (s.setMapUnit { s.mapUnit with lowMark := mark, lowArmed := true }).produceReply
      (pairPayload mark s.mapUnit.freeQueue.length)

end Sys2Proof.Machine
end

