-- ==== Sys2Proof/Machine/DataCommands.lean ====
section
/-! DEFINITION. The host's access to frame data (chapter 8): READ_DATA, WRITE_DATA, SEAL, the completion claim of a
write, and the bursts of the host access port. -/

namespace Sys2Proof.Machine

/-! ### READ_DATA (R134 to R136) -/

/-- The number of bytes that a READ_DATA reads below the fill of the snapshot (R134). -/
def readCount (fill offset length : Nat) : Nat := min length (fill - offset)

/-- The host access port begins a transfer and makes its first request (R133). -/
def State.beginTransfer (s : State) (command : HostCommand) (t : Transfer) : State :=
  (s.setCommand { s.command with current := some ⟨command, .transferring⟩, transfer := some t }).request
    hostRequester t.nextRequest

/-- The page look-up of READ_DATA (R134): the snapshot, and the first request when there are bytes to read. -/
def State.readPage (s : State) (i : StreamId) (v : VPage) (offset length : Nat) : State :=
  match s.entry i v with
  | none => s.produceReply readDataAbsentPayload
  | some e =>
    let r := s.frame e.frame
    let n := readCount r.fill offset length
    if n = 0 then s.produceReply (readDataPayload .ok e.frame r.generation [])
    else s.beginTransfer (.readData i v offset length)
      { frame := e.frame, offset := offset, total := n, moved := 0, generation := r.generation, isWrite := false
        data := [] }

/-- READ_DATA (R134). -/
def execReadData (stream : StreamId) (vpage : VPage) (offset length : Nat) (s : State) :
    Host.Outcome State Fault Refusal :=
  takeHostClaim (.readData stream vpage offset length) s fun s => s.readPage stream vpage offset length

/-! ### WRITE_DATA (R137 to R139) -/

/-- The hold-setting claim (R137, R138), with the checks in their order. -/
def State.writePage (s : State) (i : StreamId) (v : VPage) (offset : Nat) (data : List Byte) : State :=
  match s.entry i v with
  | none => s.refuse .absent
  | some e =>
    let r := s.frame e.frame
    if e.access = .readOnly then s.refuse .isProtected
    else if r.isSealed then s.refuse .isSealed
    else if r.writer.isSome then s.refuse .inUse
    else if r.fill < offset then s.refuse .gap
    else if 4096 < offset + data.length then s.refuse .badField
    else (s.setFrame e.frame { r with hostHold := true }).beginTransfer (.writeData i v offset data)
      { frame := e.frame, offset := offset, total := data.length, moved := 0, generation := r.generation
        isWrite := true, data := data }

/-- WRITE_DATA (R137). -/
def execWriteData (stream : StreamId) (vpage : VPage) (offset : Nat) (data : List Byte) (s : State) :
    Host.Outcome State Fault Refusal :=
  takeHostClaim (.writeData stream vpage offset data) s fun s => s.writePage stream vpage offset data

/-- The completion claim (R139): fill, signals, hold, deferred claims, and the reply with the fill after step 1. -/
def State.completeWrite (s : State) (t : Transfer) : State :=
  let s := s.setFill t.frame (max (s.frame t.frame).fill (t.offset + t.total))
  let r := s.frame t.frame
  ((s.setFrame t.frame { r with hostHold := false }).decideAllDeferred).produceReply
    (writeDataPayload t.frame r.generation r.fill)

/-- Whether the completion claim of a WRITE_DATA is the claim that the map unit takes now (R139). -/
def State.completionDue (s : State) : Bool :=
  (s.command.current.any fun c => c.stage == .completing) && s.oldestClaim == some .host

/-- WRITE_DATA_COMPLETION (R139). -/
def execWriteDataCompletion (s : State) : Host.Outcome State Fault Refusal :=
  takeStep s.completionDue s fun s =>
    match s.command.transfer with
    | some t => s.dropOldestClaim.completeWrite t
    | none => s

/-! ### SEAL (R140) -/

def State.sealCommand (s : State) (i : StreamId) (v : VPage) : State :=
  match s.entry i v with
  | none => s.refuse .absent
  | some e =>
    let r := s.frame e.frame
    if r.writer.isSome then s.refuse .inUse
    else (s.sealFrame e.frame).produceReply (sealPayload e.frame r.fill r.isSealed)

/-- SEAL (R140). -/
def execSealPage (stream : StreamId) (vpage : VPage) (s : State) : Host.Outcome State Fault Refusal :=
  takeHostClaim (.sealPage stream vpage) s fun s => s.sealCommand stream vpage

/-! ### Bursts of the host access port (R133) -/

/-- The bytes of a write transfer that its next burst carries (R133). -/
def Transfer.nextBytes (t : Transfer) : List Byte := (t.data.drop t.moved).take t.nextRequest.length

/-- A host burst has completed: the next request, or the end of the transfer (R133, R136, R139). -/
def State.continueTransfer (s : State) (t : Transfer) : State :=
  let s := s.setCommand { s.command with transfer := some t }
  if t.moved < t.total then s.request hostRequester t.nextRequest
  else if t.isWrite then
    let current := s.command.current.map fun (c : CurrentCommand) => { c with stage := .completing }
    (s.setCommand { s.command with current := current }).sendClaim .host
  else s.produceReply (readDataPayload .ok t.frame t.generation t.data)

/-- The completion of a host burst (R127, R132, R133). -/
def State.completeHostBurst (s : State) (b : Burst) : State :=
  match s.command.transfer with
  | none => s.endBurst
  | some t =>
    if b.isWrite then
      ((s.storeWrite b.frame b.offset b.data).endBurst).continueTransfer { t with moved := t.moved + b.length }
    else
      s.endBurst.continueTransfer
        { t with moved := t.moved + b.length, data := t.data ++ s.storeBytes b.frame b.offset b.length }

/-- HOST_BURST_COMPLETE (R133). -/
def execHostBurstComplete (s : State) : Host.Outcome State Fault Refusal :=
  takeStep (s.heldInReset.isNone && s.burstInFlight hostRequester) s fun s =>
    match s.arbiter.inFlight with
    | some b => s.completeHostBurst b
    | none => s

end Sys2Proof.Machine
end

