-- ==== Sys2Proof/Machine/Bursts.lean ====
section
/-! DEFINITION. Stream bursts and the arbiter: requests (R64, R93, R112), grants (R94, R114, R131, R135) and
completions (R95, R114). A stream engine that has taken a RESTART ends its burst as R166 gives. -/

namespace Sys2Proof.Machine

/-! ### Requests -/

/-- Whether a requester has neither a waiting request nor a burst in flight (R130). -/
def State.requesterIdle (s : State) (r : Requester) : Bool :=
  (s.arbiter.requests[r]).isNone && !s.burstInFlight r

/-- The conditions of R93 and, in a STOP drain, of R64; a page that is full is about to be left and takes no burst
(DEDUCED, log entry 9). -/
def State.captureWants (s : State) (i : StreamId) : Bool :=
  let e := s.engine i
  e.direction == some .capture && e.position.offset < 4096 &&
    match e.state with
    | .running => 32 ≤ (s.fifoOf i).length
    | .stopping => e.endReason == some .stopped && !(s.fifoOf i).isEmpty
    | .idle | .ready | .paused | .waitFault | .waitData | .done | .failed => false

/-- The length of a capture burst (R64, R94). -/
def captureLength (words offset : Nat) : Nat := 2 * min (min 32 words) ((4096 - offset) / 2)

/-- The burst lookup (R43): the entry of the current page, touched and counted as a hit. -/
def State.burstLookup (s : State) (i : StreamId) : Option CacheEntry :=
  (s.engine i).currentPage.bind fun c => cacheLookup (s.engine i).cache c.vpage

/-- A burst request with its lookup (R43, R93, R112). -/
def State.requestBurst (s : State) (i : StreamId) (length : Nat) (isWrite : Bool) : State :=
  match s.burstLookup i with
  | none => s
  | some entry =>
    (s.modEngine i fun e => e.hit entry).request (requesterOf i)
      { frame := entry.frame, offset := (s.engine i).position.offset, length := length, isWrite := isWrite }

/-- CAPTURE_BURST_REQUEST (R93). -/
def execCaptureBurstRequest (stream : StreamId) (s : State) : Host.Outcome State Fault Refusal :=
  takeStep (s.engineLive stream && s.requesterIdle (requesterOf stream) && s.captureWants stream) s fun s =>
    s.requestBurst stream (captureLength (s.fifoOf stream).length (s.engine stream).position.offset) true

/-- The bytes that the last fill look of a replay stream allows (R112, R114; log entry 20). -/
def Engine.bytesToRead (e : Engine) : Nat :=
  match e.lookFill with
  | some fill => min 64 (fill - e.position.offset)
  | none => 0

/-- The conditions of R112. -/
def State.replayWants (s : State) (i : StreamId) : Bool :=
  let e := s.engine i
  e.direction == some .replay && e.state == .running && 0 < e.bytesToRead && (s.fifoOf i).length ≤ 224

/-- REPLAY_BURST_REQUEST (R112). -/
def execReplayBurstRequest (stream : StreamId) (s : State) : Host.Outcome State Fault Refusal :=
  takeStep (s.engineLive stream && s.requesterIdle (requesterOf stream) && s.replayWants stream) s fun s =>
    s.requestBurst stream (s.engine stream).bytesToRead false

/-! ### Grants (R131) -/

/-- The arbiter with a burst granted: the request is no longer waiting (R131). -/
def State.granted (s : State) (b : Burst) : State :=
  s.setArbiter
    { requests := s.arbiter.requests.set b.requester none, inFlight := some b, lastGranted := b.requester }

/-- A capture grant (R94): the words leave the FIFO. -/
def State.grantCapture (s : State) (i : StreamId) (q : BurstRequest) : State :=
  let offset := (s.engine i).position.offset
  let n := captureLength (s.fifoOf i).length offset / 2
  let words := (s.fifoOf i).take n
  (s.setFifo i ((s.fifoOf i).drop n)).granted
    { requester := requesterOf i, frame := q.frame, offset := offset, length := 2 * n, isWrite := true
      data := words.flatMap wordBytes }

/-- A replay grant with its fill look (R114). -/
def State.grantReplay (s : State) (i : StreamId) (q : BurstRequest) : State :=
  let offset := (s.engine i).position.offset
  let fill := (s.frame q.frame).fill
  (s.modEngine i fun e => { e with lookFill := some fill }).granted
    { requester := requesterOf i, frame := q.frame, offset := offset, length := min 64 (fill - offset)
      isWrite := false, data := [] }

/-- A host grant with its generation look (R135): on a difference the burst is cancelled, completes at once, and the
command is answered TORN. -/
def State.grantHost (s : State) (q : BurstRequest) : State :=
  match s.command.transfer with
  | none => s
  | some t =>
    let b : Burst :=
      { requester := hostRequester, frame := q.frame, offset := q.offset, length := q.length, isWrite := q.isWrite
        data := if t.isWrite then t.nextBytes else [] }
    let seen := (s.frame t.frame).generation
    if t.isWrite = false ∧ seen ≠ t.generation then
      (s.granted b).endBurst.produceReply (readDataPayload .torn t.frame seen [])
    else s.granted b

/-- The grant to a requester, by its kind. -/
def State.grantTo (s : State) (r : Requester) : State :=
  match s.arbiter.requests[r] with
  | none => s
  | some q =>
    if h : r.val < 8 then
      if q.isWrite then s.grantCapture ⟨r.val, h⟩ q else s.grantReplay ⟨r.val, h⟩ q
    else s.grantHost q

/-- ARBITER_GRANT (R131). -/
def execArbiterGrant (s : State) : Host.Outcome State Fault Refusal :=
  takeStep (s.heldInReset.isNone && s.arbiter.inFlight.isNone) s fun s =>
    match s.arbiter.nextGrant with
    | some r => s.grantTo r
    | none => s

/-! ### Completions -/

/-- The position and the bytes moved after a completed burst of `n` bytes (R95, R114, R72). -/
def Engine.advanced (e : Engine) (n : Nat) : Engine :=
  { e with
    position := { e.position with offset := e.position.offset + n }
    counters := { e.counters with bytesMoved := e.counters.bytesMoved + BitVec.ofNat 32 n } }

/-- What a stopped engine's answer to a restart names: the current frame and offset of a capture stream with a
current page (R166, step 7). -/
def Engine.restartAnswer (e : Engine) : Option (FrameId × Nat) :=
  if e.direction = some .capture then e.currentPage.map fun c => (c.frame, e.position.offset) else none

/-- The end of a restart at a stream engine (R166, steps 5 to 7). -/
def State.answerRestart (s : State) (i : StreamId) : State :=
  (s.setFifo i []).modEngine i fun e =>
    { e with
      cache := emptyCache, lookFill := none, due := .none, signals := [], restart := .answered e.restartAnswer }

/-- Whether a burst of a stream, of a direction, is in flight. -/
def State.streamBurst (s : State) (i : StreamId) (isWrite : Bool) : Bool :=
  s.arbiter.inFlight.any fun b => b.requester == requesterOf i && b.isWrite == isWrite

/-- The bytes of a capture burst are in the store, and the position has advanced (R95). -/
def State.landCapture (s : State) (i : StreamId) (b : Burst) : State :=
  ((s.storeWrite b.frame b.offset b.data).endBurst).modEngine i fun e => e.advanced b.length

/-- What a capture stream does after a completed burst (R95): the fill report, then the page leave at 4096, or the
end of a drain or abort. -/
def State.afterCapture (s : State) (i : StreamId) : State :=
  match (s.engine i).currentPage with
  | none => s
  | some c =>
    let offset := (s.engine i).position.offset
    let s := s.reportFill i c.frame offset
    if offset = 4096 ∧ (s.engine i).endReason ≠ some .aborted then s.sendSeal i (.leaveSeal c.frame)
    else s.endWhenDrained i

/-- The completion of a capture burst. -/
def State.completeCapture (s : State) (i : StreamId) (b : Burst) : State :=
  let s := s.landCapture i b
  if (s.engine i).restart = .waitingBurst then s.answerRestart i else s.afterCapture i

/-- CAPTURE_BURST_COMPLETE (R95). -/
def execCaptureBurstComplete (stream : StreamId) (s : State) : Host.Outcome State Fault Refusal :=
  takeStep (s.heldInReset.isNone && s.streamBurst stream true) s fun s =>
    match s.arbiter.inFlight with
    | some b => s.completeCapture stream b
    | none => s

/-- What a replay stream does with the words of a completed burst, by its state (R114, R67). -/
def State.afterReplay (s : State) (i : StreamId) (words : List Word) : State :=
  match (s.engine i).state with
  | .running => (s.setFifo i (s.fifoOf i ++ words)).evaluatePage i
  | .stopping => s.enterDone i ((s.engine i).endReason.getD .stopped)
  | .idle | .ready | .paused | .waitFault | .waitData | .done | .failed => s.setFifo i (s.fifoOf i ++ words)

/-- The completion of a replay burst. -/
def State.completeReplay (s : State) (i : StreamId) (b : Burst) : State :=
  let words := bytesWords (s.storeBytes b.frame b.offset b.length)
  let s := s.endBurst.modEngine i fun e => e.advanced b.length
  if (s.engine i).restart = .waitingBurst then s.answerRestart i else s.afterReplay i words

/-- REPLAY_BURST_COMPLETE (R114). -/
def execReplayBurstComplete (stream : StreamId) (s : State) : Host.Outcome State Fault Refusal :=
  takeStep (s.heldInReset.isNone && s.streamBurst stream false) s fun s =>
    match s.arbiter.inFlight with
    | some b => s.completeReplay stream b
    | none => s

end Sys2Proof.Machine
end

