-- ==== Sys2Proof/Machine/Claims.lean ====
section
/-! DEFINITION. The claims of the stream engines as the map unit takes them (R22): fill report, leave seal, ending
seal, write, read and release; and the WAIT_DATA signals. -/

namespace Sys2Proof.Machine

/-- The claim of a stream engine that the map unit takes now: the oldest claim, if it is this stream's (R22). -/
def State.claimOf (s : State) (i : StreamId) : Option EngineClaim :=
  match s.oldestClaim with
  | some (.engine j c) => if j = i then some c else none
  | some .host | none => none

/-- The step at which the map unit takes a stream engine's claim. -/
def takeEngineClaim (i : StreamId) (s : State) (effect : EngineClaim → State → Option State) :
    Host.Outcome State Fault Refusal :=
  .next
    (match s.claimOf i with
    | none => s
    | some c => (effect c s.dropOldestClaim).getD s)

/-- FILL_REPORT (R96). -/
def execFillReport (stream : StreamId) (s : State) : Host.Outcome State Fault Refusal :=
  takeEngineClaim stream s fun c s =>
    match c with
    | .fillReport f offset => some (s.setFill f offset)
    | .leaveSeal _ _ | .endingSeal _ | .write _ | .read _ | .release _ => none

/-- A leave seal claim (R98), and what the engine then does (R97). -/
def State.takeLeaveSeal (s : State) (i : StreamId) (f : FrameId) (carried : Option Nat) : State :=
  (s.sealAt f carried).leaveCapturePage i (s.engine i).position.vpage

/-- LEAVE_SEAL_CLAIM (R98). -/
def execLeaveSealClaim (stream : StreamId) (s : State) : Host.Outcome State Fault Refusal :=
  takeEngineClaim stream s fun c s =>
    match c with
    | .leaveSeal f carried => some (s.takeLeaveSeal stream f carried)
    | .fillReport _ _ | .endingSeal _ | .write _ | .read _ | .release _ => none

/-- The map unit's part of an ending seal claim (R65): the current frame is sealed, and the stream leaves the
pool-waiter list; with its place it gives up a write claim that is set aside (DEDUCED, log entry 25). -/
def State.giveUpPlace (s : State) (i : StreamId) (carried : Option Nat) : State :=
  let s :=
    match (s.engine i).currentPage with
    | some c => s.sealAt c.frame carried
    | none => s
  (s.setWaiters (s.mapUnit.waiters.filter fun w => w != i)).setDeferred
    (s.mapUnit.deferred.filter fun d => d.stream != i)

/-- The stream after its ending seal claim: DONE, or FAILED as a hand-off left it (R65, R66). -/
def State.endBySeal (s : State) (i : StreamId) : State :=
  if (s.engine i).state = .failed then s else s.enterDone i ((s.engine i).endReason.getD .stopped)

/-- The reply of a STOP or ABORT that waited for the ending seal claim (R66). -/
def State.answerStop (s : State) (i : StreamId) : State :=
  if s.isAt (.stop i) .awaitingEndingSeal ∨ s.isAt (.abort i) .awaitingEndingSeal then
    s.produceReply (statusPayload .ok)
  else s

/-- ENDING_SEAL_CLAIM (R65). -/
def execEndingSealClaim (stream : StreamId) (s : State) : Host.Outcome State Fault Refusal :=
  takeEngineClaim stream s fun c s =>
    match c with
    | .endingSeal carried => some (((s.giveUpPlace stream carried).endBySeal stream).answerStop stream)
    | .fillReport _ _ | .leaveSeal _ _ | .write _ | .read _ | .release _ => none

/-- WRITE_CLAIM (R101). -/
def execWriteClaim (stream : StreamId) (s : State) : Host.Outcome State Fault Refusal :=
  takeEngineClaim stream s fun c s =>
    match c with
    | .write v => some (s.writeClaim stream v)
    | .fillReport _ _ | .leaveSeal _ _ | .endingSeal _ | .read _ | .release _ => none

/-- What a replay engine goes on with, with no claim of its own waiting: the lookup of the page of its position, after
a pass-over (R120), a page leave (R117) or a chaining (R80), or the leave of a page entered at the fill of a sealed
frame (R115). Log entry 8. -/
def State.continuePageChange (s : State) (i : StreamId) : State :=
  if s.engineLive i then
    match (s.engine i).due with
    | .enter | .entering => s.enterReplayPage i
    | .leave => s.evaluatePage i
    | .none => s
  else s

/-- READ_CLAIM (R119): the map unit answers a read claim; without one, the page change that is due goes on. -/
def execReadClaim (stream : StreamId) (s : State) : Host.Outcome State Fault Refusal :=
  match s.claimOf stream with
  | some (.read v) => .next (s.dropOldestClaim.answerRead stream v)
  | some (.fillReport _ _) | some (.leaveSeal _ _) | some (.endingSeal _) | some (.write _) | some (.release _)
  | none => .next (s.continuePageChange stream)

/-- Whether a host hold keeps a release claim back (R118, step 1). -/
def State.releaseHeld (s : State) (i : StreamId) (v : VPage) : Bool :=
  (s.entry i v).any fun e => (s.frame e.frame).hostHold && (s.frame e.frame).refcount ≤ 1

/-- The map unit takes a release claim (R118): the page stops being current (R117), and the claim is decided or set
aside. -/
def State.takeRelease (s : State) (i : StreamId) (v : VPage) : State :=
  let s := s.modEngine i fun e => { e with currentPage := none }
  if s.releaseHeld i v then s.setDeferred (s.mapUnit.deferred ++ [⟨i, .release v⟩]) else s.decideRelease i v

/-- RELEASE_CLAIM (R118). -/
def execReleaseClaim (stream : StreamId) (s : State) : Host.Outcome State Fault Refusal :=
  takeEngineClaim stream s fun c s =>
    match c with
    | .release v => some (s.takeRelease stream v)
    | .fillReport _ _ | .leaveSeal _ _ | .endingSeal _ | .write _ | .read _ => none

/-- The oldest signal is taken (R116): it reaches only a stream in WAIT_DATA on its frame. -/
def State.takeSignal (s : State) (i : StreamId) : State :=
  match (s.engine i).signals with
  | [] => s
  | f :: rest =>
    let s := s.modEngine i fun e => { e with signals := rest }
    if (s.engine i).state = .waitData ∧ (s.engine i).currentPage.map (fun c => c.frame) = some f then
      (s.modEngine i fun e => { e with state := .running }).evaluatePage i
    else s

/-- WAIT_DATA_SIGNAL (R116). -/
def execWaitDataSignal (stream : StreamId) (s : State) : Host.Outcome State Fault Refusal :=
  takeStep (s.engineFree stream) s fun s => s.takeSignal stream

end Sys2Proof.Machine
end

