-- ==== Sys2Proof/Machine/CommandUnit.lean ====
section
/-! DEFINITION. The command unit (chapter 10): COMMAND_TAKE, HELLO, and RESTART with its four stages. -/

namespace Sys2Proof.Machine

/-! ### Taking a command (R159, R160) -/

/-- Whether the command unit takes a command now: it is ready, and a command is queued (R159). -/
def State.takesCommand (s : State) : Bool :=
  s.heldInReset.isNone && s.command.execution == .ready && !s.command.queue.isEmpty

/-- The commands whose owner is the map unit, to which the command unit sends a claim (R22, R160). -/
def ownedByMapUnit (command : HostCommand) : Bool :=
  match command with
  | .map _ _ _ _ | .unmap _ _ _ | .protect _ _ _ _ | .share _ _ _ _ _ _ | .queryMap _ _ _ | .queryFrame _
  | .poolStatus | .setPoolMark _ | .readData _ _ _ _ | .writeData _ _ _ _ | .sealPage _ _ => true
  | .hello | .restart _ | .openStream _ _ _ _ _ | .closeStream _ _ | .arm _ _ _ | .start _ _ | .pause _
  | .resume _ | .stop _ | .abort _ | .trigger _ | .queryStream _ => false

/-- A command is handed to its owner: it is the current command, and a claim carries it where its owner is the map
unit. -/
def State.handCommand (s : State) (command : HostCommand) : State :=
  let s := s.setCommand { s.command with current := some ⟨command, .handed⟩, execution := .executing }
  if ownedByMapUnit command then s.sendClaim .host else s

/-- The head of the command queue is taken and checked (R160). -/
def State.takeCommand (s : State) : State :=
  match s.command.queue with
  | [] => s
  | m :: _ =>
    match readCommand m with
    | .error status => s.refuse status
    | .ok command => s.handCommand command

/-- COMMAND_TAKE (R159). -/
def execCommandTake (s : State) : Host.Outcome State Fault Refusal :=
  takeStep s.takesCommand s State.takeCommand

/-- HELLO (R163). -/
def execHello (s : State) : Host.Outcome State Fault Refusal :=
  takeStep (s.isAt .hello .handed) s fun s => s.produceReply helloPayload

/-! ### RESTART, stage one (R166) -/

/-- The number of streams that are not IDLE (R168). -/
def State.notIdle (s : State) : Nat := s.engines.toList.countP fun e => e.state != .idle

/-- The restart is sent to all eight stream engines (R166). -/
def State.sendRestart (s : State) (scope : RestartScope) : State :=
  ({ s with engines := s.engines.map fun e => { e with restart := .sent } } : State).setStage (.restart scope)
    (.stoppingEngines s.notIdle)

/-- RESTART with scope STREAMS (R168). -/
def execRestartStreams (s : State) : Host.Outcome State Fault Refusal :=
  takeStep (s.isAt (.restart .streams) .handed) s fun s => s.sendRestart .streams

/-- RESTART with scope ALL (R169). -/
def execRestartAll (s : State) : Host.Outcome State Fault Refusal :=
  takeStep (s.isAt (.restart .all) .handed) s fun s => s.sendRestart .all

/-- A stream engine takes the restart (R166, steps 1 to 4): it answers at once, or waits for its burst. -/
def State.stopEngine (s : State) (i : StreamId) : State :=
  if (s.engine i).state = .idle then s.modEngine i fun e => { e with restart := .answered none }
  else
    let s := s.modPortOf i fun p => { p with gateOpen := false, edgePending := false }
    let s := s.withdrawRequest i
    let s := s.setClaims (s.mapUnit.claims.filter fun c => !c.isOf i)
    if s.burstInFlight (requesterOf i) then s.modEngine i fun e => { e with restart := .waitingBurst }
    else s.answerRestart i

/-- ENGINE_RESTART (R166). -/
def execEngineRestart (stream : StreamId) (s : State) : Host.Outcome State Fault Refusal :=
  takeStep (s.heldInReset.isNone && (s.engine stream).restart == .sent) s fun s => s.stopEngine stream

/-! ### RESTART, stages two to four (R167 to R169) -/

/-- What an engine's answer gives to be sealed. -/
def RestartStage.toSeal (stage : RestartStage) : Option (FrameId × Nat) :=
  match stage with
  | .answered f => f
  | .none | .sent | .waitingBurst => Option.none

/-- A capture current frame is sealed at the answered offset, with no signal (R167, step 1). -/
def State.sealForRestart (s : State) (answer : FrameId × Nat) : State :=
  s.setFrame answer.1 { s.frame answer.1 with fill := answer.2, isSealed := true, writer := none }

/-- The restart claim of either scope (R167). -/
def State.restartMapUnit (s : State) : State :=
  (((s.engines.toList.filterMap fun e => e.restart.toSeal).foldl State.sealForRestart s).setWaiters []).setDeferred []

/-- The streams and ports are cleared (R168). -/
def State.clearStreams (s : State) : State :=
  { s with engines := Vector.replicate 8 Engine.reset, ports := Vector.replicate 4 Port.unbound }

/-- The notice queue without its stream entries (R158). -/
def globalNotices (notices : List NoticeEntry) : List NoticeEntry :=
  notices.filter fun e => e.fields.kind.isGlobal

/-- The restart's step at the link (R158): a frozen stream notice is marked for removal and its shadow record
emptied. -/
def Link.restarted (l : Link) : Link :=
  match l.sending, l.notices with
  | some (.notice bytes _), e :: rest =>
    if e.fields.kind.isGlobal then { l with notices := e :: globalNotices rest }
    else
      { l with notices := e :: globalNotices rest, sending := some (.notice bytes true), shadow := none }
  | _, notices => { l with notices := globalNotices notices }

/-- A frame record after RESTART ALL (R2, R169). -/
def FrameRecord.restarted (r : FrameRecord) : FrameRecord :=
  { FrameRecord.reset with generation := r.generation + 1 }

/-- The part of the restart claim that RESTART ALL adds (R169, steps 4 to 6). The mark is kept (R16). R16 arms the
low condition when the initialisation completes; until then it keeps its value (DESIGN CHOICE, log entry 13). -/
def State.clearMaps (s : State) : State :=
  s.setMapUnit
    { s.mapUnit with
      frames := s.mapUnit.frames.map FrameRecord.restarted
      maps := Vector.replicate 8 (Vector.replicate 512 none)
      freeQueue := [], initInProgress := true, initNext := 0, initReason := .restartAll }

/-- The restart claim with the stages that follow it (R167 to R169; one step, log entry 24). -/
def State.restart (s : State) (scope : RestartScope) (notIdle : Nat) : State :=
  let stopped := s.restartMapUnit
  match scope with
  | .streams =>
    let s := stopped.clearStreams
    (s.setLink s.link.restarted).produceReply (restartPayload .streams notIdle)
  | .all =>
    let s := stopped.clearMaps.clearStreams
    (s.setLink s.link.restarted).setStage (.restart .all) (.initialising notIdle)

/-- Whether every stream engine has answered the restart (R167). -/
def State.allStopped (s : State) : Bool := s.engines.toList.all Engine.stoppedByRestart

/-- The restart that waits for its claim, with the number of streams that were not IDLE. -/
def State.restartDue (s : State) : Option (RestartScope × Nat) :=
  match s.command.current with
  | some ⟨.restart scope, .stoppingEngines n⟩ => if s.mapUnitTakes && s.allStopped then some (scope, n) else none
  | _ => none

/-- RESTART_CLAIM (R167). -/
def execRestartClaim (s : State) : Host.Outcome State Fault Refusal :=
  .next
    (match s.restartDue with
    | some (scope, n) => s.restart scope n
    | none => s)

end Sys2Proof.Machine
end

