-- ==== Sys2Proof/Machine/LinkEvents.lean ====
section
/-! DEFINITION. The control link (chapter 9): transactions, inbound messages and admission, the selection and sending
of outbound messages. Bytes are the unit (log entry 18). -/

namespace Sys2Proof.Machine

def State.setTransaction (s : State) (t : TransactionState) : State :=
  s.setLink { s.link with transaction := t }

/-- Whether the link is in a transaction state, out of reset (R141, R156). -/
def State.transactionIs (s : State) (t : TransactionState) : Bool :=
  s.heldInReset.isNone && s.link.transaction == t

/-- The link posts an occurrence of LINK_ERROR (R146). -/
def State.linkError (s : State) (reason : LinkErrorReason) : State := s.post none (.linkError reason)

/-! ### The beginning of a transaction (R141, R142) -/

/-- CS_N falls (R141). While the part is held in reset the link takes no transaction (R156). -/
def State.csFall (s : State) : State :=
  let s := s.setLink { s.link with csHigh := false }
  if s.heldInReset.isNone then s.setTransaction .start else s

/-- CS_N_FALL (R141). -/
def execCsNFall (s : State) : Host.Outcome State Fault Refusal :=
  takeStep s.link.csHigh s State.csFall

/-- WRITE_TRANSACTION_START (R141): the first byte was A5h. -/
def execWriteTransactionStart (s : State) : Host.Outcome State Fault Refusal :=
  takeStep (s.transactionIs .start) s fun s => s.setTransaction .write

/-- BAD_START (R142): the first byte was neither A5h nor 5Ah. -/
def execBadStart (first : Byte) (s : State) : Host.Outcome State Fault Refusal :=
  takeStep (s.transactionIs .start && first != 0xA5 && first != 0x5A) s fun s =>
    (s.linkError .badStart).setTransaction .ignore

/-! ### Inbound messages (R143 to R148) -/

/-- The largest payload of an inbound message (R143). -/
def maxPayload : Nat := 264

/-- OVERSIZE (R145): the length field is above 264. -/
def execOversize (_kind _tag : Byte) (length : Word) (s : State) : Host.Outcome State Fault Refusal :=
  takeStep (s.transactionIs .write && maxPayload < length.toNat) s fun s =>
    (s.linkError .oversize).setTransaction .writeIgnore

/-- The replies in the reply queue plus the reservations (R147). -/
def State.replyPlaces (s : State) : Nat := s.link.replies.length + s.link.reservations

/-- An intact message is admitted (R147). -/
def State.admitMessage (s : State) (m : Message) : State :=
  (s.setCommand { s.command with queue := s.command.queue ++ [m] }).setLink
    { s.link with reservations := s.link.reservations + 1 }

/-- The FULL reply (R148). -/
def State.answerFull (s : State) (m : Message) : State :=
  s.setLink { s.link with replies := s.link.replies ++ [⟨replyKind m.kind, m.tag, statusPayload .full⟩] }

/-- An intact message is taken for admission (R147, R148). -/
def State.takeForAdmission (s : State) (m : Message) : State :=
  if s.replyPlaces < 8 then
    if s.command.queue.length < 4 then s.admitMessage m else s.answerFull m
  else s.linkError .discarded

/-- Whether the CRC received is that of the message (R144). -/
def isIntact (m : Message) (crc : Word) : Bool := crc16 (messageBody m.kind m.tag m.payload) == crc

/-- INBOUND_MESSAGE (R143): the second CRC byte has been received. -/
def execInboundMessage (kind tag : Byte) (payload : List Byte) (crc : Word) (s : State) :
    Host.Outcome State Fault Refusal :=
  takeStep (s.transactionIs .write && payload.length ≤ maxPayload) s fun s =>
    let m : Message := ⟨kind, tag, payload⟩
    let s := s.setTransaction .writeIgnore
    if isIntact m crc then s.takeForAdmission m else s.linkError .crc

/-! ### Outbound messages (R150, R151, R155) -/

/-- The message that a read transaction sends (R150). -/
def Link.selected (l : Link) : Sending :=
  match l.replies, l.notices with
  | r :: _, _ => .reply r.bytes
  | [], e :: _ => .notice e.bytes false
  | [], [] => .empty emptyMessage

/-- READ_SELECT (R150): the first byte was 5Ah. -/
def execReadSelect (s : State) : Host.Outcome State Fault Refusal :=
  takeStep (s.transactionIs .start) s fun s =>
    s.setLink { s.link with transaction := .read, sending := some s.link.selected }

/-- A notice entry leaves the head of the queue, and a shadow record becomes a new entry of its kind and stream at
the tail (R155). -/
def Link.dropNotice (l : Link) : Link :=
  match l.notices with
  | [] => { l with sending := none, shadow := none }
  | e :: rest =>
    match l.shadow with
    | none => { l with notices := rest, sending := none }
    | some sh =>
      { l with notices := rest ++ [⟨e.stream, sh.occurrences, sh.fields⟩], sending := none, shadow := none }

/-- The shadow record is merged into the entry at the head (R155). -/
def Link.mergeShadow (l : Link) : Link :=
  match l.notices, l.shadow with
  | e :: rest, some sh =>
    { l with
      notices :=
        { e with
          occurrences := addOccurrences e.occurrences sh.occurrences
          fields := mergeFields e.fields sh.fields } :: rest
      sending := none, shadow := none }
  | _, _ => { l with sending := none, shadow := none }

/-- A complete send (R151). -/
def Link.sent (l : Link) : Link :=
  match l.sending with
  | some (.reply _) => { l with replies := l.replies.tail, sending := none }
  | some (.notice _ _) => l.dropNotice
  | some (.empty _) | none => { l with sending := none }

/-- A send cut short (R151): an entry marked by a restart is removed all the same (R158). -/
def Link.cutShort (l : Link) : Link :=
  match l.sending with
  | some (.notice _ true) => l.dropNotice
  | some (.notice _ false) => l.mergeShadow
  | some (.reply _) | some (.empty _) | none => { l with sending := none }

/-- SEND_COMPLETE (R151): the last byte of the frozen message has been clocked. -/
def execSendComplete (s : State) : Host.Outcome State Fault Refusal :=
  takeStep (s.transactionIs .read && s.link.sending.isSome) s fun s => s.setLink s.link.sent

/-! ### The end of a transaction (R141, R145, R151) -/

/-- What the end of a transaction does, by its state. -/
def State.endTransaction (s : State) : State :=
  match s.link.transaction with
  | .write => s.linkError .truncated
  | .read => s.setLink s.link.cutShort
  | .idle | .start | .writeIgnore | .ignore => s

/-- CS_N rises (R141). -/
def State.csRise (s : State) : State :=
  let s := if s.heldInReset.isNone then s.endTransaction else s
  s.setLink { s.link with csHigh := true, transaction := .idle }

/-- CS_N_RISE (R141). -/
def execCsNRise (s : State) : Host.Outcome State Fault Refusal :=
  takeStep (!s.link.csHigh) s State.csRise

end Sys2Proof.Machine
end

