-- ==== Sys2Proof/Machine/PortEvents.lean ====
section
/-! DEFINITION. The lanes and the trigger inputs: capture strobes (R90 to R92), replay strobes (R122, R123), trigger
edges (R84). -/

namespace Sys2Proof.Machine

/-- A lane strobe and a trigger edge reach a port while the part is out of reset (R164). -/
def State.boundStream (s : State) (port : PortId) : Option StreamId :=
  if s.heldInReset.isNone then (s.port port).bound else none

/-- Whether a port has a direction and its gate is open. -/
def Port.opensTo (p : Port) (direction : Direction) : Bool := p.direction == some direction && p.gateOpen

/-- A word is offered to an open capture port (R90, R91). -/
def State.offerWord (s : State) (port : PortId) (i : StreamId) (word : Word) : State :=
  let p := s.port port
  if p.fifo.length < 256 then s.setPort port { p with fifo := p.fifo ++ [word] }
  else
    (s.modEngine i fun e =>
      { e with counters := { e.counters with wordsDropped := saturatingAdd e.counters.wordsDropped 1 } }).post
      (some i) (.flow 1)

/-- CAPTURE_STROBE (R90). -/
def execCaptureStrobe (port : PortId) (word : Word) (s : State) : Host.Outcome State Fault Refusal :=
  .next
    (match s.boundStream port with
    | some i => if (s.port port).opensTo .capture then s.offerWord port i word else s
    | none => s)

/-- The states in which an underrun counts (R123). -/
def StreamState.underruns (state : StreamState) : Bool :=
  match state with
  | .running | .waitData | .waitFault => true
  | .idle | .ready | .paused | .stopping | .done | .failed => false

/-- An underrun (R123). -/
def State.underrun (s : State) (i : StreamId) : State :=
  if (s.engine i).state.underruns then
    (s.modEngine i fun e =>
      { e with counters := { e.counters with underrunWords := saturatingAdd e.counters.underrunWords 1 } }).post
      (some i) (.flow 1)
  else s

/-- The lane has taken a word of a stream that empties its FIFO: with the last one the stream enters DONE (R81). -/
def State.afterWord (s : State) (i : StreamId) : State :=
  if (s.engine i).state = .stopping ∧ (s.fifoOf i).isEmpty then
    s.finishEmptying i ((s.engine i).endReason.getD .completed)
  else s

/-- A word is asked of an open replay port (R122). -/
def State.askWord (s : State) (port : PortId) (i : StreamId) : State :=
  let p := s.port port
  match p.fifo with
  | [] => s.underrun i
  | w :: rest => (s.setPort port { p with fifo := rest, lastWord := w }).afterWord i

/-- REPLAY_STROBE (R122). -/
def execReplayStrobe (port : PortId) (s : State) : Host.Outcome State Fault Refusal :=
  .next
    (match s.boundStream port with
    | some i => if (s.port port).opensTo .replay then s.askWord port i else s
    | none => s)

/-- TRIGGER_EDGE (R84): the mark is set whatever the gate; an edge on an unbound port sets none. -/
def execTriggerEdge (port : PortId) (s : State) : Host.Outcome State Fault Refusal :=
  takeStep (s.boundStream port).isSome s fun s => s.setPort port { s.port port with edgePending := true }

end Sys2Proof.Machine
end

