-- ==== Sys2Proof/Machine/ResetEvents.lean ====
section
/-! DEFINITION. Power-on, pin reset and pool initialisation (R13, R164, R165). -/

namespace Sys2Proof.Machine

/-- Every block at its reset value, the level of CS_N, the frame store and the queue of offered steps apart
(R164). -/
def State.held (s : State) (kind : ResetKind) (reason : ReadyReason) : State :=
  { s with
    mapUnit := MapUnit.reset reason
    engines := Vector.replicate 8 Engine.reset
    ports := Vector.replicate 4 Port.unbound
    arbiter := Arbiter.reset
    command := CommandUnit.reset
    link := Link.reset s.link.csHigh
    heldInReset := some kind }

/-- POWER_ON (R164): the contents of the frame store become undefined (R128, log entry 1). -/
def execPowerOn (s : State) : Host.Outcome State Fault Refusal :=
  .next { s.held .powerOn .powerOn with store := [], powerOns := s.powerOns + 1 }

/-- A burst in flight at a pin reset completes in the store (R164). -/
def State.landBurst (s : State) : State :=
  match s.arbiter.inFlight with
  | some b => if b.isWrite then s.storeWrite b.frame b.offset b.data else s
  | none => s

/-- PIN_RESET (R164). -/
def execPinReset (s : State) : Host.Outcome State Fault Refusal :=
  .next (s.landBurst.held .pinReset .pinReset)

/-- The link when the reset ends (R157). -/
def Link.live (l : Link) : Link := { l with transaction := if l.csHigh then .idle else .ignore }

/-- The part starts up (R165): pool initialisation begins, and the link becomes live. -/
def State.startUp (s : State) : State :=
  { s with
    mapUnit := { s.mapUnit with initInProgress := true, initNext := 0, freeQueue := [] }
    link := s.link.live
    heldInReset := none }

/-- RESET_END (R165). -/
def execResetEnd (s : State) : Host.Outcome State Fault Refusal :=
  takeStep s.heldInReset.isSome s State.startUp

/-- The next frame is appended at the tail of the free-frame queue (R13, step 2). -/
def State.appendFrame (s : State) (f : FrameId) : State :=
  s.setMapUnit { s.mapUnit with freeQueue := s.mapUnit.freeQueue ++ [f], initNext := s.mapUnit.initNext + 1 }

/-- POOL_INIT_APPEND (R13). -/
def execPoolInitAppend (s : State) : Host.Outcome State Fault Refusal :=
  .next
    (match finOf? 4096 s.mapUnit.initNext with
    | some f => if s.heldInReset.isNone && s.mapUnit.initInProgress then s.appendFrame f else s
    | none => s)

/-- The command unit when initialisation completes: the reply to RESTART ALL, or from waiting for initialisation to
ready (R159, R165, R169). -/
def State.commandsReady (s : State) : State :=
  match s.command.current with
  | some ⟨.restart scope, .initialising n⟩ => s.produceReply (restartPayload scope n)
  | _ =>
    if s.command.execution = .waitingForInit then s.setCommand { s.command with execution := .ready } else s

/-- Pool initialisation completes (R13, step 3). -/
def State.completeInit (s : State) : State :=
  let s := s.setMapUnit { s.mapUnit with initInProgress := false, lowArmed := true }
  (s.post none (.ready s.mapUnit.initReason)).commandsReady

/-- POOL_INIT_COMPLETE (R13). -/
def execPoolInitComplete (s : State) : Host.Outcome State Fault Refusal :=
  takeStep (s.heldInReset.isNone && s.mapUnit.initInProgress && s.mapUnit.initNext == 4096) s State.completeInit

end Sys2Proof.Machine
end

