-- ==== Sys2Proof/Machine/StreamCommands.lean ====
section
/-! DEFINITION. The stream commands of the host (chapters 4 and 5): OPEN, CLOSE, ARM, START, PAUSE, RESUME, STOP,
ABORT, TRIGGER, QUERY_STREAM, and the pending trigger edge. The stream engine takes each as one step (R53). -/

namespace Sys2Proof.Machine

/-- Whether the engine takes this current command now (R53). -/
def State.commandDue (s : State) (i : StreamId) (command : HostCommand) : Bool :=
  s.isAt command .handed && s.engineFree i

/-- An OK reply without further fields. -/
def State.replyOk (s : State) : State := s.produceReply (statusPayload .ok)

/-! ### OPEN (R56, R57) -/

/-- Whether the policies fit the direction (R56). -/
def policiesFit (direction : Direction) (fault : FaultPolicy) (policy : ReleasePolicy) : Bool :=
  match direction with
  | .capture => fault != .skip && policy == .keep
  | .replay => fault != .allocate

/-- A stream context after OPEN (R52, R57). -/
def Engine.opened (direction : Direction) (port : PortId) (fault : FaultPolicy) (policy : ReleasePolicy) : Engine :=
  { Engine.reset with
    state := .ready, direction := some direction, port := some port, faultPolicy := some fault
    releasePolicy := some policy }

/-- A port bound by OPEN (R54, R84, R122). -/
def Port.boundTo (stream : StreamId) (direction : Direction) : Port :=
  { Port.unbound with bound := some stream, direction := some direction }

def State.openPort (s : State) (i : StreamId) (direction : Direction) (port : PortId) (fault : FaultPolicy)
    (policy : ReleasePolicy) : State :=
  if (s.engine i).state ≠ .idle then s.refuse .badState
  else if policiesFit direction fault policy = false then s.refuse .badCombination
  else if (s.port port).bound.isSome then s.refuse .inUse
  else
    ((s.setPort port (.boundTo i direction)).setEngine i (.opened direction port fault policy)).replyOk

/-- OPEN (R57). -/
def execOpenStream (stream : StreamId) (direction : Direction) (port : PortId) (fault : FaultPolicy)
    (policy : ReleasePolicy) (s : State) : Host.Outcome State Fault Refusal :=
  takeStep (s.commandDue stream (.openStream stream direction port fault policy)) s fun s =>
    s.openPort stream direction port fault policy

/-! ### CLOSE (R58, R38) -/

/-- The states in which a stream rests: CLOSE is taken in READY, DONE and FAILED (R58). -/
def StreamState.closes (state : StreamState) : Bool :=
  match state with
  | .ready | .done | .failed => true
  | .idle | .running | .paused | .waitFault | .waitData | .stopping => false

/-- The port is unbound and the context returned to IDLE, with the counters kept (R52, R58). The activation page
count is 0 (R74). -/
def State.closeEngine (s : State) (i : StreamId) : State :=
  (s.modPortOf i fun _ => Port.unbound).setEngine i { Engine.reset with counters := (s.engine i).counters }

/-- CLOSE as the stream engine takes it: without release it is answered; with release the map unit is sent the
release of the whole map (R38, R58). -/
def State.closeStream (s : State) (i : StreamId) (releaseMap : Bool) : State :=
  if (s.engine i).state.closes then
    let s := s.closeEngine i
    if releaseMap then (s.setStage (.closeStream i releaseMap) .releasingMap).sendClaim .host
    else s.produceReply (pairPayload 0 0)
  else s.refuse .badState

/-- The release of the whole map (R38). -/
def State.releaseMap (s : State) (i : StreamId) : State :=
  let r := (s.purge i 0 512).releasePages i (pagesFrom 0 512)
  r.state.produceReply (pairPayload r.entries r.frames)

/-- CLOSE (R58): the engine's part, and then, where release is asked, the map unit's part (R38). -/
def execCloseStream (stream : StreamId) (releaseMap : Bool) (s : State) : Host.Outcome State Fault Refusal :=
  if s.claimDue (.closeStream stream releaseMap) .releasingMap then
    .next (s.dropOldestClaim.releaseMap stream)
  else
    takeStep (s.commandDue stream (.closeStream stream releaseMap)) s fun s => s.closeStream stream releaseMap

/-! ### ARM (R76) -/

/-- Whether a descriptor fits the stream (R76, step 3). -/
def Engine.descriptorFits (e : Engine) (d : Descriptor) : Bool :=
  !(e.direction == some .replay && ((d.mode == .loop && e.releasePolicy == some .release) || 0 < d.postTrigger))
    && !(0 < d.postTrigger && d.mode == .once)
    && d.postTrigger ≤ d.count - 1

def State.armSlot (s : State) (i : StreamId) (slot : SlotName) (d : Descriptor) : State :=
  let e := s.engine i
  if e.state = .idle ∨ e.state = .failed then s.refuse .badState
  else if e.activeSlot = some slot then s.refuse .slotBusy
  else if d.count = 0 then (s.setEngine i (e.setSlot slot none)).produceReply (armPayload (e.slot slot))
  else if e.descriptorFits d = false then s.refuse .badCombination
  else (s.setEngine i (e.setSlot slot (some d))).produceReply (armPayload (e.slot slot))

/-- ARM (R76). -/
def execArm (stream : StreamId) (slot : SlotName) (descriptor : Descriptor) (s : State) :
    Host.Outcome State Fault Refusal :=
  takeStep (s.commandDue stream (.arm stream slot descriptor)) s fun s => s.armSlot stream slot descriptor

/-! ### START (R59, R77) -/

def State.startSlot (s : State) (i : StreamId) (slot : SlotName) : State :=
  let e := s.engine i
  if e.state ≠ .ready ∧ e.state ≠ .done then s.refuse .badState
  else if (e.slot slot).isNone then s.refuse .badState
  else
    let s := s.setEngine i
      { e.activate slot with
        state := .running, faultRecord := none, endReason := none, lookFill := none, due := .none }
    ((s.setGate i true).enterPage i).replyOk

/-- START (R59). -/
def execStart (stream : StreamId) (slot : SlotName) (s : State) : Host.Outcome State Fault Refusal :=
  takeStep (s.commandDue stream (.start stream slot)) s fun s => s.startSlot stream slot

/-! ### PAUSE and RESUME (R61, R62) -/

def State.pauseStream (s : State) (i : StreamId) : State :=
  if (s.engine i).state = .running ∨ (s.engine i).state = .waitData then
    let s := (s.setGate i false).withdrawRequest i
    (s.modEngine i fun e => { e with state := .paused, lookFill := none, due := .none }).replyOk
  else s.refuse .badState

/-- PAUSE (R61). -/
def execPause (stream : StreamId) (s : State) : Host.Outcome State Fault Refusal :=
  takeStep (s.commandDue stream (.pause stream)) s fun s => s.pauseStream stream

/-- A replay stream goes on at RESUME: with a current page it evaluates it, without one it enters the page of its
position (R62, R120). -/
def State.resumeReplay (s : State) (i : StreamId) : State :=
  match (s.engine i).currentPage with
  | some _ => s.evaluatePage i
  | none => s.enterReplayPage i

def State.resumeStream (s : State) (i : StreamId) : State :=
  if (s.engine i).state = .paused then
    let s := (s.setGate i true).modEngine i fun e => { e with state := .running }
    (if (s.engine i).direction = some .replay then s.resumeReplay i else s).replyOk
  else s.refuse .badState

/-- RESUME (R62). -/
def execResume (stream : StreamId) (s : State) : Host.Outcome State Fault Refusal :=
  takeStep (s.commandDue stream (.resume stream)) s fun s => s.resumeStream stream

/-! ### STOP and ABORT (R63 to R69) -/

/-- The reply to a STOP or ABORT taken in WAIT_FAULT: in DONE at once, or after the ending seal claim (R66). -/
def State.replyToStop (s : State) (i : StreamId) (command : HostCommand) : State :=
  if (s.engine i).state = .waitFault then s.setStage command .awaitingEndingSeal else s.replyOk

/-- STOP of a capture stream (R63, R66). -/
def State.stopCapture (s : State) (i : StreamId) : State :=
  match (s.engine i).state with
  | .running | .paused =>
    let s := (s.setGate i false).modEngine i fun e => { e with endReason := some .stopped, state := .stopping }
    (s.endWhenDrained i).replyOk
  | .waitFault => (s.stopInFault i .stopped).replyToStop i (.stop i)
  | .idle | .ready | .waitData | .stopping | .done | .failed => s.refuse .badState

/-- A replay stream ends: gate closed, FIFO emptied, fault record cleared; DONE at once when no burst is in flight,
else STOPPING (R67, R69). -/
def State.endReplay (s : State) (i : StreamId) (reason : EndReason) : State :=
  let s := ((s.setGate i false).setFifo i []).withdrawRequest i
  let s := s.modEngine i fun e =>
    { e with endReason := some reason, faultRecord := none, lookFill := none, due := .none, state := .stopping }
  if s.burstInFlight (requesterOf i) then s else s.enterDone i reason

/-- STOP of a replay stream (R67). -/
def State.stopReplay (s : State) (i : StreamId) : State :=
  match (s.engine i).state with
  | .running | .paused | .waitData | .waitFault => (s.endReplay i .stopped).replyOk
  | .idle | .ready | .stopping | .done | .failed => s.refuse .badState

/-- STOP, by direction; a stream without one is IDLE. -/
def State.stopStream (s : State) (i : StreamId) : State :=
  match (s.engine i).direction with
  | some .capture => s.stopCapture i
  | some .replay => s.stopReplay i
  | none => s.refuse .badState

/-- STOP (R63, R67). -/
def execStop (stream : StreamId) (s : State) : Host.Outcome State Fault Refusal :=
  takeStep (s.commandDue stream (.stop stream)) s fun s => s.stopStream stream

/-- ABORT of a capture stream that has a page or had one (R68). -/
def State.cutCapture (s : State) (i : StreamId) : State :=
  let s := ((s.setGate i false).discardCapture i).withdrawRequest i
  let s := s.modEngine i fun e => { e with endReason := some .aborted, state := .stopping }
  (s.endWhenDrained i).replyOk

/-- ABORT of a capture stream (R68, R66). -/
def State.abortCapture (s : State) (i : StreamId) : State :=
  match (s.engine i).state with
  | .running | .paused => s.cutCapture i
  | .stopping => if (s.engine i).endReason = some .aborted then s.refuse .badState else s.cutCapture i
  | .waitFault => (s.stopInFault i .aborted).replyToStop i (.abort i)
  | .idle | .ready | .waitData | .done | .failed => s.refuse .badState

/-- ABORT of a replay stream in STOPPING: one that empties its FIFO to the lane also empties the completed slot
(R69, R81). -/
def State.cutReplay (s : State) (i : StreamId) : State :=
  match (s.engine i).endReason with
  | some .completed | some .starved => (s.modEngine i Engine.emptyActiveSlot).endReplay i .aborted
  | some .stopped | some .aborted | some .failed | none => s.endReplay i .aborted

/-- ABORT of a replay stream (R69). -/
def State.abortReplay (s : State) (i : StreamId) : State :=
  match (s.engine i).state with
  | .running | .paused | .waitData | .waitFault => (s.endReplay i .aborted).replyOk
  | .stopping => if (s.engine i).endReason = some .aborted then s.refuse .badState else (s.cutReplay i).replyOk
  | .idle | .ready | .done | .failed => s.refuse .badState

/-- ABORT, by direction; a stream without one is IDLE. -/
def State.abortStream (s : State) (i : StreamId) : State :=
  match (s.engine i).direction with
  | some .capture => s.abortCapture i
  | some .replay => s.abortReplay i
  | none => s.refuse .badState

/-- ABORT (R68, R69). -/
def execAbort (stream : StreamId) (s : State) : Host.Outcome State Fault Refusal :=
  takeStep (s.commandDue stream (.abort stream)) s fun s => s.abortStream stream

/-! ### Triggers (R84 to R87) -/

/-- Whether a state can take a trigger (R85). -/
def StreamState.takesTrigger (state : StreamState) : Bool :=
  match state with
  | .running | .paused | .waitFault => true
  | .idle | .ready | .waitData | .stopping | .done | .failed => false

/-- The conditions of R85. -/
def Engine.triggerTaken (e : Engine) : Bool :=
  e.direction == some .capture && e.state.takesTrigger && e.endReason.isNone && e.triggerRecord.isNone
    && e.activeDescriptor.any fun d => d.mode == .loop && 0 < d.postTrigger

/-- The bytes of a stream's burst in flight. -/
def State.bytesInFlight (s : State) (i : StreamId) : Nat :=
  match s.arbiter.inFlight with
  | some b => if b.requester = requesterOf i then b.length else 0
  | none => 0

/-- The trigger position (R86). -/
def State.triggerPosition (s : State) (i : StreamId) : Position :=
  let at_ := (s.engine i).position
  let sum := at_.offset + s.bytesInFlight i + 2 * (s.fifoOf i).length
  if sum < 4096 then ⟨at_.vpage, sum⟩ else ⟨(s.engine i).nextPage at_.vpage, sum - 4096⟩

/-- Pages to go at a trigger (R87). -/
def Engine.pagesAtTrigger (e : Engine) : Nat := ((e.activeDescriptor.map fun d => d.postTrigger).getD 0) + 1

/-- A trigger is taken (R87). -/
def State.takeTrigger (s : State) (i : StreamId) : State :=
  let at_ := s.triggerPosition i
  (s.modEngine i fun e =>
    { e with triggerRecord := some at_, pagesToGo := some e.pagesAtTrigger }).post (some i) (.triggered at_)

/-- The answer to a TRIGGER that is not taken (R85). -/
def StreamState.triggerRefusal (state : StreamState) : Status :=
  match state with
  | .idle | .ready | .done | .failed => .badState
  | .running | .paused | .waitFault | .waitData | .stopping => .noTrigger

def State.triggerStream (s : State) (i : StreamId) : State :=
  let e := s.engine i
  if e.triggerTaken then
    (s.takeTrigger i).produceReply (triggerPayload (s.triggerPosition i) e.pagesAtTrigger)
  else s.refuse e.state.triggerRefusal

/-- TRIGGER (R85). -/
def execTrigger (stream : StreamId) (s : State) : Host.Outcome State Fault Refusal :=
  takeStep (s.commandDue stream (.trigger stream)) s fun s => s.triggerStream stream

/-- Whether an edge is pending at the stream's port (R84). -/
def State.edgePending (s : State) (i : StreamId) : Bool := (s.portOf i).any fun p => p.edgePending

/-- A pending edge is taken (R84, R85). -/
def State.takeEdge (s : State) (i : StreamId) : State :=
  let s := s.modPortOf i fun p => { p with edgePending := false }
  if (s.engine i).triggerTaken then s.takeTrigger i else s

/-- PENDING_EDGE_TAKEN (R84). -/
def execPendingEdgeTaken (stream : StreamId) (s : State) : Host.Outcome State Fault Refusal :=
  takeStep (s.engineFree stream && s.edgePending stream) s fun s => s.takeEdge stream

/-! ### QUERY_STREAM (R73) -/

/-- QUERY_STREAM (R73). -/
def execQueryStream (stream : StreamId) (s : State) : Host.Outcome State Fault Refusal :=
  takeStep (s.commandDue stream (.queryStream stream)) s fun s =>
    s.produceReply (queryStreamPayload stream (s.engine stream) (s.portOf stream)
      (s.burstInFlight (requesterOf stream)))

end Sys2Proof.Machine
end

