-- ==== Sys2Proof/Machine/Dispatch.lean ====
section
/-! DEFINITION. One arm per row of spec/opcode_table.json, each a call of that row's own meaning. -/

namespace Sys2Proof.Machine

def exec (i : Instr) (s : State) : Host.Outcome State Fault Refusal :=
  match i with
  | .hello => Sys2Proof.Machine.execHello s
  | .restartStreams => Sys2Proof.Machine.execRestartStreams s
  | .restartAll => Sys2Proof.Machine.execRestartAll s
  | .map stream access vpage frame => Sys2Proof.Machine.execMap stream access vpage frame s
  | .unmap stream first count => Sys2Proof.Machine.execUnmap stream first count s
  | .protect stream access first count => Sys2Proof.Machine.execProtect stream access first count s
  | .share source destination access sourceFirst destinationFirst count => Sys2Proof.Machine.execShare source destination access sourceFirst destinationFirst count s
  | .queryMap stream first count => Sys2Proof.Machine.execQueryMap stream first count s
  | .queryFrame frame => Sys2Proof.Machine.execQueryFrame frame s
  | .poolStatus => Sys2Proof.Machine.execPoolStatus s
  | .setPoolMark mark => Sys2Proof.Machine.execSetPoolMark mark s
  | .openStream stream direction port fault policy => Sys2Proof.Machine.execOpenStream stream direction port fault policy s
  | .closeStream stream releaseMap => Sys2Proof.Machine.execCloseStream stream releaseMap s
  | .arm stream slot descriptor => Sys2Proof.Machine.execArm stream slot descriptor s
  | .start stream slot => Sys2Proof.Machine.execStart stream slot s
  | .pause stream => Sys2Proof.Machine.execPause stream s
  | .resume stream => Sys2Proof.Machine.execResume stream s
  | .stop stream => Sys2Proof.Machine.execStop stream s
  | .abort stream => Sys2Proof.Machine.execAbort stream s
  | .trigger stream => Sys2Proof.Machine.execTrigger stream s
  | .queryStream stream => Sys2Proof.Machine.execQueryStream stream s
  | .readData stream vpage offset length => Sys2Proof.Machine.execReadData stream vpage offset length s
  | .writeData stream vpage offset data => Sys2Proof.Machine.execWriteData stream vpage offset data s
  | .sealPage stream vpage => Sys2Proof.Machine.execSealPage stream vpage s
  | .writeDataCompletion => Sys2Proof.Machine.execWriteDataCompletion s
  | .commandTake => Sys2Proof.Machine.execCommandTake s
  | .csNFall => Sys2Proof.Machine.execCsNFall s
  | .badStart first => Sys2Proof.Machine.execBadStart first s
  | .oversize kind tag length => Sys2Proof.Machine.execOversize kind tag length s
  | .inboundMessage kind tag payload crc => Sys2Proof.Machine.execInboundMessage kind tag payload crc s
  | .readSelect => Sys2Proof.Machine.execReadSelect s
  | .sendComplete => Sys2Proof.Machine.execSendComplete s
  | .csNRise => Sys2Proof.Machine.execCsNRise s
  | .powerOn => Sys2Proof.Machine.execPowerOn s
  | .pinReset => Sys2Proof.Machine.execPinReset s
  | .resetEnd => Sys2Proof.Machine.execResetEnd s
  | .poolInitAppend => Sys2Proof.Machine.execPoolInitAppend s
  | .poolInitComplete => Sys2Proof.Machine.execPoolInitComplete s
  | .captureStrobe port word => Sys2Proof.Machine.execCaptureStrobe port word s
  | .replayStrobe port => Sys2Proof.Machine.execReplayStrobe port s
  | .triggerEdge port => Sys2Proof.Machine.execTriggerEdge port s
  | .pendingEdgeTaken stream => Sys2Proof.Machine.execPendingEdgeTaken stream s
  | .captureBurstRequest stream => Sys2Proof.Machine.execCaptureBurstRequest stream s
  | .replayBurstRequest stream => Sys2Proof.Machine.execReplayBurstRequest stream s
  | .arbiterGrant => Sys2Proof.Machine.execArbiterGrant s
  | .captureBurstComplete stream => Sys2Proof.Machine.execCaptureBurstComplete stream s
  | .replayBurstComplete stream => Sys2Proof.Machine.execReplayBurstComplete stream s
  | .hostBurstComplete => Sys2Proof.Machine.execHostBurstComplete s
  | .fillReport stream => Sys2Proof.Machine.execFillReport stream s
  | .leaveSealClaim stream => Sys2Proof.Machine.execLeaveSealClaim stream s
  | .endingSealClaim stream => Sys2Proof.Machine.execEndingSealClaim stream s
  | .writeClaim stream => Sys2Proof.Machine.execWriteClaim stream s
  | .readClaim stream => Sys2Proof.Machine.execReadClaim stream s
  | .waitDataSignal stream => Sys2Proof.Machine.execWaitDataSignal stream s
  | .releaseClaim stream => Sys2Proof.Machine.execReleaseClaim stream s
  | .engineRestart stream => Sys2Proof.Machine.execEngineRestart stream s
  | .restartClaim => Sys2Proof.Machine.execRestartClaim s
  | .writeTransactionStart => Sys2Proof.Machine.execWriteTransactionStart s

end Sys2Proof.Machine
end

