-- ==== Sys2Proof/Machine/Step.lean ====
section
/-! DEFINITION. One step: the step at the front of the queue of offered steps. -/

namespace Sys2Proof.Machine

/-- Takes the step at the front of the queue and runs it on the rest; with an empty queue the part idles (log
entry 3). -/
def step (s : State) : Host.Outcome State Fault Refusal :=
  match s.pending with
  | [] => .next s
  | i :: rest => exec i { s with pending := rest }

/-- The state with the step that a table word spells at the front of its queue (log entry 4). -/
def State.withFetchWord (s : State) (nbits w : Nat) : State :=
  match decodeTableWord nbits w with
  | some i => { s with pending := i :: s.pending }
  | none => s

end Sys2Proof.Machine
end

