-- ==== Sys2Proof/Safety.lean ====
section
/-! DEFINITION. The laws of the part that every step keeps, and the words that statements share: a command about to
be carried out by its owner, and the state with a command answered. -/

namespace Sys2Proof.Machine

/-! ### Laws -/

/-- The frame store is in its canonical form. -/
def State.StoreOk (s : State) : Prop := Memory.wf s.store = true

/-- The bounds of R147: one reservation for each command queued, at most 4, and at most 8 replies and
reservations. -/
structure State.AdmissionOk (s : State) : Prop where
  reserved : s.link.reservations = s.command.queue.length
  queued : s.command.queue.length ≤ 4
  places : s.link.replies.length + s.link.reservations ≤ 8

/-- The current command is the one that the message at the head of the queue spells, and the command unit executes it
(R159, R160); none is current while the part is held in reset (R164). -/
structure State.ExecutionOk (s : State) : Prop where
  executing : ∀ c, s.command.current = some c →
    s.command.execution = .executing ∧
      ∃ m rest, s.command.queue = m :: rest ∧ readCommand m = .ok c.command
  held : s.heldInReset.isSome = true → s.command = CommandUnit.reset

/-- Two notice entries are of different kinds or streams (R153). -/
def NoticeEntry.Apart (x y : NoticeEntry) : Prop := ¬ (x.stream = y.stream ∧ x.fields.kind = y.fields.kind)

/-- The laws of the notice queue (R153, R155): no two entries of one kind for one stream; occurrences 1 ~ 255; a
shadow record only with a frozen entry, and of its kind. A message is frozen only in a read transaction (R150), and
the link is idle while CS_N is high (R141). -/
structure Link.NoticesOk (l : Link) : Prop where
  apart : l.notices.Pairwise NoticeEntry.Apart
  counted : ∀ e ∈ l.notices, 1 ≤ e.occurrences ∧ e.occurrences ≤ 255
  frozen : l.noticeFrozen = true → l.notices ≠ []
  shadow : ∀ sh, l.shadow = some sh →
    l.noticeFrozen = true ∧ 1 ≤ sh.occurrences ∧ sh.occurrences ≤ 255 ∧
      ∀ e ∈ l.notices.head?, e.fields.kind = sh.fields.kind
  reading : l.sending.isSome = true → l.transaction = .read
  high : l.csHigh = true → l.transaction = .idle

/-- The laws of the link: those of the notice queue, and no transaction while the part is held in reset (R156). -/
structure State.LinkOk (s : State) : Prop where
  notices : s.link.NoticesOk
  held : s.heldInReset.isSome = true → s.link.transaction = .idle

/-- No burst is longer than 64 bytes, in flight or asked for (R132). -/
structure State.BurstsOk (s : State) : Prop where
  inFlight : ∀ b, s.arbiter.inFlight = some b → b.length ≤ 64
  waiting : ∀ (r : Requester) q, s.arbiter.requests[r] = some q → q.length ≤ 64

/-- The occupied entries of a cache, in entry order (R39). -/
def occupiedEntries (c : Cache) : List CacheEntry := c.toList.filterMap id

/-- The law of a translation cache (R39): no page twice, and the ranks of the k occupied entries are 0 ~ k − 1. -/
structure Engine.CacheOk (e : Engine) : Prop where
  apart : ((occupiedEntries e.cache).map fun x => x.vpage).Nodup
  ranked : ((occupiedEntries e.cache).map fun x => x.rank).Perm (List.range (occupiedEntries e.cache).length)

/-- Every translation cache keeps its law (R39). -/
def State.CachesOk (s : State) : Prop := ∀ i, (s.engine i).CacheOk

/-- The number of map entries, over all eight maps, that name a frame (R1). -/
def State.entriesNaming (s : State) (f : FrameId) : Nat :=
  (s.mapUnit.maps.toList.map fun m => m.toList.countP fun entry => entry.any fun e => e.frame == f).sum

/-- The laws of the frame table, the maps and the free-frame queue. A refcount is the number of entries that name the
frame, a frame is BOUND exactly when an entry names it, and no map names one frame at two pages (R1, R3). No frame
stands in the queue twice, and outside pool initialisation exactly the FREE frames stand in it (R12). During
initialisation the frames already added stand in it (R13). No stream waits for a frame while the queue holds one (R14).
While the part is held in reset or initialisation is in progress, no stream waits and no frame is named (R13). -/
structure State.PoolOk (s : State) : Prop where
  counted : ∀ f, (s.frame f).refcount = s.entriesNaming f
  bound : ∀ f, (s.frame f).state = .bound ↔ 1 ≤ (s.frame f).refcount
  apart : ∀ i v w x y, s.entry i v = some x → s.entry i w = some y → x.frame = y.frame → v = w
  once : s.mapUnit.freeQueue.Nodup
  queued : s.heldInReset = none → s.mapUnit.initInProgress = false →
    ∀ f, f ∈ s.mapUnit.freeQueue ↔ (s.frame f).state = .free
  adding : s.mapUnit.initInProgress = true → ∀ f, f ∈ s.mapUnit.freeQueue ↔ f.val < s.mapUnit.initNext
  waiting : s.mapUnit.freeQueue ≠ [] → s.mapUnit.waiters = []
  unused : s.heldInReset.isSome = true ∨ s.mapUnit.initInProgress = true →
    s.mapUnit.waiters = [] ∧ ∀ f, (s.frame f).refcount = 0

/-! ### Words for statements -/

/-- The code of a value whose field lists its values in the order of their codes (12.7); FFh where the field is absent
(R171). -/
def codeIn {α : Type} [DecidableEq α] (values : List α) (x : Option α) : Byte :=
  match x with
  | some y => BitVec.ofNat 8 (values.idxOf y)
  | none => 0xFF

/-- A host command has been handed to its owner; `m` is its message and `rest` the messages queued behind it. -/
structure State.Handed (s : State) (command : HostCommand) (m : Message) (rest : List Message) : Prop where
  current : s.command.current = some ⟨command, .handed⟩
  queue : s.command.queue = m :: rest

/-- The map unit takes the claim of a handed command next. -/
structure State.AtMapUnit (s : State) (command : HostCommand) (m : Message) (rest : List Message) : Prop
    extends State.Handed s command m rest where
  out : s.heldInReset = none
  pool : s.mapUnit.initInProgress = false
  oldest : s.mapUnit.claims.head? = some .host

/-- The stream engine named takes a handed command next. -/
structure State.AtEngine (s : State) (i : StreamId) (command : HostCommand) (m : Message) (rest : List Message) : Prop
    extends State.Handed s command m rest where
  free : s.engineFree i = true

/-- The map unit takes this claim of a stream engine next; `rest` are the claims behind it. -/
structure State.ClaimNext (s : State) (i : StreamId) (c : EngineClaim) (rest : List Claim) : Prop where
  out : s.heldInReset = none
  pool : s.mapUnit.initInProgress = false
  claims : s.mapUnit.claims = .engine i c :: rest

/-- The state with the command of `m` answered (R149): the reply at the tail of the reply queue, the command out of
the command queue, its reservation released, the command unit ready. -/
def State.answered (s : State) (m : Message) (rest : List Message) (payload : List Byte) : State :=
  { s with
    link := { s.link with
      replies := s.link.replies ++ [⟨m.kind + 0x80, m.tag, payload⟩]
      reservations := s.link.reservations - 1 }
    command := { queue := rest, current := none, execution := .ready, transfer := none } }

/-- A stream engine after `n` signals of a frame: they reach one in WAIT_DATA on it, and no other (R4, R116). -/
def Engine.signalled (e : Engine) (f : FrameId) (n : Nat) : Engine :=
  if e.state = .waitData ∧ e.currentPage.map (fun c => c.frame) = some f then
    { e with signals := e.signals ++ List.replicate n f }
  else e

/-- The state with the oldest claim taken off the map unit's list. -/
def State.claimTaken (s : State) : State :=
  { s with mapUnit := { s.mapUnit with claims := s.mapUnit.claims.tail } }

end Sys2Proof.Machine
end

