-- ==== Sys2Proof/WellFormed.lean ====
section
/-! DEFINITION. The checks on the operands of a step that its types do not hold already. An ill-formed step is no
step of the part (log entry 23). -/

namespace Sys2Proof

/-- The host command that a row of the table carries. -/
def Instr.command? (i : Instr) : Option HostCommand :=
  match i with
  | .hello => some .hello
  | .restartStreams => some (.restart .streams)
  | .restartAll => some (.restart .all)
  | .map stream access vpage frame => some (.map stream access vpage frame)
  | .unmap stream first count => some (.unmap stream first count)
  | .protect stream access first count => some (.protect stream access first count)
  | .share source destination access sourceFirst destinationFirst count =>
    some (.share source destination access sourceFirst destinationFirst count)
  | .queryMap stream first count => some (.queryMap stream first count)
  | .queryFrame frame => some (.queryFrame frame)
  | .poolStatus => some .poolStatus
  | .setPoolMark mark => some (.setPoolMark mark)
  | .openStream stream direction port fault policy => some (.openStream stream direction port fault policy)
  | .closeStream stream releaseMap => some (.closeStream stream releaseMap)
  | .arm stream slot descriptor => some (.arm stream slot descriptor)
  | .start stream slot => some (.start stream slot)
  | .pause stream => some (.pause stream)
  | .resume stream => some (.resume stream)
  | .stop stream => some (.stop stream)
  | .abort stream => some (.abort stream)
  | .trigger stream => some (.trigger stream)
  | .queryStream stream => some (.queryStream stream)
  | .readData stream vpage offset length => some (.readData stream vpage offset length)
  | .writeData stream vpage offset data => some (.writeData stream vpage offset data)
  | .sealPage stream vpage => some (.sealPage stream vpage)
  | .writeDataCompletion | .commandTake | .csNFall | .badStart _ | .oversize _ _ _ | .inboundMessage _ _ _ _
  | .readSelect | .sendComplete | .csNRise | .powerOn | .pinReset | .resetEnd | .poolInitAppend | .poolInitComplete
  | .captureStrobe _ _ | .replayStrobe _ | .triggerEdge _ | .pendingEdgeTaken _ | .captureBurstRequest _
  | .replayBurstRequest _ | .arbiterGrant | .captureBurstComplete _ | .replayBurstComplete _ | .hostBurstComplete
  | .fillReport _ | .leaveSealClaim _ | .endingSealClaim _ | .writeClaim _ | .readClaim _ | .waitDataSignal _
  | .releaseClaim _ | .engineRestart _ | .restartClaim | .writeTransactionStart => none

/-- The operands of a step that carries no host command: the first byte of a bad start (R142), the length of an
oversize message (R145) and of an inbound payload (R143). -/
def Instr.eventOk (i : Instr) : Bool :=
  match i with
  | .badStart first => first != 0xA5 && first != 0x5A
  | .oversize _ _ length => 264 < length.toNat
  | .inboundMessage _ _ payload _ => payload.length ≤ 264
  | .hello | .restartStreams | .restartAll | .map _ _ _ _ | .unmap _ _ _ | .protect _ _ _ _ | .share _ _ _ _ _ _
  | .queryMap _ _ _ | .queryFrame _ | .poolStatus | .setPoolMark _ | .openStream _ _ _ _ _ | .closeStream _ _
  | .arm _ _ _ | .start _ _ | .pause _ | .resume _ | .stop _ | .abort _ | .trigger _ | .queryStream _
  | .readData _ _ _ _ | .writeData _ _ _ _ | .sealPage _ _ | .writeDataCompletion | .commandTake | .csNFall
  | .readSelect | .sendComplete | .csNRise | .powerOn | .pinReset | .resetEnd | .poolInitAppend | .poolInitComplete
  | .captureStrobe _ _ | .replayStrobe _ | .triggerEdge _ | .pendingEdgeTaken _ | .captureBurstRequest _
  | .replayBurstRequest _ | .arbiterGrant | .captureBurstComplete _ | .replayBurstComplete _ | .hostBurstComplete
  | .fillReport _ | .leaveSealClaim _ | .endingSealClaim _ | .writeClaim _ | .readClaim _ | .waitDataSignal _
  | .releaseClaim _ | .engineRestart _ | .restartClaim | .writeTransactionStart => true

/-- The operands of a step are in their ranges: the fields of a host command (R17, R30, R33, R35, R37, R76, R134,
R137), and the operands of an event. -/
def Instr.wellFormed (i : Instr) : Bool :=
  match i.command? with
  | some command => Machine.commandFieldsOk command
  | none => i.eventOk

end Sys2Proof
end

