-- ==== Sys2Proof/Certificates/Slice0/Obligations.lean ====
section
/-! DEFINITION. The statements for the provers. Each docstring names the rules that it rests on; a clause that rests
on a choice of the model names its log entry. -/

section Statements

open Sys2Proof Sys2Proof.Machine

/-! ### The queue of offered steps -/

/-- A step is the meaning of the step at the front of the queue, run on the rest of the queue (log entry 5). -/
def Obligations.StepRunsTheFrontStep : Prop :=
  ∀ (i : Instr) (s : State), step { s with pending := i :: s.pending } = exec i s

/-- No meaning touches the queue of offered steps, and none stops the part (the part has no step that stops it:
R127, R160, R161). With nothing offered the part idles: the model's choice (log entry 3). The row of a host command
that is not the current command leaves the state as it is: the model's choice (log entries 2 and 6), from R159. -/
def Obligations.EveryStepGoesOnAndKeepsTheQueue : Prop :=
  (∀ (i : Instr) (s : State), ∃ t, exec i s = .next t ∧ t.pending = s.pending) ∧
  (∀ s : State, s.pending = [] → step s = .next s) ∧
  (∀ (i : Instr) (c : HostCommand) (s : State), i.command? = some c →
     (∀ stage, s.command.current ≠ some ⟨c, stage⟩) → exec i s = .next s)

/-! ### Laws that every step keeps -/

/-- The state at power-on meets every law that the statements below say each step keeps. -/
def Obligations.ResetMeetsTheLaws : Prop :=
  State.reset.StoreOk ∧ State.reset.AdmissionOk ∧ State.reset.ExecutionOk ∧ State.reset.LinkOk ∧
    State.reset.BurstsOk ∧ State.reset.CachesOk ∧ State.reset.PoolOk

/-- The frame store keeps its canonical form at every step, from every state that has it. -/
def Obligations.StoreStaysCanonical : Prop :=
  ∀ s t : State, s.StoreOk → step s = .next t → t.StoreOk

/-- R147: the reservations are the commands queued, at most 4, and replies and reservations never exceed 8. -/
def Obligations.AdmissionStaysWithinBounds : Prop :=
  ∀ s t : State, s.AdmissionOk → step s = .next t → t.AdmissionOk

/-- R159, R164: the current command is always the one that the message at the head of the queue spells (R160), and it is
in execution; while the part is held in reset there is none. -/
def Obligations.CurrentCommandStaysQueued : Prop :=
  ∀ s t : State, s.ExecutionOk → step s = .next t → t.ExecutionOk

/-- R153, R155: the notice queue never holds two entries of the same kind for the same stream, occurrences stay in
1 ~ 255, and a shadow record belongs to a frozen entry of its kind. -/
def Obligations.NoticesStayApart : Prop :=
  ∀ s t : State, s.LinkOk → step s = .next t → t.LinkOk

/-- R132: no burst is longer than 64 bytes. -/
def Obligations.BurstsStayShort : Prop :=
  ∀ s t : State, s.BurstsOk → step s = .next t → t.BurstsOk

/-- R39, R41, R42, R46: no translation cache holds one page twice, and the ranks of its k occupied entries are
0 ~ k − 1, each used once. -/
def Obligations.CachesStayRanked : Prop :=
  ∀ s t : State, s.CachesOk → step s = .next t → t.CachesOk

/-- R1, R3, R12, R13, R14: the frame table, the eight maps and the free-frame queue stay in agreement at every step, from
every state in which they are. A refcount is the number of map entries that name the frame, the frame is BOUND exactly
when there is one, and no map names it twice; the queue holds no frame twice and, outside initialisation, exactly the
FREE frames; no stream waits for a frame while the queue holds one. -/
def Obligations.PoolStaysWhole : Prop :=
  ∀ s t : State, s.PoolOk → step s = .next t → t.PoolOk

/-- R127, R128: no step but the completion of a burst, and the two resets, changes the frame store. -/
def Obligations.OnlyBurstsChangeTheStore : Prop :=
  ∀ (i : Instr) (s t : State), exec i s = .next t → (∀ j, i ≠ .captureBurstComplete j) → i ≠ .hostBurstComplete →
    i ≠ .pinReset → i ≠ .powerOn → t.store = s.store ∧ t.powerOns = s.powerOns

/-- R156, R164: while the part is held in reset every step is ignored, but for the resets themselves and the level
of CS_N. -/
def Obligations.HeldPartIgnoresOtherSteps : Prop :=
  ∀ (i : Instr) (s : State), s.heldInReset.isSome = true → s.ExecutionOk →
    i ≠ .powerOn → i ≠ .pinReset → i ≠ .resetEnd → i ≠ .csNFall → i ≠ .csNRise → exec i s = .next s

/-! ### Power-on, pin reset and pool initialisation -/

/-- R2, R12, R14, R16, R21, R40, R52, R54, R74, R129, R156, R159: the values that the manual gives for power-on. -/
def Obligations.ResetValues : Prop :=
  (∀ f, State.reset.frame f =
      { state := .free, refcount := 0, fill := 0, isSealed := false, generation := 0, writer := none
        hostHold := false }) ∧
    (∀ i v, State.reset.entry i v = none) ∧
    State.reset.mapUnit.freeQueue = [] ∧ State.reset.mapUnit.waiters = [] ∧ State.reset.mapUnit.deferred = [] ∧
    State.reset.mapUnit.claims = [] ∧ State.reset.mapUnit.lowMark = 64 ∧
    (∀ i, (State.reset.engine i).state = .idle ∧ (State.reset.engine i).direction = none ∧
      (State.reset.engine i).port = none ∧ (State.reset.engine i).faultPolicy = none ∧
      (State.reset.engine i).releasePolicy = none ∧ (State.reset.engine i).slotA = none ∧
      (State.reset.engine i).slotB = none ∧ (State.reset.engine i).activeSlot = none ∧
      (State.reset.engine i).activationPages = 0 ∧
      (State.reset.engine i).position = ⟨0, 0⟩ ∧ (State.reset.engine i).currentPage = none ∧
      (State.reset.engine i).pagesToGo = none ∧ (State.reset.engine i).triggerRecord = none ∧
      (State.reset.engine i).faultRecord = none ∧ (State.reset.engine i).endReason = none ∧
      (State.reset.engine i).counters = ⟨0, 0, 0, 0, 0, 0, 0, 0⟩ ∧
      (State.reset.engine i).cache.toList = [none, none, none, none]) ∧
    (∀ p, (State.reset.port p).bound = none ∧ (State.reset.port p).direction = none ∧
      (State.reset.port p).gateOpen = false ∧ (State.reset.port p).fifo = [] ∧
      (State.reset.port p).edgePending = false) ∧
    (∀ r : Requester, State.reset.arbiter.requests[r] = none) ∧ State.reset.arbiter.inFlight = none ∧
    State.reset.arbiter.lastGranted = 8 ∧
    State.reset.command.queue = [] ∧ State.reset.command.current = none ∧
    State.reset.command.execution = .waitingForInit ∧
    State.reset.link.transaction = .idle ∧ State.reset.link.replies = [] ∧ State.reset.link.reservations = 0 ∧
    State.reset.link.notices = [] ∧ State.reset.link.sending = none ∧ State.reset.link.shadow = none ∧
    State.reset.attn = false

/-- R164, R128: POWER_ON gives every block its reset value, and every byte of the frame store becomes a free value
(log entry 1). The level of CS_N is the host's and stays (the model's choice, log entry 14).
R164, R128: PIN_RESET gives every block its reset value and keeps the frame store, in which a write burst in
flight completes (within the step: log entry 16).
R157, R165: RESET_END begins pool initialisation and makes the link live, ignoring a transaction whose CS_N is
already low.
The reset values are those of State.reset. Four of them are the model's choice, not the manual's: the low condition
disarmed (log entry 13), the last word 0000h of unbound ports (log entry 15), the two items of initialisation while
none has begun (log entry 31), and the reason PIN_RESET of a pin reset that is asserted while power-on lasts (log
entry 17). -/
def Obligations.ResetsAndStartUp : Prop :=
  (∀ s : State, ∃ t, exec .powerOn s = .next t ∧
     t = { State.reset with
           link := { State.reset.link with csHigh := s.link.csHigh }
           powerOns := s.powerOns + 1
           pending := s.pending } ∧
     ∀ a, t.storeByte a = Config.powerOnByte (s.powerOns + 1) a) ∧
  (∀ s : State, ∃ t, exec .pinReset s = .next t ∧
     t = { State.reset with
           mapUnit := { State.reset.mapUnit with initReason := .pinReset }
           link := { State.reset.link with csHigh := s.link.csHigh }
           heldInReset := some .pinReset
           store := t.store
           powerOns := s.powerOns
           pending := s.pending } ∧
     ((∀ b, s.arbiter.inFlight = some b → b.isWrite = false) → t.store = s.store) ∧
     ∀ b, s.arbiter.inFlight = some b → b.isWrite = true →
       (∀ k (h : k < b.data.length), t.storeByte (address b.frame b.offset + k) = b.data[k]) ∧
         ∀ a, a < address b.frame b.offset ∨ address b.frame b.offset + b.data.length ≤ a →
           t.storeByte a = s.storeByte a) ∧
  (∀ s : State, s.heldInReset.isSome = true →
     exec .resetEnd s = .next
       { s with
         mapUnit := { s.mapUnit with initInProgress := true, initNext := 0, freeQueue := [] }
         link := { s.link with transaction := if s.link.csHigh then .idle else .ignore }
         heldInReset := none })

/-- R13, step 2: POOL_INIT_APPEND adds the next frame at the tail, in ascending order.
R13, R159, R165, R169: POOL_INIT_COMPLETE arms the low condition, posts READY, and makes the command unit ready,
answering a RESTART ALL that waited for it. -/
def Obligations.PoolInitialisationFillsTheQueue : Prop :=
  (∀ (s : State) (f : FrameId), s.heldInReset = none → s.mapUnit.initInProgress = true → s.mapUnit.initNext = f.val →
     exec .poolInitAppend s = .next
       { s with mapUnit := { s.mapUnit with freeQueue := s.mapUnit.freeQueue ++ [f], initNext := f.val + 1 } }) ∧
  (∀ s : State, s.heldInReset = none → s.mapUnit.initInProgress = true → s.mapUnit.initNext = 4096 →
     (s.command.current = none → s.command.execution = .waitingForInit →
       exec .poolInitComplete s = .next
         { s with
           mapUnit := { s.mapUnit with initInProgress := false, lowArmed := true }
           link := s.link.post none (.ready s.mapUnit.initReason)
           command := { s.command with execution := .ready } }) ∧
     ∀ m rest n, s.command.current = some ⟨.restart .all, .initialising n⟩ → s.command.queue = m :: rest →
       exec .poolInitComplete s = .next
         (({ s with
             mapUnit := { s.mapUnit with initInProgress := false, lowArmed := true }
             link := s.link.post none (.ready s.mapUnit.initReason) } : State).answered m rest [0x00, 0x01, byteOf n]))

/-! ### The control link -/

/-- R141: CS_N_FALL begins a transaction, and the first byte A5h makes it a write transaction.
R150: READ_SELECT freezes the oldest reply, else the oldest notice entry, else the empty message.
R143, R144, R150, R171, 12.6: a message is sent as kind, tag, length LSB first, payload, and the CRC of all these LSB
first: generator 1021h, initial value FFFFh, each byte most significant bit first, not inverted. A notice has tag 00h;
its payload is the stream or FFh, the occurrences, and the fields of its kind.
R152: ATTN is high exactly while the reply queue or the notice queue holds a message.
R141, R150, R151, R156, R157: MISO is driven while CS_N is low and the part is out of reset. It carries 00h in the first
byte, in every transaction but a read transaction, and once no message is being sent; in a read transaction the frozen
bytes follow the first byte, and 00h follows them. ATTN and MISO are read off the state (log entry 18). -/
def Obligations.TransactionBegins : Prop :=
  let w (n : Nat) : List Byte := [byteOf n, byteOf (n / 256)]
  let d (n : Nat) : List Byte := [byteOf n, byteOf (n / 256), byteOf (n / 65536), byteOf (n / 16777216)]
  let sent (kind tag : Byte) (length : Nat) (payload : List Byte) : List Byte :=
    let covered := [kind, tag] ++ w length ++ payload
    covered ++ w (crc16 covered).toNat
  let noticeBytes (e : NoticeEntry) : List Byte :=
    let notice (kind : Byte) (length : Nat) (fields : List Byte) : List Byte :=
      sent kind 0x00 length ([codeIn [0, 1, 2, 3, 4, 5, 6, 7] e.stream, byteOf e.occurrences] ++ fields)
    match e.fields with
    | .ready reason => notice 0x40 3 [codeIn [.powerOn, .pinReset, .restartAll] (some reason)]
    | .poolLow freeCount mark => notice 0x41 6 (w freeCount ++ w mark)
    | .linkError reason =>
      notice 0x42 3 [codeIn [.crc, .truncated, .oversize, .badStart, .discarded] (some reason)]
    | .fault v reason => notice 0x48 5 (w v.val ++ [codeIn [.absent, .poolEmpty] (some reason)])
    | .segmentDone slot pages => notice 0x49 7 ([codeIn [.a, .b] (some slot)] ++ d pages.toNat)
    | .triggered position => notice 0x4A 6 (w position.vpage.val ++ w position.offset)
    | .flow count => notice 0x4B 6 (d count.toNat)
    | .streamEnd reason position offending =>
      notice 0x4C 9
        ([codeIn [.completed, .starved, .stopped, .aborted, .failed] (some reason)] ++ w position.vpage.val
          ++ w position.offset ++ match offending with | some v => w v.val | none => [0xFF, 0xFF])
  (∀ bytes : List Byte,
     crc16 bytes =
       (bytes.flatMap fun x => (List.range 8).map fun k => x.getMsbD k).foldl
         (fun (crc : BitVec 16) bit => if crc.msb = bit then crc <<< 1 else (crc <<< 1) ^^^ 0x1021) 0xFFFF) ∧
  (∀ s : State, s.heldInReset = none →
     (s.link.csHigh = true →
       exec .csNFall s = .next { s with link := { s.link with csHigh := false, transaction := .start } }) ∧
     (s.link.transaction = .start →
       exec .writeTransactionStart s = .next { s with link := { s.link with transaction := .write } })) ∧
  (∀ s : State, s.heldInReset = none → s.link.transaction = .start →
     (∀ r rs, s.link.replies = r :: rs →
       exec .readSelect s = .next
         { s with
           link := { s.link with
             transaction := .read, sending := some (.reply (sent r.kind r.tag r.payload.length r.payload)) } }) ∧
     (∀ e es, s.link.replies = [] → s.link.notices = e :: es →
       exec .readSelect s = .next
         { s with link := { s.link with transaction := .read, sending := some (.notice (noticeBytes e) false) } }) ∧
     (s.link.replies = [] → s.link.notices = [] →
       exec .readSelect s = .next
         { s with
           link := { s.link with transaction := .read, sending := some (.empty [0x00, 0x00, 0x00, 0x00]) } })) ∧
  (∀ s : State, s.attn = true ↔ s.link.replies ≠ [] ∨ s.link.notices ≠ []) ∧
  (∀ (s : State) (k : Nat),
     (s.link.csHigh = true ∨ s.heldInReset.isSome = true → s.misoByte k = none) ∧
     (s.link.csHigh = false → s.heldInReset = none →
       s.misoByte 0 = some 0x00 ∧
       (s.link.sending = none → s.misoByte k = some 0x00) ∧
       (s.LinkOk → s.link.transaction ≠ .read → s.misoByte k = some 0x00) ∧
       ∀ bytes marked,
         s.link.sending = some (.reply bytes) ∨ s.link.sending = some (.notice bytes marked) ∨
           s.link.sending = some (.empty bytes) →
         (∀ h : k < bytes.length, s.misoByte (k + 1) = some bytes[k]) ∧
         (bytes.length ≤ k → s.misoByte (k + 1) = some 0x00)))

/-- R142, whole: a first byte that is neither A5h nor 5Ah posts one LINK_ERROR with reason BAD_START, the link
ignores what follows up to CS_N high, and nothing else changes. -/
def Obligations.BadStartIsIgnored : Prop :=
  (∀ (s : State) (first : Byte), s.heldInReset = none → s.link.transaction = .start → first ≠ 0xA5 → first ≠ 0x5A →
    exec (.badStart first) s = .next
      { s with link := { s.link.post none (.linkError .badStart) with transaction := .ignore } }) ∧
  ∀ s : State, s.link.transaction = .ignore →
    (∀ kind tag payload crc, exec (.inboundMessage kind tag payload crc) s = .next s) ∧
    (∀ kind tag length, exec (.oversize kind tag length) s = .next s) ∧
    (∀ first, exec (.badStart first) s = .next s) ∧ exec .readSelect s = .next s ∧
    exec .sendComplete s = .next s ∧ exec .writeTransactionStart s = .next s

/-- R143, R145, R147, R148: an inbound message is received to its end; with a wrong CRC it posts LINK_ERROR; intact,
it is admitted, answered FULL, or discarded, by the queues as they stand.
R145: a length field above 264 posts LINK_ERROR with reason OVERSIZE, and the rest of the transaction is
ignored, its end included.
R144: the CRC of the nine bytes 31h to 39h is 29B1h, sent as B1h then 29h. -/
def Obligations.InboundMessageIsAdmittedOrRefused : Prop :=
  (∀ (s : State) (kind tag : Byte) (payload : List Byte) (crc : Word),
     s.heldInReset = none → s.link.transaction = .write → payload.length ≤ 264 →
     (crc16 (kind :: tag :: byteOf payload.length :: byteOf (payload.length / 256) :: payload) ≠ crc →
       exec (.inboundMessage kind tag payload crc) s = .next
         { s with
           link := { s.link with transaction := .writeIgnore }.post none (.linkError .crc) }) ∧
     (crc16 (kind :: tag :: byteOf payload.length :: byteOf (payload.length / 256) :: payload) = crc →
       (s.command.queue.length < 4 → s.link.replies.length + s.link.reservations < 8 →
         exec (.inboundMessage kind tag payload crc) s = .next
           { s with
             command := { s.command with queue := s.command.queue ++ [⟨kind, tag, payload⟩] }
             link := { s.link with transaction := .writeIgnore, reservations := s.link.reservations + 1 } }) ∧
       (4 ≤ s.command.queue.length → s.link.replies.length + s.link.reservations < 8 →
         exec (.inboundMessage kind tag payload crc) s = .next
           { s with
             link := { s.link with
               transaction := .writeIgnore, replies := s.link.replies ++ [⟨kind + 0x80, tag, [0x01]⟩] } }) ∧
       (8 ≤ s.link.replies.length + s.link.reservations →
         exec (.inboundMessage kind tag payload crc) s = .next
           { s with
             link := { s.link with transaction := .writeIgnore }.post none (.linkError .discarded) }))) ∧
  (∀ (s : State) (kind tag : Byte) (length : Word), s.heldInReset = none → s.link.transaction = .write →
     264 < length.toNat → ∃ t,
       exec (.oversize kind tag length) s = .next t ∧
       t = { s with link := { s.link.post none (.linkError .oversize) with transaction := .writeIgnore } } ∧
       (s.link.csHigh = false →
         exec .csNRise t = .next { t with link := { t.link with csHigh := true, transaction := .idle } })) ∧
  crc16 [0x31, 0x32, 0x33, 0x34, 0x35, 0x36, 0x37, 0x38, 0x39] = 0x29B1 ∧
  le16 (0x29B1 : BitVec 16).toNat = [0xB1, 0x29]

/-- R151, R155: a complete send removes the frozen message, and a shadow record becomes a new entry at the tail.
R141, R145, R151, R155, R158: CS_N_RISE ends the transaction: a write transaction cut off posts TRUNCATED; a send
cut short keeps its reply, and its notice entry as it is or with the shadow record merged into it. An entry that a
restart has marked is removed, its shadow record becoming a new entry at the tail. After a complete send, and in the
empty message, nothing else changes. -/
def Obligations.EndOfASendSettlesTheMessage : Prop :=
  (∀ s : State, s.heldInReset = none → s.link.transaction = .read →
     (∀ bytes, s.link.sending = some (.reply bytes) →
       exec .sendComplete s = .next
         { s with link := { s.link with replies := s.link.replies.tail, sending := none } }) ∧
     (∀ bytes marked e es, s.link.sending = some (.notice bytes marked) → s.link.notices = e :: es →
       (s.link.shadow = none →
         exec .sendComplete s = .next { s with link := { s.link with notices := es, sending := none } }) ∧
       ∀ n fields, s.link.shadow = some ⟨n, fields⟩ →
         exec .sendComplete s = .next
           { s with
             link := { s.link with notices := es ++ [⟨e.stream, n, fields⟩], sending := none, shadow := none } }) ∧
     (∀ bytes, s.link.sending = some (.empty bytes) →
       exec .sendComplete s = .next { s with link := { s.link with sending := none } })) ∧
  (∀ s : State, s.heldInReset = none → s.link.csHigh = false →
     (s.link.transaction = .write →
       exec .csNRise s = .next
         { s with link := { s.link.post none (.linkError .truncated) with csHigh := true, transaction := .idle } }) ∧
     (s.link.transaction ≠ .write → s.link.transaction ≠ .read →
       exec .csNRise s = .next { s with link := { s.link with csHigh := true, transaction := .idle } }) ∧
     (s.link.transaction = .read →
       (∀ bytes, s.link.sending = some (.reply bytes) →
         exec .csNRise s = .next
           { s with link := { s.link with csHigh := true, transaction := .idle, sending := none } }) ∧
       (∀ bytes e es n fields, s.link.sending = some (.notice bytes false) → s.link.notices = e :: es →
         s.link.shadow = some ⟨n, fields⟩ → (∀ x, e.fields ≠ .flow x) →
         exec .csNRise s = .next
           { s with
             link := { s.link with
               csHigh := true, transaction := .idle, sending := none, shadow := none
               notices := { e with occurrences := min 255 (e.occurrences + n), fields := fields } :: es } }) ∧
       (∀ bytes e es n x y, s.link.sending = some (.notice bytes false) → s.link.notices = e :: es →
         s.link.shadow = some ⟨n, .flow y⟩ → e.fields = .flow x →
         exec .csNRise s = .next
           { s with
             link := { s.link with
               csHigh := true, transaction := .idle, sending := none, shadow := none
               notices := { e with
                 occurrences := min 255 (e.occurrences + n)
                 fields := .flow (BitVec.ofNat 32 (min (x.toNat + y.toNat) 0xFFFFFFFF)) } :: es } }) ∧
       (∀ bytes e es, s.link.sending = some (.notice bytes false) → s.link.notices = e :: es → s.link.shadow = none →
         exec .csNRise s = .next
           { s with link := { s.link with csHigh := true, transaction := .idle, sending := none } }) ∧
       (∀ bytes e es, s.link.sending = some (.notice bytes true) → s.link.notices = e :: es →
         (s.link.shadow = none →
           exec .csNRise s = .next
             { s with
               link := { s.link with csHigh := true, transaction := .idle, sending := none, notices := es } }) ∧
         ∀ n fields, s.link.shadow = some ⟨n, fields⟩ →
           exec .csNRise s = .next
             { s with
               link := { s.link with
                 csHigh := true, transaction := .idle, sending := none, shadow := none
                 notices := es ++ [⟨e.stream, n, fields⟩] } }) ∧
       (∀ bytes, s.link.sending = some (.empty bytes) ∨ s.link.sending = none →
         exec .csNRise s = .next
           { s with link := { s.link with csHigh := true, transaction := .idle, sending := none } })))

/-- R154, whole: an occurrence whose kind and stream match an entry that is not frozen is coalesced into it. The
entry keeps its place, its occurrences are raised by 1 up to 255, FLOW sums its word count up to FFFFFFFFh, and every
other kind takes the newest fields. -/
def Obligations.MatchingOccurrenceCoalesces : Prop :=
  ∀ (l : Link) (before after : List NoticeEntry) (e : NoticeEntry) (stream : Option StreamId) (fields : NoticeFields),
    l.notices = before ++ e :: after → (l.noticeFrozen = true → before ≠ []) →
    (∀ x ∈ before, ¬ (x.stream = stream ∧ x.fields.kind = fields.kind)) →
    e.stream = stream → e.fields.kind = fields.kind →
    (∀ x y, e.fields = .flow x → fields = .flow y →
      l.post stream fields =
        { l with
          notices := before ++
            { e with
              occurrences := min 255 (e.occurrences + 1)
              fields := .flow (BitVec.ofNat 32 (min (x.toNat + y.toNat) 0xFFFFFFFF)) } :: after }) ∧
    ((∀ y, fields ≠ .flow y) →
      l.post stream fields =
        { l with
          notices := before ++ { e with occurrences := min 255 (e.occurrences + 1), fields := fields } :: after })

/-- R153, R154, R155: an occurrence without an entry of its kind and stream becomes a new entry at the tail; one that
matches the frozen entry goes into the shadow record, which takes a further one as an entry does: its occurrences are
raised by 1 up to 255, FLOW sums its word count, and every other kind takes the newest fields. -/
def Obligations.OtherOccurrencesAppendOrShadow : Prop :=
  ∀ (l : Link) (stream : Option StreamId) (fields : NoticeFields),
    ((∀ x ∈ l.notices, ¬ (x.stream = stream ∧ x.fields.kind = fields.kind)) →
      l.post stream fields = { l with notices := l.notices ++ [⟨stream, 1, fields⟩] }) ∧
    ∀ bytes marked e es, l.sending = some (.notice bytes marked) → l.notices = e :: es → e.stream = stream →
      e.fields.kind = fields.kind →
      (l.shadow = none → l.post stream fields = { l with shadow := some ⟨1, fields⟩ }) ∧
      (∀ n held, l.shadow = some ⟨n, held⟩ → (∀ x, held ≠ .flow x) →
        l.post stream fields = { l with shadow := some ⟨min 255 (n + 1), fields⟩ }) ∧
      ∀ n x y, l.shadow = some ⟨n, .flow x⟩ → fields = .flow y →
        l.post stream fields =
          { l with
            shadow := some ⟨min 255 (n + 1), .flow (BitVec.ofNat 32 (min (x.toNat + y.toNat) 0xFFFFFFFF))⟩ }

/-! ### The command unit -/

/-- R159, R160: COMMAND_TAKE checks the command at the head of the queue; a refusal is answered with its status
alone, and a command that passes is handed to its owner.
R160, R170 with the tables of 12.3 and 12.7: a kind outside the 23 command kinds is refused with BAD_KIND, whatever its
length; a command kind with a payload length that is not its own with BAD_LENGTH; and a message is read as a command
exactly when its payload is laid out as that command's, each field in its range. Every other message is refused with
BAD_FIELD. -/
def Obligations.CommandTakeChecksTheHead : Prop :=
  (∀ (s : State) (m : Message) (rest : List Message), s.heldInReset = none → s.command.execution = .ready →
     s.command.queue = m :: rest →
     (∀ status, readCommand m = .error status →
       exec .commandTake s = .next (s.answered m rest [statusCode status])) ∧
     (∀ c, readCommand m = .ok c →
       exec .commandTake s = .next
         { s with
           command := { s.command with current := some ⟨c, .handed⟩, execution := .executing }
           mapUnit :=
             if ownedByMapUnit c then { s.mapUnit with claims := s.mapUnit.claims ++ [.host] } else s.mapUnit })) ∧
  (let w (n : Nat) : List Byte := [byteOf n, byteOf (n / 256)]
   let spelled (c : HostCommand) : Byte × List Byte :=
     match c with
     | .hello => (0x01, [])
     | .restart scope => (0x02, [codeIn [.streams, .all] (some scope)])
     | .map i access v f =>
       (0x10, [byteOf i.val, codeIn [.readWrite, .readOnly] (some access)] ++ w v.val
         ++ (f.map fun (x : FrameId) => w x.val).getD [0xFF, 0xFF])
     | .unmap i v n => (0x11, [byteOf i.val, 0x00] ++ w v.val ++ w n)
     | .protect i access v n =>
       (0x12, [byteOf i.val, codeIn [.readWrite, .readOnly] (some access)] ++ w v.val ++ w n)
     | .share i j access v u n =>
       (0x13, [byteOf i.val, byteOf j.val, codeIn [.readWrite, .readOnly] (some access), 0x00] ++ w v.val ++ w u.val
         ++ w n)
     | .queryMap i v n => (0x14, [byteOf i.val, byteOf n] ++ w v.val)
     | .queryFrame f => (0x18, w f.val)
     | .poolStatus => (0x19, [])
     | .setPoolMark n => (0x1A, w n)
     | .openStream i direction p fault policy =>
       (0x20, [byteOf i.val, codeIn [.capture, .replay] (some direction), byteOf p.val,
         codeIn [.allocate, .host, .skip] (some fault), codeIn [.keep, .release] (some policy)])
     | .closeStream i release => (0x21, [byteOf i.val, codeIn [false, true] (some release)])
     | .arm i slot d =>
       (0x22, [byteOf i.val, codeIn [.a, .b] (some slot), codeIn [.once, .loop] (some d.mode),
         codeIn [false, true] (some d.link)] ++ w d.first.val ++ w d.count ++ w d.postTrigger)
     | .start i slot => (0x23, [byteOf i.val, codeIn [.a, .b] (some slot)])
     | .pause i => (0x24, [byteOf i.val])
     | .resume i => (0x25, [byteOf i.val])
     | .stop i => (0x26, [byteOf i.val])
     | .abort i => (0x27, [byteOf i.val])
     | .trigger i => (0x28, [byteOf i.val])
     | .queryStream i => (0x29, [byteOf i.val])
     | .readData i v offset n => (0x30, [byteOf i.val, 0x00] ++ w v.val ++ w offset ++ w n)
     | .writeData i v offset data => (0x31, [byteOf i.val, 0x00] ++ w v.val ++ w offset ++ data)
     | .sealPage i v => (0x32, [byteOf i.val, 0x00] ++ w v.val)
   let inRange (c : HostCommand) : Prop :=
     match c with
     | .unmap _ v n | .protect _ _ v n => 1 ≤ n ∧ n ≤ 512 ∧ v.val + n ≤ 512
     | .share _ _ _ v u n => 1 ≤ n ∧ n ≤ 512 ∧ v.val + n ≤ 512 ∧ u.val + n ≤ 512
     | .queryMap _ v n => 1 ≤ n ∧ n ≤ 32 ∧ v.val + n ≤ 512
     | .setPoolMark n => n ≤ 4096
     | .arm _ _ d => d.count ≤ 512 ∧ d.postTrigger ≤ 511 ∧ (d.count = 0 ∨ d.first.val + d.count ≤ 512)
     | .readData _ _ offset n => offset % 2 = 0 ∧ offset ≤ 4094 ∧ n % 2 = 0 ∧ 2 ≤ n ∧ n ≤ 256
     | .writeData _ _ offset data =>
       offset % 2 = 0 ∧ offset ≤ 4094 ∧ data.length % 2 = 0 ∧ 2 ≤ data.length ∧ data.length ≤ 256
     | .hello | .restart _ | .map _ _ _ _ | .queryFrame _ | .poolStatus | .openStream _ _ _ _ _ | .closeStream _ _
     | .start _ _ | .pause _ | .resume _ | .stop _ | .abort _ | .trigger _ | .queryStream _ | .sealPage _ _ => True
   let lengths : List (Byte × Nat) :=
     [(0x01, 0), (0x02, 1), (0x10, 6), (0x11, 6), (0x12, 6), (0x13, 10), (0x14, 4), (0x18, 2), (0x19, 0), (0x1A, 2),
       (0x20, 5), (0x21, 2), (0x22, 10), (0x23, 2), (0x24, 1), (0x25, 1), (0x26, 1), (0x27, 1), (0x28, 1), (0x29, 1),
       (0x30, 8), (0x32, 4)]
   ∀ m : Message,
     (readCommand m = .error .badKind ↔ m.kind ∉ 0x31 :: lengths.map fun x => x.1) ∧
     (readCommand m = .error .badLength ↔
       (∃ n, (m.kind, n) ∈ lengths ∧ m.payload.length ≠ n) ∨
         m.kind = 0x31 ∧ ¬ (8 ≤ m.payload.length ∧ m.payload.length ≤ 262 ∧ m.payload.length % 2 = 0)) ∧
     (∀ c, readCommand m = .ok c ↔ (m.kind, m.payload) = spelled c ∧ inRange c) ∧
     ∀ status, readCommand m = .error status → status ∈ [.badKind, .badLength, .badField])

/-- R163, R171: HELLO is answered with the resources of the part (the 22 bytes of 12.4) and changes nothing else.
R18, R19, R37, R73, R171: the four queries are answered with what they name, byte by byte as 12.4 and 12.5 lay it out, and
change nothing else. -/
def Obligations.QueriesOnlyAnswer : Prop :=
  (∀ (s : State) (m : Message) (rest : List Message), s.Handed .hello m rest →
     exec .hello s = .next
       (s.answered m rest
         [0x00, 0x16, 0x84, 0x01, 0x08, 0x04, 0x00, 0x10, 0x00, 0x02, 0x00, 0x10, 0x00, 0x01, 0x04, 0x04, 0x08, 0x30,
           0x08, 0x01, 0x00, 0x01])) ∧
  (∀ (s : State) (m : Message) (rest : List Message),
     let w (n : Nat) : List Byte := [byteOf n, byteOf (n / 256)]
     let d (n : Nat) : List Byte := [byteOf n, byteOf (n / 256), byteOf (n / 65536), byteOf (n / 16777216)]
     let ow (n : Option Nat) : List Byte := (n.map w).getD [0xFF, 0xFF]
     (∀ i first count, s.AtMapUnit (.queryMap i first count) m rest → first.val + count ≤ 512 →
       exec (.queryMap i first count) s = .next
         (s.claimTaken.answered m rest
           ([0x00, byteOf i.val, byteOf count] ++ w first.val
             ++ (pagesFrom first count).flatMap fun v =>
               match s.entry i v with
               | some e => [0x01, codeIn [.readWrite, .readOnly] (some e.access)] ++ w e.frame.val
               | none => [0x00, 0xFF, 0xFF, 0xFF]))) ∧
     (∀ f, s.AtMapUnit (.queryFrame f) m rest →
       let r := s.frame f
       exec (.queryFrame f) s = .next
         (s.claimTaken.answered m rest
           ([0x00] ++ w f.val ++ [codeIn [.free, .bound] (some r.state), byteOf r.refcount] ++ w r.fill
             ++ [codeIn [false, true] (some r.isSealed)] ++ w r.generation.toNat
             ++ [codeIn [0, 1, 2, 3, 4, 5, 6, 7] r.writer, codeIn [false, true] (some r.hostHold)]
             ++ ow (if r.state = .free then s.mapUnit.freeQueue.idxOf? f else none)))) ∧
     (s.AtMapUnit .poolStatus m rest →
       exec .poolStatus s = .next
         (s.claimTaken.answered m rest
           ([0x00] ++ w s.mapUnit.freeQueue.length
             ++ w (s.mapUnit.frames.toList.countP fun r => r.state == .bound) ++ w s.mapUnit.lowMark
             ++ [codeIn [false, true] (some s.mapUnit.lowArmed), 0x00, byteOf s.mapUnit.waiters.length]
             ++ (s.mapUnit.waiters.map (fun (i : StreamId) => byteOf i.val) ++ List.replicate 8 0xFF).take 8))) ∧
     (∀ i, s.AtEngine i (.queryStream i) m rest →
       let e := s.engine i
       let port := e.port.map s.port
       let slot (held : Option Descriptor) : List Byte :=
         match held with
         | some x =>
           [0x01] ++ w x.first.val ++ w x.count
             ++ [codeIn [.once, .loop] (some x.mode), codeIn [false, true] (some x.link)] ++ w x.postTrigger
         | none => [0x00, 0x00, 0x00, 0x00, 0x00, 0x00, 0x00, 0x00, 0x00]
       let cached (held : Option CacheEntry) : List Byte :=
         match held with
         | some x =>
           [0x01] ++ w x.vpage.val ++ w x.frame.val
             ++ [codeIn [.readWrite, .readOnly] (some x.access), byteOf x.rank]
         | none => [0x00, 0xFF, 0xFF, 0xFF, 0xFF, 0xFF, 0xFF]
       exec (.queryStream i) s = .next
         (s.answered m rest
           ([0x00, byteOf i.val,
              codeIn [.idle, .ready, .running, .paused, .waitFault, .waitData, .stopping, .done, .failed]
                (some e.state),
              codeIn [.capture, .replay] e.direction, codeIn [0, 1, 2, 3] e.port,
              codeIn [.allocate, .host, .skip] e.faultPolicy, codeIn [.keep, .release] e.releasePolicy,
              codeIn [false, true] (port.map fun p => p.gateOpen)]
             ++ slot e.slotA ++ slot e.slotB ++ [codeIn [.a, .b] e.activeSlot] ++ d e.activationPages.toNat
             ++ w e.position.vpage.val ++ w e.position.offset
             ++ ow (e.currentPage.map fun c => c.vpage.val) ++ ow (e.currentPage.map fun c => c.frame.val)
             ++ ow e.pagesToGo
             ++ ow (e.triggerRecord.map fun t => t.vpage.val) ++ ow (e.triggerRecord.map fun t => t.offset)
             ++ ow (e.faultRecord.map fun r => r.vpage.val)
             ++ [codeIn [.absent, .poolEmpty] (e.faultRecord.map fun r => r.reason),
               codeIn [.completed, .starved, .stopped, .aborted, .failed] e.endReason]
             ++ ow (port.map fun p => p.fifo.length)
             ++ [codeIn [false, true] (some (s.burstInFlight (requesterOf i)))]
             ++ d e.counters.bytesMoved.toNat ++ d e.counters.wordsDropped.toNat ++ d e.counters.underrunWords.toNat
             ++ d e.counters.pagesCompleted.toNat ++ d e.counters.faultsTaken.toNat
             ++ d e.counters.pagesSkipped.toNat ++ w e.counters.cacheHits.toNat ++ w e.counters.cacheMisses.toNat
             ++ e.cache.toList.flatMap cached))))

/-- R166: a RESTART of either scope is sent to all eight stream engines. R168, R169: the reply counts the streams that
are not IDLE; that they are counted at this moment is the model's reading (log entry 22).
R166: an engine whose stream is IDLE answers a restart at once; any other closes its gate, clears a pending edge,
and withdraws its request and its claims; with no burst in flight it discards its FIFO, empties its cache and answers
with its current frame and offset (a capture stream) or with nothing to seal. An engine with a burst in flight waits for
it: a capture burst lands in its frame and advances the offset, the words of a replay burst are discarded, and then the
engine answers in the same way, with nothing reported and no page left. -/
def Obligations.EveryEngineTakesTheRestart : Prop :=
  (∀ (s : State) (m : Message) (rest : List Message) (scope : RestartScope), s.Handed (.restart scope) m rest →
     exec (match scope with | .streams => .restartStreams | .all => .restartAll) s = .next
       { s with
         engines := s.engines.map fun e => { e with restart := .sent }
         command := { s.command with
           current := some ⟨.restart scope, .stoppingEngines (s.engines.toList.countP fun e => e.state != .idle)⟩ } }) ∧
  (∀ (s : State) (i : StreamId), s.heldInReset = none → (s.engine i).restart = .sent →
     ((s.engine i).state = .idle →
       exec (.engineRestart i) s = .next (s.setEngine i { s.engine i with restart := .answered none })) ∧
     ∀ p, (s.engine i).state ≠ .idle → (s.engine i).port = some p →
       (s.burstInFlight (requesterOf i) = false →
         exec (.engineRestart i) s = .next
           ((((s.setPort p { s.port p with gateOpen := false, edgePending := false, fifo := [] }).withdrawRequest
             i).setClaims (s.mapUnit.claims.filter fun c => !c.isOf i)).setEngine i
               { s.engine i with
                 cache := Vector.replicate 4 none, lookFill := none, due := .none, signals := []
                 restart := .answered
                   (if (s.engine i).direction = some .capture then
                     (s.engine i).currentPage.map fun c => (c.frame, (s.engine i).position.offset)
                   else none) })) ∧
       (s.burstInFlight (requesterOf i) = true →
         exec (.engineRestart i) s = .next
           ((((s.setPort p { s.port p with gateOpen := false, edgePending := false }).withdrawRequest i).setClaims
             (s.mapUnit.claims.filter fun c => !c.isOf i)).setEngine i
               { s.engine i with restart := .waitingBurst }))) ∧
  (∀ (s : State) (i : StreamId) (p : PortId) (b : Burst), s.heldInReset = none → s.arbiter.inFlight = some b →
     b.requester = requesterOf i → (s.engine i).restart = .waitingBurst → (s.engine i).port = some p →
     let offset := (s.engine i).position.offset + b.length
     let stopped (answer : Option (FrameId × Nat)) : Engine :=
       { s.engine i with
         position := ⟨(s.engine i).position.vpage, offset⟩
         counters := { (s.engine i).counters with
           bytesMoved := (s.engine i).counters.bytesMoved + BitVec.ofNat 32 b.length }
         cache := Vector.replicate 4 none, lookFill := none, due := .none, signals := []
         restart := .answered answer }
     (b.isWrite = true → (s.engine i).direction = some .capture →
       exec (.captureBurstComplete i) s = .next
         ((((s.storeWrite b.frame b.offset b.data).endBurst).setPort p { s.port p with fifo := [] }).setEngine i
           (stopped ((s.engine i).currentPage.map fun c => (c.frame, offset))))) ∧
     (b.isWrite = false → (s.engine i).direction = some .replay →
       exec (.replayBurstComplete i) s = .next
         ((s.endBurst.setPort p { s.port p with fifo := [] }).setEngine i (stopped none))))

/-- R167, R168: the restart claim of RESTART STREAMS seals each answered frame at its offset, empties the waiter and
deferred lists, sets every stream context to its reset values and unbinds every port; every other frame record, every
map entry and the pool are kept, and the reply counts the streams. The last word 0000h of the unbound ports is
the model's choice (log entry 15). The premise that no two answers name one frame is
R7's: a frame has at most one writer.
R169: the restart claim of RESTART ALL also makes every entry absent, resets every frame record with its
generation incremented, and begins pool initialisation, while the command waits for its end. The low condition keeps its value
until then (the model's choice, log entry 13).
R158: a restart removes the stream notices from the queue and keeps the global ones; a frozen stream notice is
marked, with its shadow record emptied, and a frozen global one keeps its shadow record. -/
def Obligations.RestartClearsByItsScope : Prop :=
  (∀ (s : State) (m : Message) (rest : List Message) (n : Nat),
     s.command.current = some ⟨.restart .streams, .stoppingEngines n⟩ → s.command.queue = m :: rest →
     s.heldInReset = none → s.mapUnit.initInProgress = false →
     (∀ i, ∃ answer, (s.engine i).restart = .answered answer) →
     (∀ i j f o o', (s.engine i).restart = .answered (some (f, o)) → (s.engine j).restart = .answered (some (f, o')) →
       i = j) →
     ∃ t, exec .restartClaim s = .next t ∧
       t = ({ s with
             mapUnit := { s.mapUnit with frames := t.mapUnit.frames, waiters := [], deferred := [] }
             engines := Vector.replicate 8 Engine.reset
             ports := Vector.replicate 4 Port.unbound
             link := s.link.restarted } : State).answered m rest [0x00, 0x00, byteOf n] ∧
       (∀ i f o, (s.engine i).restart = .answered (some (f, o)) →
         t.frame f = { s.frame f with fill := o, isSealed := true, writer := none }) ∧
       ∀ f, (∀ i o, (s.engine i).restart ≠ .answered (some (f, o))) → t.frame f = s.frame f) ∧
  (∀ (s : State) (n : Nat), s.command.current = some ⟨.restart .all, .stoppingEngines n⟩ →
     s.heldInReset = none → s.mapUnit.initInProgress = false →
     (∀ i, ∃ answer, (s.engine i).restart = .answered answer) →
     ∃ t, exec .restartClaim s = .next t ∧
       t = { s with
             mapUnit := { s.mapUnit with
               frames := t.mapUnit.frames
               maps := t.mapUnit.maps
               freeQueue := [], waiters := [], deferred := [], initInProgress := true, initNext := 0
               initReason := .restartAll }
             engines := Vector.replicate 8 Engine.reset
             ports := Vector.replicate 4 Port.unbound
             link := s.link.restarted
             command := { s.command with current := some ⟨.restart .all, .initialising n⟩ } } ∧
       (∀ i v, t.entry i v = none) ∧
       ∀ f, t.frame f =
         { state := .free, refcount := 0, fill := 0, isSealed := false, generation := (s.frame f).generation + 1
           writer := none, hostHold := false }) ∧
  (∀ l : Link,
     (l.noticeFrozen = false →
       l.restarted =
         { l with notices := l.notices.filter fun e => e.fields.kind ∈ [.ready, .poolLow, .linkError] }) ∧
     ∀ bytes marked e es, l.sending = some (.notice bytes marked) → l.notices = e :: es →
       (e.fields.kind ∈ [NoticeKind.ready, .poolLow, .linkError] →
         l.restarted =
           { l with notices := e :: es.filter fun x => x.fields.kind ∈ [.ready, .poolLow, .linkError] }) ∧
       (e.fields.kind ∉ [NoticeKind.ready, .poolLow, .linkError] →
         l.restarted =
           { l with
             notices := e :: es.filter fun x => x.fields.kind ∈ [.ready, .poolLow, .linkError]
             sending := some (.notice bytes true), shadow := none }))

/-! ### Pool and maps -/

/-- R17, whole: SET_POOL_MARK replaces the mark, arms the condition, compares and posts nothing, and answers with the
mark and the free count; a mark above 4096 is refused with BAD_FIELD and changes nothing; with the free count already
below the mark, the next issue from the queue posts POOL_LOW. -/
def Obligations.SetPoolMarkReplacesTheMark : Prop :=
  (∀ (s : State) (m : Message) (rest : List Message) (mark : Nat), s.AtMapUnit (.setPoolMark mark) m rest →
    exec (.setPoolMark mark) s = .next
      ((s.claimTaken.setMapUnit { s.claimTaken.mapUnit with lowMark := mark, lowArmed := true }).answered m rest
        [0x00, byteOf mark, byteOf (mark / 256), byteOf s.mapUnit.freeQueue.length,
          byteOf (s.mapUnit.freeQueue.length / 256)])) ∧
  (∀ (s : State) (rest : List Message) (tag lo hi : Byte), s.heldInReset = none → s.command.execution = .ready →
    s.command.queue = ⟨0x1A, tag, [lo, hi]⟩ :: rest → 4096 < lo.toNat + 256 * hi.toNat →
    exec .commandTake s = .next (s.answered ⟨0x1A, tag, [lo, hi]⟩ rest [0x04])) ∧
  ∀ (s : State) (f : FrameId) (writer : Option StreamId), s.mapUnit.lowArmed = true →
    (s.mapUnit.freeQueue.erase f).length < s.mapUnit.lowMark →
    (s.issueFromQueue f writer).link =
      s.link.post none (.poolLow (s.mapUnit.freeQueue.erase f).length s.mapUnit.lowMark) ∧
    (s.issueFromQueue f writer).mapUnit.lowArmed = false

/-- R9, R16, R27: a MAP of an absent entry issues the frame (the head of the queue, or the FREE frame named), makes
the entry, makes the low-mark check, and answers with the frame and its new generation.
R26, R161: MAP is refused with EXISTS, POOL_EMPTY or FRAME_TAKEN, in this order, and changes nothing. -/
def Obligations.MapIssuesTheFrameOrIsRefused : Prop :=
  (∀ (s : State) (m : Message) (rest : List Message) (i : StreamId) (access : Access) (v : VPage)
     (asked : Option FrameId) (f : FrameId),
     s.AtMapUnit (.map i access v asked) m rest → s.entry i v = none →
     ((s.engine i).state = .waitFault → (s.engine i).faultRecord ≠ some ⟨v, .absent⟩) →
     (asked = none ∧ s.mapUnit.freeQueue.head? = some f ∨ asked = some f ∧ (s.frame f).state = .free) →
     let queue := s.mapUnit.freeQueue.erase f
     let generation := (s.frame f).generation + 1
     let mapped :=
       ((s.claimTaken.setFreeQueue queue).setFrame f
         { s.frame f with
           state := .bound, refcount := 1, fill := 0, isSealed := false, generation := generation
           writer := none }).setEntry i v (some ⟨f, access⟩)
     let checked :=
       if queue.length < s.mapUnit.lowMark ∧ s.mapUnit.lowArmed = true then
         (mapped.setLowArmed false).post none (.poolLow queue.length s.mapUnit.lowMark)
       else mapped
     exec (.map i access v asked) s = .next
       (checked.answered m rest
         [0x00, byteOf f.val, byteOf (f.val / 256), byteOf generation.toNat, byteOf (generation.toNat / 256)])) ∧
  (∀ (s : State) (m : Message) (rest : List Message) (i : StreamId) (access : Access) (v : VPage)
     (asked : Option FrameId), s.AtMapUnit (.map i access v asked) m rest →
     (∀ e, s.entry i v = some e →
       exec (.map i access v asked) s = .next (s.claimTaken.answered m rest [0x08])) ∧
     (s.entry i v = none → asked = none → s.mapUnit.freeQueue = [] →
       exec (.map i access v asked) s = .next (s.claimTaken.answered m rest [0x0D])) ∧
     ∀ f, s.entry i v = none → asked = some f → (s.frame f).state = .bound →
       exec (.map i access v asked) s = .next (s.claimTaken.answered m rest [0x0E]))

/-- R28, R109, R110, R121: a MAP of the vpage at which its stream waits with reason ABSENT, of any frame or of a named
one, retries the stream within the claim. A replay stream enters the page, counting no miss, and waits for data; a
capture stream writes the fresh frame in place, or fails on a READ_ONLY page. -/
def Obligations.MapRetriesTheFaultedStream : Prop :=
  ∀ (s : State) (m : Message) (rest : List Message) (i : StreamId) (access : Access) (v : VPage)
    (asked : Option FrameId) (f : FrameId) (direction : Direction),
    s.AtMapUnit (.map i access v asked) m rest → s.entry i v = none →
    (asked = none ∧ s.mapUnit.freeQueue.head? = some f ∨ asked = some f ∧ (s.frame f).state = .free) →
    (s.frame f).hostHold = false → (s.engine i).state = .waitFault →
    (s.engine i).faultRecord = some ⟨v, .absent⟩ → (s.engine i).endReason = none →
    (s.engine i).direction = some direction →
    ∃ t, exec (.map i access v asked) s = .next t ∧ t.entry i v = some ⟨f, access⟩ ∧
      (t.engine i).faultRecord = none ∧ (t.engine i).counters.cacheMisses = (s.engine i).counters.cacheMisses ∧
      (direction = .replay →
        (t.engine i).state = .waitData ∧ (t.engine i).currentPage = some ⟨v, f⟩ ∧
          (t.engine i).position = ⟨v, 0⟩) ∧
      (direction = .capture → access = .readWrite →
        (t.engine i).state = .running ∧ (t.engine i).currentPage = some ⟨v, f⟩ ∧
          (t.engine i).position = ⟨v, 0⟩ ∧ (t.frame f).writer = some i ∧ (t.frame f).fill = 0) ∧
      (direction = .capture → access = .readOnly →
        (t.engine i).state = .failed ∧ (t.engine i).currentPage = none ∧ (t.engine i).activeSlot = none ∧
          (t.engine i).endReason = some .failed ∧ (t.frame f).writer = none)

/-- R31 with R24: an UNMAP whose range holds the current page of its active stream is refused with IN_USE, and
changes no entry, no refcount and no cache entry; any other UNMAP is carried out and answered OK. -/
def Obligations.UnmapIsRefusedForACurrentPage : Prop :=
  ∀ (s : State) (m : Message) (rest : List Message) (i : StreamId) (first : VPage) (count : Nat),
    s.AtMapUnit (.unmap i first count) m rest →
    ((∃ c, (s.engine i).currentPage = some c ∧ first.val ≤ c.vpage.val ∧ c.vpage.val < first.val + count) →
      (s.engine i).state ∈ [.running, .paused, .waitData, .stopping] →
      exec (.unmap i first count) s = .next (s.claimTaken.answered m rest [0x09])) ∧
    (((∀ c, (s.engine i).currentPage = some c → c.vpage.val < first.val ∨ first.val + count ≤ c.vpage.val) ∨
        (s.engine i).state ∉ [.running, .paused, .waitData, .stopping]) →
      ∃ t r, exec (.unmap i first count) s = .next t ∧ t.link.replies = s.link.replies ++ [r] ∧
        r.payload.head? = some 0x00)

/-- R11, R16, R32, R46: an UNMAP of one page that is not in use drops its cache entry. An absent entry is passed over;
a present one is made absent and its frame loses a reference, and at 0 with no waiter it is FREE at the tail of the
queue, with the re-arm check.
R32: an UNMAP of a range does so for each of its pages in ascending order. With no waiter, its frames join the queue in
the order of their pages, and the reply counts the entries made absent and the frames returned. That the entries of the
range name different frames is R3's law, and that they have a reference each. -/
def Obligations.UnmapReleasesThePage : Prop :=
  (∀ (s : State) (m : Message) (rest : List Message) (i : StreamId) (v : VPage),
     s.AtMapUnit (.unmap i v 1) m rest → (s.engine i).purgeInUse v 1 = false →
     let purged := s.claimTaken.setEngine i { s.engine i with cache := cacheDrop (s.engine i).cache v 1 }
     (s.entry i v = none →
       exec (.unmap i v 1) s = .next (purged.answered m rest [0x00, 0x00, 0x00, 0x00, 0x00])) ∧
     ∀ f access, s.entry i v = some ⟨f, access⟩ →
       (∀ n, (s.frame f).refcount = n + 2 →
         exec (.unmap i v 1) s = .next
           (((purged.setEntry i v none).setFrame f { s.frame f with refcount := n + 1 }).answered m rest
             [0x00, 0x01, 0x00, 0x00, 0x00])) ∧
       ((s.frame f).refcount = 1 → s.mapUnit.waiters = [] →
         let queue := s.mapUnit.freeQueue ++ [f]
         exec (.unmap i v 1) s = .next
           (((((purged.setEntry i v none).setFrame f
             { s.frame f with refcount := 0, state := .free, writer := none }).setFreeQueue queue).setLowArmed
               (s.mapUnit.lowArmed || s.mapUnit.lowMark ≤ queue.length)).answered m rest
             [0x00, 0x01, 0x00, 0x01, 0x00]))) ∧
  (∀ (s : State) (m : Message) (rest : List Message) (i : StreamId) (first : VPage) (count : Nat),
     s.AtMapUnit (.unmap i first count) m rest → (s.engine i).purgeInUse first count = false →
     first.val + count ≤ 512 → s.mapUnit.waiters = [] →
     let named := (pagesFrom first count).filterMap fun v => (s.entry i v).map fun e => e.frame
     let freed := named.filter fun f => (s.frame f).refcount == 1
     let queue := s.mapUnit.freeQueue ++ freed
     named.Nodup → (∀ f ∈ named, 1 ≤ (s.frame f).refcount) →
     ∃ t, exec (.unmap i first count) s = .next t ∧
       t = ((s.claimTaken.setEngine i
             { s.engine i with cache := cacheDrop (s.engine i).cache first count }).setMapUnit
             { s.claimTaken.mapUnit with
               maps := t.mapUnit.maps, frames := t.mapUnit.frames, freeQueue := queue
               lowArmed := s.mapUnit.lowArmed || (!freed.isEmpty && s.mapUnit.lowMark ≤ queue.length)
             }).answered m rest
             [0x00, byteOf named.length, byteOf (named.length / 256), byteOf freed.length,
               byteOf (freed.length / 256)] ∧
       (∀ v : VPage, first ≤ v → v.val < first.val + count → t.entry i v = none) ∧
       (∀ j (v : VPage), (j ≠ i ∨ v < first ∨ first.val + count ≤ v.val) → t.entry j v = s.entry j v) ∧
       (∀ f ∈ named, t.frame f =
         if (s.frame f).refcount = 1 then { s.frame f with refcount := 0, state := .free, writer := none }
         else { s.frame f with refcount := (s.frame f).refcount - 1 }) ∧
       ∀ f ∉ named, t.frame f = s.frame f)

/-- R9, R15, R29, R66, R102, R104, R105: a frame that an UNMAP brings to refcount 0 is handed off to the oldest waiter,
for an allocation or a detach: reset, with the waiter as its writer, named by the waiter's entry, and never placed in
the queue. The frame that is detached from loses a reference. The waiter goes on in RUNNING, or, with a STOP or ABORT
taken, in STOPPING with its port as it was.
R15, steps 4 and 5, with R29, R66, R106, R109 to R111, R166: a waiter whose decision issues no frame leaves the list
with its claim settled, and the frame is then offered as if that waiter had not stood in the list: to the next one, or
to the queue. So it is for a write in place, a reuse, a failure, a claim set aside, an absent page under HOST, and a
stream that has stopped for a RESTART. That the page a waiter waits for does not name the frame given back is R3's law.
R32, note 2: the waiter may be the stream whose map is being unmapped. A page of the range that the hand-off has made
its current page stays present: the model's reading of R24 and R60 (log entry 30). That the page then stands in the
stream's cache rests on the law of R39 and R41, which CachesStayRanked states: its entries are for different pages, with
the ranks 0 to k - 1. -/
def Obligations.HandOffServesTheOldestWaiter : Prop :=
  (∀ (s : State) (m : Message) (rest : List Message) (i w : StreamId) (v u : VPage) (f : FrameId) (access : Access)
     (others : List StreamId),
     s.AtMapUnit (.unmap i v 1) m rest → (s.engine i).purgeInUse v 1 = false → i ≠ w →
     s.entry i v = some ⟨f, access⟩ → (s.frame f).refcount = 1 → s.mapUnit.waiters = w :: others →
     (s.engine w).restart = .none → (s.engine w).state = .waitFault →
     (s.engine w).faultRecord = some ⟨u, .poolEmpty⟩ →
     let fresh (g : FrameId) := (s.frame g).isSealed = false ∧ (s.frame g).fill = 0 ∧ (s.frame g).writer = none
     let before : Cache := if s.entry w u = none then (s.engine w).cache else cacheDrop (s.engine w).cache u 1
     (s.entry w u = none ∧ (s.engine w).faultPolicy = some .allocate ∨
       ∃ g, s.entry w u = some ⟨g, .readWrite⟩ ∧ g ≠ f ∧ (s.frame g).hostHold = false ∧ ¬ fresh g ∧
         2 ≤ (s.frame g).refcount) →
     ∃ t, exec (.unmap i v 1) s = .next t ∧ t.entry i v = none ∧ t.entry w u = some ⟨f, .readWrite⟩ ∧
       t.frame f =
         { s.frame f with
           state := .bound, refcount := 1, fill := 0, isSealed := false, generation := (s.frame f).generation + 1
           writer := some w } ∧
       (∀ g held, s.entry w u = some ⟨g, held⟩ →
         t.frame g = { s.frame g with refcount := (s.frame g).refcount - 1 }) ∧
       t.mapUnit.waiters = others ∧ t.mapUnit.freeQueue = s.mapUnit.freeQueue ∧
       t.mapUnit.lowArmed = s.mapUnit.lowArmed ∧
       ((s.engine w).endReason = none → (t.engine w).state = .running ∧
         ∀ q, (s.engine w).port = some q → (t.port q).gateOpen = true) ∧
       (∀ ending, (s.engine w).endReason = some ending →
         (t.engine w).state = .stopping ∧ (t.engine w).endReason = some ending ∧ t.ports = s.ports) ∧
       (t.engine w).currentPage = some ⟨u, f⟩ ∧ (t.engine w).position = ⟨u, 0⟩ ∧ (t.engine w).faultRecord = none ∧
       (t.engine w).cache = cacheInstall before u f .readWrite ∧
       t.link.replies = s.link.replies ++ [⟨m.kind + 0x80, m.tag, [0x00, 0x01, 0x00, 0x01, 0x00]⟩]) ∧
  (∀ (s : State) (m : Message) (rest : List Message) (i w : StreamId) (v u : VPage) (f : FrameId) (access : Access)
     (others : List StreamId) (q : PortId),
     s.AtMapUnit (.unmap i v 1) m rest → (s.engine i).purgeInUse v 1 = false → i ≠ w →
     s.entry i v = some ⟨f, access⟩ → (s.frame f).refcount = 1 → s.mapUnit.waiters = w :: others →
     (s.engine w).port = some q →
     let passed := s.setWaiters others
     let actsAs (t : State) : Prop := exec (.unmap i v 1) s = exec (.unmap i v 1) t
     (∀ taken, (s.engine w).restart = .answered taken → actsAs passed) ∧
     ((s.engine w).restart = .none → (s.engine w).state = .waitFault →
       (s.engine w).faultRecord = some ⟨u, .poolEmpty⟩ →
       (s.entry w u = none → (s.engine w).faultPolicy = some .host →
         actsAs
           (((passed.setPort q { s.port q with gateOpen := (s.engine w).endReason.isNone }).setEngine w
             { s.engine w with
               currentPage := none, position := ⟨u, 0⟩, faultRecord := some ⟨u, .absent⟩, lookFill := none
               due := .none
               counters := { (s.engine w).counters with
                 faultsTaken :=
                   BitVec.ofNat 32 (min ((s.engine w).counters.faultsTaken.toNat + 1) 0xFFFFFFFF) } }).post (some w)
             (.fault u .absent))) ∧
       (∀ g held, s.entry w u = some ⟨g, held⟩ → (s.frame g).hostHold = true →
         actsAs (passed.setDeferred (s.mapUnit.deferred ++ [⟨w, .write u⟩]))) ∧
       ∀ g, g ≠ f → (s.frame g).hostHold = false →
         (s.entry w u = some ⟨g, .readOnly⟩ →
           actsAs
             (((passed.setPort q { s.port q with gateOpen := false, fifo := [] }).setEngine w
               { s.engine w with
                 state := .failed, endReason := some .failed, currentPage := none, activeSlot := none
                 faultRecord := none, position := ⟨u, 0⟩
                 counters := { (s.engine w).counters with
                   wordsDropped :=
                     BitVec.ofNat 32
                       (min ((s.engine w).counters.wordsDropped.toNat + (s.port q).fifo.length) 0xFFFFFFFF) } }).post
               (some w) (.streamEnd .failed ⟨u, 0⟩ (some u)))) ∧
         (s.entry w u = some ⟨g, .readWrite⟩ →
           let fresh := (s.frame g).isSealed = false ∧ (s.frame g).fill = 0 ∧ (s.frame g).writer = none
           let entered (t : State) : State :=
             (t.setPort q { s.port q with
               gateOpen := (s.port q).gateOpen || (s.engine w).endReason.isNone }).setEngine w
               { s.engine w with
                 state := if (s.engine w).endReason = none then .running else .stopping
                 cache := cacheInstall (s.engine w).cache u g .readWrite, currentPage := some ⟨u, g⟩
                 position := ⟨u, 0⟩, faultRecord := none }
           (fresh → actsAs (entered (passed.setFrame g { s.frame g with writer := some w }))) ∧
           (¬ fresh → (s.frame g).refcount = 1 →
             actsAs
               (entered
                 (passed.setFrame g
                   { s.frame g with
                     fill := 0, isSealed := false, generation := (s.frame g).generation + 1
                     writer := some w })))))) ∧
  (∀ (s : State) (m : Message) (rest : List Message) (i : StreamId) (v u : VPage) (f : FrameId) (access : Access)
     (others : List StreamId),
     s.AtMapUnit (.unmap i v 2) m rest → u.val = v.val + 1 → s.entry i v = some ⟨f, access⟩ →
     (s.frame f).refcount = 1 → s.mapUnit.waiters = i :: others → (s.engine i).restart = .none →
     (s.engine i).state = .waitFault → (s.engine i).endReason = none →
     (s.engine i).faultRecord = some ⟨u, .poolEmpty⟩ → (s.engine i).faultPolicy = some .allocate →
     s.entry i u = none → (s.engine i).CacheOk →
     ∃ t, exec (.unmap i v 2) s = .next t ∧ t.entry i v = none ∧ t.entry i u = some ⟨f, .readWrite⟩ ∧
       t.frame f =
         { s.frame f with
           state := .bound, refcount := 1, fill := 0, isSealed := false, generation := (s.frame f).generation + 1
           writer := some i } ∧
       t.mapUnit.waiters = others ∧ t.mapUnit.freeQueue = s.mapUnit.freeQueue ∧ (t.engine i).state = .running ∧
       (t.engine i).currentPage = some ⟨u, f⟩ ∧ (cacheLookup (t.engine i).cache u).isSome = true ∧
       cacheLookup (t.engine i).cache v = none ∧
       t.link.replies = s.link.replies ++ [⟨m.kind + 0x80, m.tag, [0x00, 0x01, 0x00, 0x01, 0x00]⟩])

/-- R33, R34, R46: PROTECT is refused with ABSENT before the purge and with IN_USE after it; else every entry of the
range takes the access, the cache entries of the range are dropped, and no frame, no other entry and no other stream
changes. -/
def Obligations.ProtectSetsTheAccess : Prop :=
  ∀ (s : State) (m : Message) (rest : List Message) (i : StreamId) (access : Access) (first : VPage) (count : Nat),
    s.AtMapUnit (.protect i access first count) m rest → first.val + count ≤ 512 →
    (∀ v : VPage, first ≤ v → v.val < first.val + count → s.entry i v = none →
      exec (.protect i access first count) s = .next (s.claimTaken.answered m rest [0x07])) ∧
    ((∀ v : VPage, first ≤ v → v.val < first.val + count → s.entry i v ≠ none) →
      ((s.engine i).purgeInUse first count = true →
        exec (.protect i access first count) s = .next (s.claimTaken.answered m rest [0x09])) ∧
      ((s.engine i).purgeInUse first count = false →
        ∃ t, exec (.protect i access first count) s = .next t ∧
          t = ((s.claimTaken.setEngine i
                { s.engine i with cache := cacheDrop (s.engine i).cache first count }).setMapUnit
                { s.claimTaken.mapUnit with maps := t.mapUnit.maps }).answered m rest
                [0x00, byteOf count, byteOf (count / 256)] ∧
          (∀ v : VPage, first ≤ v → v.val < first.val + count →
            t.entry i v = (s.entry i v).map fun e => { e with access := access }) ∧
          ∀ j (v : VPage), (j ≠ i ∨ v < first ∨ first.val + count ≤ v.val) → t.entry j v = s.entry j v))

/-- R35, R36: SHARE of one page is refused with BAD_COMBINATION, ABSENT or EXISTS in the order of the checks; else the
destination names the source's frame with the access asked for, and the frame gains a reference. SHARE of a range does
so for each of its pages, and the reply counts them. That the source entries name different frames is R3's law. A
destination that waits with reason ABSENT at none of the pages made present goes on waiting.
R28, R36: when the destination waits with reason ABSENT at the page made present, its entry is decided again within the
claim. A replay stream enters the page, counting no miss. A capture stream whose frame is empty and has no writer writes
in place; one whose page already holds data or is written detaches onto a frame from the pool, and the shared frame is
left as it was, or waits with reason POOL_EMPTY; one whose page is READ_ONLY fails; a frame under host hold sets the
decision aside (R111). That a replay stream whose page is sealed at fill 0 ends this claim in RUNNING with that page
current, and leaves it in a step of its own, is the model's choice against the 'at once' of R115 and R117 (log entry 8).
-/
def Obligations.ShareNamesTheFrame : Prop :=
  (∀ (s : State) (m : Message) (rest : List Message) (i j : StreamId) (access : Access) (v w : VPage),
     s.AtMapUnit (.share i j access v w 1) m rest →
     (i = j → exec (.share i j access v w 1) s = .next (s.claimTaken.answered m rest [0x06])) ∧
     (i ≠ j → s.entry i v = none →
       exec (.share i j access v w 1) s = .next (s.claimTaken.answered m rest [0x07])) ∧
     ∀ f held, i ≠ j → s.entry i v = some ⟨f, held⟩ →
       (∀ e, s.entry j w = some e →
         exec (.share i j access v w 1) s = .next (s.claimTaken.answered m rest [0x08])) ∧
       (∀ u other, s.entry j u = some ⟨f, other⟩ →
         exec (.share i j access v w 1) s = .next (s.claimTaken.answered m rest [0x08])) ∧
       ((∀ u other, s.entry j u ≠ some ⟨f, other⟩) → s.entry j w = none →
         ((s.engine j).state = .waitFault → (s.engine j).faultRecord ≠ some ⟨w, .absent⟩) →
         exec (.share i j access v w 1) s = .next
           (((s.claimTaken.setEntry j w (some ⟨f, access⟩)).setFrame f
             { s.frame f with refcount := (s.frame f).refcount + 1 }).answered m rest [0x00, 0x01, 0x00]))) ∧
  (∀ (s : State) (m : Message) (rest : List Message) (i j : StreamId) (access : Access) (v w : VPage) (count : Nat),
     s.AtMapUnit (.share i j access v w count) m rest → i ≠ j → v.val + count ≤ 512 → w.val + count ≤ 512 →
     ((s.engine j).state = .waitFault → ∀ u ∈ pagesFrom w count, (s.engine j).faultRecord ≠ some ⟨u, .absent⟩) →
     (∀ u ∈ pagesFrom v count, s.entry i u ≠ none) → (∀ u ∈ pagesFrom w count, s.entry j u = none) →
     let named := (pagesFrom v count).filterMap fun u => (s.entry i u).map fun e => e.frame
     named.Nodup → (∀ f ∈ named, ∀ u other, s.entry j u ≠ some ⟨f, other⟩) →
     ∃ t, exec (.share i j access v w count) s = .next t ∧
       t = (s.claimTaken.setMapUnit
             { s.claimTaken.mapUnit with maps := t.mapUnit.maps, frames := t.mapUnit.frames }).answered m rest
             [0x00, byteOf count, byteOf (count / 256)] ∧
       (∀ k < count, ∀ x y : VPage, x.val = v.val + k → y.val = w.val + k →
         t.entry j y = (s.entry i x).map fun e => ⟨e.frame, access⟩) ∧
       (∀ l (u : VPage), (l ≠ j ∨ u < w ∨ w.val + count ≤ u.val) → t.entry l u = s.entry l u) ∧
       (∀ f ∈ named, t.frame f = { s.frame f with refcount := (s.frame f).refcount + 1 }) ∧
       ∀ f ∉ named, t.frame f = s.frame f) ∧
  (∀ (s : State) (m : Message) (rest : List Message) (i j : StreamId) (access : Access) (v w : VPage) (f : FrameId)
     (held : Access),
     s.AtMapUnit (.share i j access v w 1) m rest → i ≠ j → s.entry i v = some ⟨f, held⟩ → s.entry j w = none →
     (∀ u other, s.entry j u ≠ some ⟨f, other⟩) → (s.engine j).state = .waitFault →
     (s.engine j).faultRecord = some ⟨w, .absent⟩ → (s.engine j).endReason = none →
     ∃ t, exec (.share i j access v w 1) s = .next t ∧
       t.link.replies = s.link.replies ++ [⟨m.kind + 0x80, m.tag, [0x00, 0x01, 0x00]⟩] ∧
       let gained : FrameRecord := { s.frame f with refcount := (s.frame f).refcount + 1 }
       ((s.engine j).direction = some .replay →
         t.entry j w = some ⟨f, access⟩ ∧ t.frame f = gained ∧
           (t.engine j).currentPage = some ⟨w, f⟩ ∧ (t.engine j).position = ⟨w, 0⟩ ∧
           (t.engine j).faultRecord = none ∧
           (t.engine j).counters.cacheMisses = (s.engine j).counters.cacheMisses ∧
           (t.engine j).state =
             (if 0 < (s.frame f).fill ∨ (s.frame f).isSealed = true then .running else .waitData)) ∧
       ((s.engine j).direction = some .capture →
         ((s.frame f).hostHold = true →
           t.entry j w = some ⟨f, access⟩ ∧ t.frame f = gained ∧ t.engine j = s.engine j ∧
             t.mapUnit.deferred = s.mapUnit.deferred ++ [⟨j, .write w⟩]) ∧
         ((s.frame f).hostHold = false → access = .readOnly →
           t.entry j w = some ⟨f, .readOnly⟩ ∧ t.frame f = gained ∧ (t.engine j).state = .failed ∧
             (t.engine j).endReason = some .failed ∧ (t.engine j).currentPage = none ∧
             (t.engine j).activeSlot = none ∧ (t.engine j).faultRecord = none ∧ (t.engine j).position = ⟨w, 0⟩ ∧
             t.link.notices = (s.link.post (some j) (.streamEnd .failed ⟨w, 0⟩ (some w))).notices ∧
             ∀ p, (s.engine j).port = some p →
               (t.port p).gateOpen = false ∧ (t.port p).fifo = [] ∧
                 (t.engine j).counters.wordsDropped =
                   BitVec.ofNat 32
                     (min ((s.engine j).counters.wordsDropped.toNat + (s.port p).fifo.length) 0xFFFFFFFF)) ∧
         ((s.frame f).hostHold = false → access = .readWrite →
           let fresh := (s.frame f).isSealed = false ∧ (s.frame f).fill = 0 ∧ (s.frame f).writer = none
           let opened := ∀ p, (s.engine j).port = some p → t.port p = { s.port p with gateOpen := true }
           let entered (g : FrameId) (before : Cache) : Engine :=
             { s.engine j with
               state := .running, cache := cacheInstall before w g .readWrite, currentPage := some ⟨w, g⟩
               position := ⟨w, 0⟩, faultRecord := none }
           (fresh →
             t.entry j w = some ⟨f, .readWrite⟩ ∧ t.frame f = { gained with writer := some j } ∧
               t.mapUnit.freeQueue = s.mapUnit.freeQueue ∧ t.engine j = entered f (s.engine j).cache ∧ opened) ∧
           (¬ fresh → 1 ≤ (s.frame f).refcount →
             (∀ g queue, s.mapUnit.freeQueue = g :: queue → g ≠ f →
               t.entry j w = some ⟨g, .readWrite⟩ ∧ t.frame f = s.frame f ∧
                 t.frame g =
                   { s.frame g with
                     state := .bound, refcount := 1, fill := 0, isSealed := false
                     generation := (s.frame g).generation + 1, writer := some j } ∧
                 t.mapUnit.freeQueue = queue ∧ t.engine j = entered g (cacheDrop (s.engine j).cache w 1) ∧ opened) ∧
             (s.mapUnit.freeQueue = [] →
               t.entry j w = some ⟨f, .readWrite⟩ ∧ t.frame f = gained ∧ (t.engine j).state = .waitFault ∧
                 (t.engine j).faultRecord = some ⟨w, .poolEmpty⟩ ∧ (t.engine j).currentPage = none ∧
                 t.mapUnit.waiters = s.mapUnit.waiters ++ [j] ∧
                 t.link.notices = (s.link.post (some j) (.fault w .poolEmpty)).notices ∧
                 opened ∧
                 (t.engine j).counters.faultsTaken =
                   BitVec.ofNat 32 (min ((s.engine j).counters.faultsTaken.toNat + 1) 0xFFFFFFFF))))))

/-! ### Stream contexts -/

/-- R54, R56, R57: OPEN is refused with BAD_STATE, BAD_COMBINATION or IN_USE in this order; else it binds the port
with an empty FIFO and a closed gate, and sets the whole context. -/
def Obligations.OpenBindsThePort : Prop :=
  ∀ (s : State) (m : Message) (rest : List Message) (i : StreamId) (direction : Direction) (p : PortId)
    (fault : FaultPolicy) (policy : ReleasePolicy),
    s.AtEngine i (.openStream i direction p fault policy) m rest →
    let unfit :=
      (fault = .allocate ∧ direction = .replay) ∨ (fault = .skip ∧ direction = .capture) ∨
        (policy = .release ∧ direction = .capture)
    ((s.engine i).state ≠ .idle →
      exec (.openStream i direction p fault policy) s = .next (s.answered m rest [0x05])) ∧
    ((s.engine i).state = .idle → unfit →
      exec (.openStream i direction p fault policy) s = .next (s.answered m rest [0x06])) ∧
    ((s.engine i).state = .idle → ¬ unfit → (s.port p).bound.isSome = true →
      exec (.openStream i direction p fault policy) s = .next (s.answered m rest [0x09])) ∧
    ((s.engine i).state = .idle → ¬ unfit → (s.port p).bound = none →
      exec (.openStream i direction p fault policy) s = .next
        (((s.setPort p
            { bound := some i, direction := some direction, gateOpen := false, fifo := [], edgePending := false
              lastWord := 0 }).setEngine i
            { Engine.reset with
              state := .ready, direction := some direction, port := some p, faultPolicy := some fault
              releasePolicy := some policy }).answered m rest [0x00]))

/-- R58: CLOSE is refused with BAD_STATE outside READY, DONE and FAILED; else it unbinds the port and returns the
context to IDLE with the counters kept; without release it is answered with both counts 0, and with release the map unit
is sent the release of the map. The last word given of the unbound port is the model's 0000h (log entry 15).
R32, R38: the release of a whole map makes every entry of the closed stream's map absent, keeps every other map, and
answers the CLOSE. With no waiter, each frame that a page named loses a reference, and those brought to 0 are FREE and
join the queue in the order of their pages, with the re-arm check of R16; the reply counts the entries made absent and
the frames returned. That the entries name different frames is R3's law, and that they have a reference each.
R38: the release passes over the map exactly as an UNMAP of vpage 0 ~ 511 does. R15, R105: a waiter that is to allocate
is handed the first frame brought to 0, as its writer, and goes on in RUNNING; the frames after it join the queue. -/
def Obligations.CloseReturnsToIdleAndReleases : Prop :=
  (∀ (s : State) (m : Message) (rest : List Message) (i : StreamId) (release : Bool) (p : PortId),
     s.AtEngine i (.closeStream i release) m rest →
     ((s.engine i).state ∉ [.ready, .done, .failed] →
       exec (.closeStream i release) s = .next (s.answered m rest [0x05])) ∧
     ((s.engine i).state ∈ [.ready, .done, .failed] → (s.engine i).port = some p →
       let closed :=
         (s.setPort p
           { bound := none, direction := none, gateOpen := false, fifo := [], edgePending := false
             lastWord := 0 }).setEngine i { Engine.reset with counters := (s.engine i).counters }
       (release = false →
         exec (.closeStream i release) s = .next (closed.answered m rest [0x00, 0x00, 0x00, 0x00, 0x00])) ∧
       (release = true →
         exec (.closeStream i release) s = .next
           { closed with
             command := { s.command with current := some ⟨.closeStream i release, .releasingMap⟩ }
             mapUnit := { s.mapUnit with claims := s.mapUnit.claims ++ [.host] } }))) ∧
  (∀ (s : State) (m : Message) (rest : List Message) (i : StreamId),
     s.command.current = some ⟨.closeStream i true, .releasingMap⟩ → s.command.queue = m :: rest →
     s.heldInReset = none → s.mapUnit.initInProgress = false → s.mapUnit.claims.head? = some .host →
     s.mapUnit.waiters = [] → (s.engine i).state = .idle →
     let named := (pagesFrom 0 512).filterMap fun v => (s.entry i v).map fun e => e.frame
     let freed := named.filter fun f => (s.frame f).refcount == 1
     let queue := s.mapUnit.freeQueue ++ freed
     ∃ t r, exec (.closeStream i true) s = .next t ∧ (∀ v, t.entry i v = none) ∧
       (∀ j v, j ≠ i → t.entry j v = s.entry j v) ∧ t.link.replies = s.link.replies ++ [r] ∧
       r.payload.length = 5 ∧ r.payload.head? = some 0x00 ∧ t.command.queue = rest ∧ t.command.current = none ∧
       (named.Nodup → (∀ f ∈ named, 1 ≤ (s.frame f).refcount) →
         t = ((s.claimTaken.setEngine i { s.engine i with cache := emptyCache }).setMapUnit
               { s.claimTaken.mapUnit with
                 maps := t.mapUnit.maps, frames := t.mapUnit.frames, freeQueue := queue
                 lowArmed := s.mapUnit.lowArmed || (!freed.isEmpty && s.mapUnit.lowMark ≤ queue.length)
               }).answered m rest
               [0x00, byteOf named.length, byteOf (named.length / 256), byteOf freed.length,
                 byteOf (freed.length / 256)] ∧
         (∀ f ∈ named, t.frame f =
           if (s.frame f).refcount = 1 then { s.frame f with refcount := 0, state := .free, writer := none }
           else { s.frame f with refcount := (s.frame f).refcount - 1 }) ∧
         ∀ f ∉ named, t.frame f = s.frame f)) ∧
  (∀ (s : State) (i : StreamId), s.command.current = some ⟨.closeStream i true, .releasingMap⟩ →
     s.command.queue ≠ [] → s.heldInReset = none → s.mapUnit.initInProgress = false →
     s.mapUnit.claims.head? = some .host → (s.engine i).state = .idle →
     exec (.closeStream i true) s =
       exec (.unmap i 0 512)
         { s with command := { s.command with current := some ⟨.unmap i 0 512, .handed⟩ } }) ∧
  (∀ (s : State) (m : Message) (rest : List Message) (i w : StreamId) (u : VPage) (f : FrameId) (more : List FrameId)
     (others : List StreamId),
     s.command.current = some ⟨.closeStream i true, .releasingMap⟩ → s.command.queue = m :: rest →
     s.heldInReset = none → s.mapUnit.initInProgress = false → s.mapUnit.claims.head? = some .host →
     (s.engine i).state = .idle → s.mapUnit.waiters = w :: others → (s.engine w).restart = .none →
     (s.engine w).state = .waitFault → (s.engine w).endReason = none →
     (s.engine w).faultRecord = some ⟨u, .poolEmpty⟩ → (s.engine w).faultPolicy = some .allocate →
     s.entry w u = none →
     let named := (pagesFrom 0 512).filterMap fun v => (s.entry i v).map fun e => e.frame
     named.Nodup → (∀ g ∈ named, 1 ≤ (s.frame g).refcount) →
     named.filter (fun g => (s.frame g).refcount == 1) = f :: more → more = [] ∨ others = [] →
     let queue := s.mapUnit.freeQueue ++ more
     ∃ t, exec (.closeStream i true) s = .next t ∧ (∀ v, t.entry i v = none) ∧
       t.entry w u = some ⟨f, .readWrite⟩ ∧
       (∀ j v, j ≠ i → (j ≠ w ∨ v ≠ u) → t.entry j v = s.entry j v) ∧
       t.frame f =
         { s.frame f with
           state := .bound, refcount := 1, fill := 0, isSealed := false, generation := (s.frame f).generation + 1
           writer := some w } ∧
       (∀ g ∈ named, g ≠ f → t.frame g =
         if (s.frame g).refcount = 1 then { s.frame g with refcount := 0, state := .free, writer := none }
         else { s.frame g with refcount := (s.frame g).refcount - 1 }) ∧
       (∀ g ∉ named, t.frame g = s.frame g) ∧ t.mapUnit.waiters = others ∧ t.mapUnit.freeQueue = queue ∧
       t.mapUnit.lowArmed = (s.mapUnit.lowArmed || (!more.isEmpty && s.mapUnit.lowMark ≤ queue.length)) ∧
       t.engine w =
         { s.engine w with
           state := .running, currentPage := some ⟨u, f⟩, position := ⟨u, 0⟩, faultRecord := none
           cache := cacheInstall (s.engine w).cache u f .readWrite } ∧
       (∀ q, (s.engine w).port = some q → (t.port q).gateOpen = true) ∧ t.command.queue = rest ∧
       t.link.replies = s.link.replies ++
         [⟨m.kind + 0x80, m.tag,
           [0x00, byteOf named.length, byteOf (named.length / 256), byteOf (more.length + 1),
             byteOf ((more.length + 1) / 256)]⟩])

/-- R76: ARM is refused with BAD_STATE, SLOT_BUSY or BAD_COMBINATION in this order; else it puts the descriptor in the
slot, or empties it for page count 0, and answers with what the slot held. -/
def Obligations.ArmFillsTheSlot : Prop :=
  ∀ (s : State) (m : Message) (rest : List Message) (i : StreamId) (slot : SlotName) (d : Descriptor),
    s.AtEngine i (.arm i slot d) m rest →
    let unfit :=
      ((s.engine i).direction = some .replay ∧ d.mode = .loop ∧ (s.engine i).releasePolicy = some .release) ∨
        ((s.engine i).direction = some .replay ∧ 0 < d.postTrigger) ∨ (0 < d.postTrigger ∧ d.mode = .once) ∨
        d.count ≤ d.postTrigger
    let held := if ((s.engine i).slot slot).isSome then (0x01 : Byte) else 0x00
    ((s.engine i).state = .idle ∨ (s.engine i).state = .failed →
      exec (.arm i slot d) s = .next (s.answered m rest [0x05])) ∧
    ((s.engine i).state ≠ .idle → (s.engine i).state ≠ .failed →
      ((s.engine i).activeSlot = some slot → exec (.arm i slot d) s = .next (s.answered m rest [0x11])) ∧
      ((s.engine i).activeSlot ≠ some slot →
        (d.count = 0 →
          exec (.arm i slot d) s = .next
            ((s.setEngine i ((s.engine i).setSlot slot none)).answered m rest [0x00, held])) ∧
        (1 ≤ d.count → unfit → exec (.arm i slot d) s = .next (s.answered m rest [0x06])) ∧
        (1 ≤ d.count → ¬ unfit →
          exec (.arm i slot d) s = .next
            ((s.setEngine i ((s.engine i).setSlot slot (some d))).answered m rest [0x00, held]))))

/-- R59, R60, R77: START is refused with BAD_STATE outside READY and DONE and for an EMPTY slot; else the activation
begins, the gate opens, and the first page is entered: by a write claim (capture), or by a lookup (replay).
R44, R115, R119: a lookup that misses counts a miss and sends a read claim. One that hits counts a hit, makes the page
current with the frame of the cache entry, which becomes rank 0, and evaluates it: with data the stream goes on, and at
fill 0 of an unsealed frame it waits. That it leaves a page sealed at fill 0 in a step of its own is the model's choice (log
entry 8). -/
def Obligations.StartEntersTheFirstPage : Prop :=
  ∀ (s : State) (m : Message) (rest : List Message) (i : StreamId) (slot : SlotName),
    s.AtEngine i (.start i slot) m rest →
    ((s.engine i).state ∉ [.ready, .done] ∨ (s.engine i).slot slot = none →
      exec (.start i slot) s = .next (s.answered m rest [0x05])) ∧
    ∀ d p, (s.engine i).state ∈ [.ready, .done] → (s.engine i).slot slot = some d → (s.engine i).port = some p →
      let begun : Engine :=
        { s.engine i with
          state := .running, activeSlot := some slot, position := ⟨d.first, 0⟩, pagesToGo := none
          triggerRecord := none, faultRecord := none, endReason := none, activationPages := 0, lookFill := none
          due := .none }
      let opened := s.setPort p { s.port p with gateOpen := true }
      ((s.engine i).direction = some .capture →
        exec (.start i slot) s = .next
          (((opened.setEngine i begun).sendClaim (.engine i (.write d.first))).answered m rest [0x00])) ∧
      ((s.engine i).direction = some .replay → cacheLookup (s.engine i).cache d.first = none →
        exec (.start i slot) s = .next
          (((opened.setEngine i
            { begun with
              counters := { begun.counters with cacheMisses := begun.counters.cacheMisses + 1 } }).sendClaim
            (.engine i (.read d.first))).answered m rest [0x00])) ∧
      ∀ entry, (s.engine i).direction = some .replay → cacheLookup (s.engine i).cache d.first = some entry →
        let entered : Engine :=
          { begun with
            cache := cacheTouch (s.engine i).cache entry.rank, currentPage := some ⟨d.first, entry.frame⟩
            counters := { begun.counters with cacheHits := begun.counters.cacheHits + 1 } }
        (0 < (s.frame entry.frame).fill →
          exec (.start i slot) s = .next
            ((opened.setEngine i
              { entered with lookFill := some (s.frame entry.frame).fill }).answered m rest [0x00])) ∧
        ((s.frame entry.frame).fill = 0 → (s.frame entry.frame).isSealed = true →
          exec (.start i slot) s = .next
            ((opened.setEngine i { entered with due := .leave }).answered m rest [0x00])) ∧
        ((s.frame entry.frame).fill = 0 → (s.frame entry.frame).isSealed = false →
          exec (.start i slot) s = .next
            ((opened.setEngine i { entered with state := .waitData }).answered m rest [0x00]))

/-- R61, R130: PAUSE is taken in RUNNING and WAIT_DATA: the gate closes and a waiting request is withdrawn, and the
FIFO, the page and the position stay; in any other state it is refused with BAD_STATE.
R62, R115: RESUME is taken in PAUSED: the gate opens and the stream is RUNNING; a replay stream meets the fill of
its current frame as it then stands: below it, it goes on, and at the fill of an unsealed frame it waits.
R75, R117: at the fill of a sealed frame it leaves the page, which is counted: under RELEASE by a release claim, and under
KEEP at once, with no current page until it has looked up the next page of the segment, the first one after the last of a
LOOP (that the lookup is a step of its own is the model's choice, log entry 8).
R44, R119, R120: a replay stream that was paused without a current page enters the page of its position by a lookup. A miss
counts a miss and sends a read claim; a hit counts a hit, makes the page current and evaluates it (that it leaves a page
sealed at fill 0 in a step of its own is the model's choice, log entry 8). -/
def Obligations.PauseHoldsAndResumeGoesOn : Prop :=
  (∀ (s : State) (m : Message) (rest : List Message) (i : StreamId) (p : PortId), s.AtEngine i (.pause i) m rest →
     ((s.engine i).state ∉ [.running, .waitData] → exec (.pause i) s = .next (s.answered m rest [0x05])) ∧
     ((s.engine i).state ∈ [.running, .waitData] → (s.engine i).port = some p →
       exec (.pause i) s = .next
         ((((s.setPort p { s.port p with gateOpen := false }).withdrawRequest i).setEngine i
           { s.engine i with state := .paused, lookFill := none, due := .none }).answered m rest [0x00]))) ∧
  (∀ (s : State) (m : Message) (rest : List Message) (i : StreamId) (p : PortId), s.AtEngine i (.resume i) m rest →
     ((s.engine i).state ≠ .paused → exec (.resume i) s = .next (s.answered m rest [0x05])) ∧
     ((s.engine i).state = .paused → (s.engine i).port = some p →
       let opened := s.setPort p { s.port p with gateOpen := true }
       ((s.engine i).direction = some .capture →
         exec (.resume i) s = .next
           ((opened.setEngine i { s.engine i with state := .running }).answered m rest [0x00])) ∧
       ∀ c, (s.engine i).direction = some .replay → (s.engine i).currentPage = some c →
         ((s.engine i).position.offset < (s.frame c.frame).fill →
           exec (.resume i) s = .next
             ((opened.setEngine i
               { s.engine i with
                 state := .running, lookFill := some (s.frame c.frame).fill, due := .none }).answered m rest [0x00])) ∧
         ((s.frame c.frame).fill ≤ (s.engine i).position.offset → (s.frame c.frame).isSealed = false →
           exec (.resume i) s = .next
             ((opened.setEngine i
               { s.engine i with state := .waitData, lookFill := none, due := .none }).answered m rest [0x00])) ∧
         ((s.frame c.frame).fill ≤ (s.engine i).position.offset → (s.frame c.frame).isSealed = true →
           (s.engine i).pagesToGo = none →
           let left : Engine :=
             { s.engine i with
               state := .running, lookFill := none, due := .none
               counters := { (s.engine i).counters with
                 pagesCompleted := (s.engine i).counters.pagesCompleted + 1 }
               activationPages := BitVec.ofNat 32 (min ((s.engine i).activationPages.toNat + 1) 0xFFFFFFFF) }
           ((s.engine i).releasePolicy = some .release →
             exec (.resume i) s = .next
               (((opened.setEngine i left).sendClaim (.engine i (.release c.vpage))).answered m rest [0x00])) ∧
           ∀ d, (s.engine i).releasePolicy = some .keep → (s.engine i).activeDescriptor = some d →
             let last := c.vpage.val + 1 = d.first.val + d.count
             d.mode = .loop ∨ ¬ last →
             exec (.resume i) s = .next
               ((opened.setEngine i
                 { left with
                   currentPage := none, position := ⟨if last then d.first else c.vpage + 1, 0⟩
                   due := .entering }).answered m rest [0x00])))) ∧
  (∀ (s : State) (m : Message) (rest : List Message) (i : StreamId) (p : PortId), s.AtEngine i (.resume i) m rest →
     (s.engine i).state = .paused → (s.engine i).port = some p → (s.engine i).direction = some .replay →
     (s.engine i).currentPage = none →
     let opened := s.setPort p { s.port p with gateOpen := true }
     let v := (s.engine i).position.vpage
     (cacheLookup (s.engine i).cache v = none →
       exec (.resume i) s = .next
         (((opened.setEngine i
           { s.engine i with
             state := .running, lookFill := none, due := .none
             counters := { (s.engine i).counters with
               cacheMisses := (s.engine i).counters.cacheMisses + 1 } }).sendClaim
           (.engine i (.read v))).answered m rest [0x00])) ∧
     ∀ entry, cacheLookup (s.engine i).cache v = some entry → (s.engine i).position.offset = 0 →
       let entered : Engine :=
         { s.engine i with
           state := .running, lookFill := none, due := .none
           cache := cacheTouch (s.engine i).cache entry.rank, currentPage := some ⟨v, entry.frame⟩
           counters := { (s.engine i).counters with cacheHits := (s.engine i).counters.cacheHits + 1 } }
       (0 < (s.frame entry.frame).fill →
         exec (.resume i) s = .next
           ((opened.setEngine i
             { entered with lookFill := some (s.frame entry.frame).fill }).answered m rest [0x00])) ∧
       ((s.frame entry.frame).fill = 0 → (s.frame entry.frame).isSealed = true →
         exec (.resume i) s = .next ((opened.setEngine i { entered with due := .leave }).answered m rest [0x00])) ∧
       ((s.frame entry.frame).fill = 0 → (s.frame entry.frame).isSealed = false →
         exec (.resume i) s = .next
           ((opened.setEngine i { entered with state := .waitData }).answered m rest [0x00])))

/-- R63, R64, R65, R66: STOP of a capture stream. With words left it drains; drained, it sends the ending seal claim;
in WAIT_FAULT with reason ABSENT it is DONE at once, its words counted as dropped, and with reason POOL_EMPTY it waits
for its ending seal claim before the reply. A STOP leaves the arbiter's requests as they are: a waiting request stays,
the model's reading of R93 and R130 (log entry 10).
R66, R68: ABORT of a capture stream in RUNNING, PAUSED or a STOP drain closes the gate, discards and counts the words,
withdraws a request, and with no burst in flight sends the ending seal claim; in WAIT_FAULT it acts as STOP does. -/
def Obligations.StopAndAbortOfACaptureStream : Prop :=
  (∀ (s : State) (m : Message) (rest : List Message) (i : StreamId) (p : PortId), s.AtEngine i (.stop i) m rest →
     (s.engine i).direction = some .capture → (s.engine i).port = some p →
     let shut := s.setPort p { s.port p with gateOpen := false }
     let stopping : Engine := { s.engine i with endReason := some .stopped, state := .stopping }
     let emptied := s.setPort p { s.port p with gateOpen := false, fifo := [] }
     let dropped : Engine :=
       { s.engine i with
         endReason := some .stopped
         counters := { (s.engine i).counters with
           wordsDropped := saturatingAdd (s.engine i).counters.wordsDropped (s.port p).fifo.length } }
     ((s.engine i).state ∉ [.running, .paused, .waitFault] →
       exec (.stop i) s = .next (s.answered m rest [0x05])) ∧
     ((s.engine i).state ∈ [.running, .paused] →
       ((s.port p).fifo ≠ [] ∨ s.burstInFlight (requesterOf i) = true →
         exec (.stop i) s = .next ((shut.setEngine i stopping).answered m rest [0x00])) ∧
       ((s.port p).fifo = [] → s.burstInFlight (requesterOf i) = false →
         exec (.stop i) s = .next
           (((shut.setEngine i stopping).sendClaim (.engine i (.endingSeal none))).answered m rest [0x00]))) ∧
     ∀ v, (s.engine i).state = .waitFault →
       ((s.engine i).faultRecord = some ⟨v, .absent⟩ →
         exec (.stop i) s = .next
           (((emptied.setEngine i
             { dropped with
               state := .done, currentPage := none, activeSlot := none, faultRecord := none, lookFill := none
               due := .none }).post (some i) (.streamEnd .stopped (s.engine i).position none)).answered m rest
             [0x00])) ∧
       ((s.engine i).faultRecord = some ⟨v, .poolEmpty⟩ →
         exec (.stop i) s = .next
           { (emptied.setEngine i dropped).sendClaim (.engine i (.endingSeal none)) with
             command := { s.command with current := some ⟨.stop i, .awaitingEndingSeal⟩ } })) ∧
  (∀ (s : State) (m : Message) (rest : List Message) (i : StreamId) (p : PortId), s.AtEngine i (.abort i) m rest →
     (s.engine i).direction = some .capture → (s.engine i).port = some p →
     let cut :=
       ((s.setPort p { s.port p with gateOpen := false, fifo := [] }).withdrawRequest i).setEngine i
         { s.engine i with
           endReason := some .aborted, state := .stopping
           counters := { (s.engine i).counters with
             wordsDropped := saturatingAdd (s.engine i).counters.wordsDropped (s.port p).fifo.length } }
     ((s.engine i).state ∈ [.idle, .ready, .done, .failed] ∨
         (s.engine i).state = .stopping ∧ (s.engine i).endReason = some .aborted →
       exec (.abort i) s = .next (s.answered m rest [0x05])) ∧
     ((s.engine i).state ∈ [.running, .paused] ∨
         (s.engine i).state = .stopping ∧ (s.engine i).endReason = some .stopped →
       (s.burstInFlight (requesterOf i) = true → exec (.abort i) s = .next (cut.answered m rest [0x00])) ∧
       (s.burstInFlight (requesterOf i) = false →
         exec (.abort i) s = .next
           ((cut.sendClaim (.engine i (.endingSeal none))).answered m rest [0x00])))) ∧
  (∀ (s : State) (m : Message) (rest : List Message) (i : StreamId) (p : PortId) (v : VPage),
     s.AtEngine i (.abort i) m rest → (s.engine i).direction = some .capture → (s.engine i).port = some p →
     (s.engine i).state = .waitFault →
     let emptied := s.setPort p { s.port p with gateOpen := false, fifo := [] }
     let dropped : Engine :=
       { s.engine i with
         endReason := some .aborted
         counters := { (s.engine i).counters with
           wordsDropped := saturatingAdd (s.engine i).counters.wordsDropped (s.port p).fifo.length } }
     ((s.engine i).faultRecord = some ⟨v, .absent⟩ →
       exec (.abort i) s = .next
         (((emptied.setEngine i
           { dropped with
             state := .done, currentPage := none, activeSlot := none, faultRecord := none, lookFill := none
             due := .none }).post (some i) (.streamEnd .aborted (s.engine i).position none)).answered m rest
           [0x00])) ∧
     ((s.engine i).faultRecord = some ⟨v, .poolEmpty⟩ →
       exec (.abort i) s = .next
         { (emptied.setEngine i dropped).sendClaim (.engine i (.endingSeal none)) with
           command := { s.command with current := some ⟨.abort i, .awaitingEndingSeal⟩ } }))

/-- R67, R69, R71: STOP and ABORT of a replay stream. The gate closes, the FIFO is discarded uncounted, a waiting
request is withdrawn; with no burst in flight the stream is DONE at once and posts STREAM_END, else it is STOPPING.
ABORT of a stream that empties its FIFO after its last segment also empties the completed slot. -/
def Obligations.StopAndAbortOfAReplayStream : Prop :=
  ∀ (s : State) (m : Message) (rest : List Message) (i : StreamId) (p : PortId),
    (s.engine i).direction = some .replay → (s.engine i).port = some p →
    let shut := (s.setPort p { s.port p with gateOpen := false, fifo := [] }).withdrawRequest i
    let ended (reason : EndReason) (state : StreamState) : Engine :=
      { s.engine i with
        endReason := some reason, faultRecord := none, lookFill := none, due := .none, state := state }
    (s.AtEngine i (.stop i) m rest →
      ((s.engine i).state ∉ [.running, .paused, .waitData, .waitFault] →
        exec (.stop i) s = .next (s.answered m rest [0x05])) ∧
      ((s.engine i).state ∈ [.running, .paused, .waitData, .waitFault] →
        (s.burstInFlight (requesterOf i) = true →
          exec (.stop i) s = .next ((shut.setEngine i (ended .stopped .stopping)).answered m rest [0x00])) ∧
        (s.burstInFlight (requesterOf i) = false →
          exec (.stop i) s = .next
            (((shut.setEngine i
              { ended .stopped .done with currentPage := none, activeSlot := none }).post (some i)
              (.streamEnd .stopped (s.engine i).position none)).answered m rest [0x00])))) ∧
    (s.AtEngine i (.abort i) m rest →
      ((s.engine i).state ∉ [.running, .paused, .waitData, .waitFault, .stopping] ∨
          (s.engine i).state = .stopping ∧ (s.engine i).endReason = some .aborted →
        exec (.abort i) s = .next (s.answered m rest [0x05])) ∧
      ((s.engine i).state ∈ [.running, .paused, .waitData, .waitFault] ∨
          (s.engine i).state = .stopping ∧ (s.engine i).endReason = some .stopped →
        s.burstInFlight (requesterOf i) = true →
        exec (.abort i) s = .next ((shut.setEngine i (ended .aborted .stopping)).answered m rest [0x00])) ∧
      ((s.engine i).state ∈ [.running, .paused, .waitData, .waitFault] ∨
          (s.engine i).state = .stopping ∧ (s.engine i).endReason = some .stopped →
        s.burstInFlight (requesterOf i) = false →
        exec (.abort i) s = .next
          (((shut.setEngine i
            { ended .aborted .done with currentPage := none, activeSlot := none }).post (some i)
            (.streamEnd .aborted (s.engine i).position none)).answered m rest [0x00])) ∧
      ((s.engine i).state = .stopping → (s.engine i).endReason ∈ [some .completed, some .starved] →
        s.burstInFlight (requesterOf i) = false →
        exec (.abort i) s = .next
          (((shut.setEngine i
            { (ended .aborted .done).emptyActiveSlot with currentPage := none, activeSlot := none }).post (some i)
            (.streamEnd .aborted (s.engine i).position none)).answered m rest [0x00])))

/-- R85, R86, R87: a trigger is taken by a capture stream in RUNNING, PAUSED or WAIT_FAULT whose active slot holds a
LOOP segment with post-trigger pages, without an end reason or an earlier trigger. Its position counts the words in
the FIFO and the bytes in flight, and runs into the next page of the loop. TRIGGER is then answered with it; a pending
edge is cleared.
R84, R85: a TRIGGER that is not taken is answered BAD_STATE or NO_TRIGGER by the stream's state, and a pending
edge that is not taken is cleared; nothing else changes. -/
def Obligations.TriggerMarksThePositionOrChangesNothing : Prop :=
  (∀ (s : State) (m : Message) (rest : List Message) (i : StreamId) (p : PortId) (d : Descriptor),
     (s.engine i).direction = some .capture → (s.engine i).state ∈ [.running, .paused, .waitFault] →
     (s.engine i).endReason = none → (s.engine i).triggerRecord = none → (s.engine i).port = some p →
     (s.engine i).activeDescriptor = some d → d.mode = .loop → 0 < d.postTrigger →
     let sum := (s.engine i).position.offset + s.bytesInFlight i + 2 * (s.port p).fifo.length
     let v := (s.engine i).position.vpage
     let next : VPage := if v.val + 1 = d.first.val + d.count then d.first else v + 1
     let at_ : Position := if sum < 4096 then ⟨v, sum⟩ else ⟨next, sum - 4096⟩
     let marked (t : State) : State :=
       (t.setEngine i
         { s.engine i with triggerRecord := some at_, pagesToGo := some (d.postTrigger + 1) }).post (some i)
         (.triggered at_)
     (s.AtEngine i (.trigger i) m rest →
       exec (.trigger i) s = .next
         ((marked s).answered m rest
           [0x00, byteOf at_.vpage.val, byteOf (at_.vpage.val / 256), byteOf at_.offset, byteOf (at_.offset / 256),
             byteOf (d.postTrigger + 1), byteOf ((d.postTrigger + 1) / 256)])) ∧
     (s.engineFree i = true → (s.port p).edgePending = true →
       exec (.pendingEdgeTaken i) s = .next (marked (s.setPort p { s.port p with edgePending := false })))) ∧
  (∀ (s : State) (m : Message) (rest : List Message) (i : StreamId),
     ((s.engine i).direction ≠ some .capture ∨ (s.engine i).state ∉ [.running, .paused, .waitFault] ∨
       (s.engine i).endReason ≠ none ∨ (s.engine i).triggerRecord ≠ none ∨
       ∀ d, (s.engine i).activeDescriptor = some d → d.mode = .once ∨ d.postTrigger = 0) →
     (s.AtEngine i (.trigger i) m rest →
       exec (.trigger i) s = .next
         (s.answered m rest
           [if (s.engine i).state ∈ [.idle, .ready, .done, .failed] then 0x05 else 0x0F])) ∧
     ∀ p, s.engineFree i = true → (s.engine i).port = some p → (s.port p).edgePending = true →
       exec (.pendingEdgeTaken i) s = .next (s.setPort p { s.port p with edgePending := false }))

/-! ### Frame data -/

/-- R134, R135, R136, R172: READ_DATA of an absent page is answered ABSENT with the codes of 12.4; with the offset at or
above the fill it is answered OK with count 0 and makes no burst; else the snapshot is taken, and the host access port
makes its first request, of at most 64 bytes and below the fill. It sets no hold and changes no frame record. -/
def Obligations.ReadDataTakesASnapshot : Prop :=
  ∀ (s : State) (m : Message) (rest : List Message) (i : StreamId) (v : VPage) (offset length : Nat),
    s.AtMapUnit (.readData i v offset length) m rest → 0 < length →
    (s.entry i v = none →
      exec (.readData i v offset length) s = .next
        (s.claimTaken.answered m rest [0x07, 0xFF, 0xFF, 0xFF, 0xFF, 0x00, 0x00])) ∧
    ∀ f access, s.entry i v = some ⟨f, access⟩ →
      ((s.frame f).fill ≤ offset →
        exec (.readData i v offset length) s = .next
          (s.claimTaken.answered m rest
            [0x00, byteOf f.val, byteOf (f.val / 256), byteOf (s.frame f).generation.toNat,
              byteOf ((s.frame f).generation.toNat / 256), 0x00, 0x00])) ∧
      (offset < (s.frame f).fill →
        let n := min length ((s.frame f).fill - offset)
        exec (.readData i v offset length) s = .next
          ((s.claimTaken.setCommand
            { s.command with
              current := some ⟨.readData i v offset length, .transferring⟩
              transfer := some
                { frame := f, offset := offset, total := n, moved := 0, generation := (s.frame f).generation
                  isWrite := false, data := [] } }).request 8
            { frame := f, offset := offset, length := min 64 n, isWrite := false }))

/-- R137, R138: WRITE_DATA is refused with ABSENT, PROTECTED, SEALED, IN_USE, GAP or BAD_FIELD, at the first of these
checks that applies, and changes nothing; else the frame is put under host hold, and the host access port makes its
first request. -/
def Obligations.WriteDataChecksAndHolds : Prop :=
  ∀ (s : State) (m : Message) (rest : List Message) (i : StreamId) (v : VPage) (offset : Nat) (data : List Byte),
    s.AtMapUnit (.writeData i v offset data) m rest →
    let refused (code : Byte) := s.claimTaken.answered m rest [code]
    (s.entry i v = none → exec (.writeData i v offset data) s = .next (refused 0x07)) ∧
    (∀ f, s.entry i v = some ⟨f, .readOnly⟩ → exec (.writeData i v offset data) s = .next (refused 0x0A)) ∧
    ∀ f, s.entry i v = some ⟨f, .readWrite⟩ →
      ((s.frame f).isSealed = true → exec (.writeData i v offset data) s = .next (refused 0x0B)) ∧
      ((s.frame f).isSealed = false →
        ((s.frame f).writer ≠ none → exec (.writeData i v offset data) s = .next (refused 0x09)) ∧
        ((s.frame f).writer = none →
          ((s.frame f).fill < offset → exec (.writeData i v offset data) s = .next (refused 0x0C)) ∧
          (offset ≤ (s.frame f).fill → 4096 < offset + data.length →
            exec (.writeData i v offset data) s = .next (refused 0x04)) ∧
          (offset ≤ (s.frame f).fill → offset + data.length ≤ 4096 →
            exec (.writeData i v offset data) s = .next
              (((s.claimTaken.setFrame f { s.frame f with hostHold := true }).setCommand
                { s.command with
                  current := some ⟨.writeData i v offset data, .transferring⟩
                  transfer := some
                    { frame := f, offset := offset, total := data.length, moved := 0
                      generation := (s.frame f).generation, isWrite := true, data := data } }).request 8
                { frame := f, offset := offset, length := min 64 data.length, isWrite := true }))))

/-- R127, R132, R133, R136, R139: a host burst that completes has moved its bytes in order: those of a read are those
of the frame store, those of a write are in the frame store, at the burst's locations and at no other. With bytes left
the port makes its next request; a read that is done is answered with frame, generation, count and bytes, and a write
that is done sends the completion claim. -/
def Obligations.HostBurstMovesItsBytes : Prop :=
  ∀ (s : State) (b : Burst) (t : Transfer), s.heldInReset = none → s.arbiter.inFlight = some b → b.requester = 8 →
    s.command.transfer = some t →
    (b.isWrite = false → t.isWrite = false →
      let got : Transfer :=
        { t with moved := t.moved + b.length, data := t.data ++ s.storeBytes b.frame b.offset b.length }
      (got.moved < t.total →
        exec .hostBurstComplete s = .next
          ((s.endBurst.setCommand { s.command with transfer := some got }).request 8
            { frame := t.frame, offset := t.offset + got.moved, length := min 64 (t.total - got.moved)
              isWrite := false })) ∧
      (t.total ≤ got.moved → ∀ m rest, s.command.queue = m :: rest →
        exec .hostBurstComplete s = .next
          (s.endBurst.answered m rest
            ([0x00, byteOf t.frame.val, byteOf (t.frame.val / 256), byteOf t.generation.toNat,
              byteOf (t.generation.toNat / 256), byteOf got.data.length, byteOf (got.data.length / 256)]
              ++ got.data)))) ∧
    (b.isWrite = true → t.isWrite = true →
      let stored := (s.storeWrite b.frame b.offset b.data).endBurst
      let put : Transfer := { t with moved := t.moved + b.length }
      (∀ k (h : k < b.data.length), stored.storeByte (address b.frame b.offset + k) = b.data[k]) ∧
      (∀ a, a < address b.frame b.offset ∨ address b.frame b.offset + b.data.length ≤ a →
        stored.storeByte a = s.storeByte a) ∧
      (put.moved < t.total →
        exec .hostBurstComplete s = .next
          ((stored.setCommand { s.command with transfer := some put }).request 8
            { frame := t.frame, offset := t.offset + put.moved, length := min 64 (t.total - put.moved)
              isWrite := true })) ∧
      (t.total ≤ put.moved → ∀ command stage, s.command.current = some ⟨command, stage⟩ →
        exec .hostBurstComplete s = .next
          ((stored.setCommand
            { s.command with current := some ⟨command, .completing⟩, transfer := some put }).sendClaim .host)))

/-- R4, R8, R139: the completion claim of a WRITE_DATA raises the fill to the end of the data, signals the readers that
wait on the frame if it rose, clears the hold, and answers with the frame, its generation and the fill. A capture entry
that was set aside during the write is decided before the reply, as reuse where the frame is the stream's own, and the
reply still carries the generation and the fill that the write left.
R8, R11, R117, R118: so is a release that was set aside. The cache entry is dropped, the map entry is made absent, and with
no waiter the frame, at refcount 0, is FREE at the tail of the queue with the fill that the write left, with the re-arm
check of R16. The stream goes to the next page of its segment, which it looks up in a step of its own (the model's choice,
log entry 8). Two write claims set aside are decided oldest first, each against the records as they then stand: the older
detaches onto a frame from the pool, and the younger, whose frame is its stream's own by then, reuses it. -/
def Obligations.WriteCompletionClearsTheHold : Prop :=
  ∀ (s : State) (m : Message) (rest : List Message) (c : HostCommand) (x : Transfer),
    s.command.current = some ⟨c, .completing⟩ → s.command.queue = m :: rest → s.command.transfer = some x →
    s.heldInReset = none → s.mapUnit.initInProgress = false → s.mapUnit.claims.head? = some .host →
    let fill := max (s.frame x.frame).fill (x.offset + x.total)
    let reply : List Byte :=
      [0x00, byteOf x.frame.val, byteOf (x.frame.val / 256), byteOf (s.frame x.frame).generation.toNat,
        byteOf ((s.frame x.frame).generation.toNat / 256), byteOf fill, byteOf (fill / 256)]
    let settled := s.claimTaken.setFrame x.frame { s.frame x.frame with fill := fill, hostHold := false }
    let signalled := if (s.frame x.frame).fill < fill then settled.signal x.frame else settled
    (s.mapUnit.deferred = [] → exec .writeDataCompletion s = .next (signalled.answered m rest reply)) ∧
    (∀ i v access d, s.mapUnit.deferred = [⟨i, .release v⟩] → s.entry i v = some ⟨x.frame, access⟩ →
      (s.frame x.frame).refcount = 1 → s.mapUnit.waiters = [] → (s.engine i).activeDescriptor = some d →
      v.val + 1 ≠ d.first.val + d.count → (s.engine i).pagesToGo = none →
      let queue := s.mapUnit.freeQueue ++ [x.frame]
      exec .writeDataCompletion s = .next
        (((((((signalled.setDeferred []).setEntry i v none).setFrame x.frame
          { s.frame x.frame with
            fill := fill, hostHold := false, refcount := 0, state := .free, writer := none }).setFreeQueue
          queue).setLowArmed (s.mapUnit.lowArmed || s.mapUnit.lowMark ≤ queue.length)).setEngine i
          { signalled.engine i with
            cache := cacheDrop (s.engine i).cache v 1, currentPage := none, position := ⟨v + 1, 0⟩
            due := .entering, lookFill := none }).answered m rest reply)) ∧
    (∀ i j v u g queue, i ≠ j → s.mapUnit.deferred = [⟨i, .write v⟩, ⟨j, .write u⟩] →
      s.entry i v = some ⟨x.frame, .readWrite⟩ → s.entry j u = some ⟨x.frame, .readWrite⟩ → 0 < fill →
      (s.frame x.frame).refcount = 2 → s.mapUnit.freeQueue = g :: queue → g ≠ x.frame →
      ∃ t, exec .writeDataCompletion s = .next t ∧ t.mapUnit.deferred = [] ∧ t.mapUnit.freeQueue = queue ∧
        t.entry i v = some ⟨g, .readWrite⟩ ∧ t.entry j u = some ⟨x.frame, .readWrite⟩ ∧
        t.frame g =
          { s.frame g with
            state := .bound, refcount := 1, fill := 0, isSealed := false
            generation := (s.frame g).generation + 1, writer := some i } ∧
        t.frame x.frame =
          { s.frame x.frame with
            refcount := 1, fill := 0, isSealed := false, generation := (s.frame x.frame).generation + 1
            writer := some j, hostHold := false } ∧
        (t.engine i).currentPage = some ⟨v, g⟩ ∧ (t.engine j).currentPage = some ⟨u, x.frame⟩ ∧
        t.link.replies = s.link.replies ++ [⟨m.kind + 0x80, m.tag, reply⟩]) ∧
    ∀ i v, s.mapUnit.deferred = [⟨i, .write v⟩] → s.entry i v = some ⟨x.frame, .readWrite⟩ → 0 < fill →
      (s.frame x.frame).refcount = 1 → (s.engine i).state = .running →
      ∃ t, exec .writeDataCompletion s = .next t ∧ t.mapUnit.deferred = [] ∧
        t.frame x.frame =
          { s.frame x.frame with
            fill := 0, isSealed := false, generation := (s.frame x.frame).generation + 1, writer := some i
            hostHold := false } ∧
        (t.engine i).currentPage = some ⟨v, x.frame⟩ ∧ (t.engine i).state = .running ∧
        t.link.replies = s.link.replies ++ [⟨m.kind + 0x80, m.tag, reply⟩]

/-- R5, R140: SEAL is refused with ABSENT or IN_USE; an unsealed frame is sealed at its fill and the readers that wait
on it are signalled; a sealed frame stays as it is. The reply says which it was. -/
def Obligations.SealClosesTheFrame : Prop :=
  ∀ (s : State) (m : Message) (rest : List Message) (i : StreamId) (v : VPage), s.AtMapUnit (.sealPage i v) m rest →
    (s.entry i v = none → exec (.sealPage i v) s = .next (s.claimTaken.answered m rest [0x07])) ∧
    ∀ f access, s.entry i v = some ⟨f, access⟩ →
      let reply (already : Byte) : List Byte :=
        [0x00, byteOf f.val, byteOf (f.val / 256), byteOf (s.frame f).fill, byteOf ((s.frame f).fill / 256), already]
      ((s.frame f).writer ≠ none → exec (.sealPage i v) s = .next (s.claimTaken.answered m rest [0x09])) ∧
      ((s.frame f).writer = none →
        ((s.frame f).isSealed = true →
          exec (.sealPage i v) s = .next (s.claimTaken.answered m rest (reply 0x01))) ∧
        ((s.frame f).isSealed = false →
          exec (.sealPage i v) s = .next
            (((s.claimTaken.setFrame f { s.frame f with isSealed := true }).signal f).answered m rest (reply 0x00))))

/-! ### Lanes -/

/-- R54, R55, R90, R91: a capture port takes a word at each strobe while its gate is open and its FIFO holds fewer than
256 words; at a full FIFO the word is dropped and counted, and one occurrence of FLOW is posted; with the gate closed
or on an unbound port nothing happens. On a port of another direction this row does nothing: the lane strobe has two
rows, by direction (the model's choice, log entry 27). -/
def Obligations.CaptureStrobeTakesTheWord : Prop :=
  ∀ (s : State) (p : PortId) (w : Word), s.heldInReset = none →
    ((s.port p).bound = none ∨ (s.port p).gateOpen = false ∨ (s.port p).direction ≠ some .capture →
      exec (.captureStrobe p w) s = .next s) ∧
    ∀ i, (s.port p).bound = some i → (s.port p).gateOpen = true → (s.port p).direction = some .capture →
      ((s.port p).fifo.length < 256 →
        exec (.captureStrobe p w) s = .next (s.setPort p { s.port p with fifo := (s.port p).fifo ++ [w] })) ∧
      (256 ≤ (s.port p).fifo.length →
        exec (.captureStrobe p w) s = .next
          ((s.setEngine i
            { s.engine i with
              counters := { (s.engine i).counters with
                wordsDropped :=
                  BitVec.ofNat 32 (min ((s.engine i).counters.wordsDropped.toNat + 1) 0xFFFFFFFF) } }).post (some i)
            (.flow 1)))

/-- R55, R81, R84, R122, R123: a replay port gives the word at the head of its FIFO at each strobe while its gate is
open, and the last word of a stream that has completed takes it to DONE with its slot emptied; with an empty FIFO the
strobe is an underrun in RUNNING, WAIT_DATA and WAIT_FAULT; with the gate closed nothing happens. On a port of another
direction this row does nothing: the lane strobe has two rows, by direction (the model's choice, log entry 27). A
trigger edge sets the mark of a bound port, whatever its gate.
R54, R122: the data pins of a port are outputs exactly while it is bound to a replay stream, and then hold the last word
given. -/
def Obligations.ReplayStrobeGivesTheWord : Prop :=
  (∀ (s : State) (p : PortId), s.heldInReset = none →
     ((s.port p).bound = none → exec (.triggerEdge p) s = .next s) ∧
     ((s.port p).bound ≠ none →
       exec (.triggerEdge p) s = .next (s.setPort p { s.port p with edgePending := true })) ∧
     ((s.port p).bound = none ∨ (s.port p).gateOpen = false ∨ (s.port p).direction ≠ some .replay →
       exec (.replayStrobe p) s = .next s) ∧
     ∀ i, (s.port p).bound = some i → (s.engine i).port = some p → (s.port p).gateOpen = true →
       (s.port p).direction = some .replay →
       (∀ w ws, (s.port p).fifo = w :: ws → (s.engine i).state ≠ .stopping ∨ ws ≠ [] →
         exec (.replayStrobe p) s = .next (s.setPort p { s.port p with fifo := ws, lastWord := w })) ∧
       (∀ w reason, (s.port p).fifo = [w] → (s.engine i).state = .stopping → (s.engine i).endReason = some reason →
         exec (.replayStrobe p) s = .next
           (((s.setPort p { s.port p with fifo := [], lastWord := w, gateOpen := false }).setEngine i
             { (s.engine i).emptyActiveSlot with
               state := .done, currentPage := none, activeSlot := none, faultRecord := none, lookFill := none
               due := .none }).post (some i) (.streamEnd reason (s.engine i).position none))) ∧
       ((s.port p).fifo = [] → (s.engine i).state ∈ [.running, .waitData, .waitFault] →
         exec (.replayStrobe p) s = .next
           ((s.setEngine i
             { s.engine i with
               counters := { (s.engine i).counters with
                 underrunWords :=
                   BitVec.ofNat 32 (min ((s.engine i).counters.underrunWords.toNat + 1) 0xFFFFFFFF) } }).post (some i)
             (.flow 1)))) ∧
  ∀ x : Port,
    (x.bound.isSome = true → x.direction = some .replay → x.driven = some x.lastWord) ∧
    (x.bound = none ∨ x.direction ≠ some .replay → x.driven = none)

/-! ### Bursts -/

/-- R43, R64, R93, R94, R112, R130: a capture stream in RUNNING with 32 words, or draining with any, and a replay stream
below the fill of its last look with room for 32 words, look up their current page, which counts a hit, and request a
burst of the frame found. A stream in any other state makes none, nor does one of the other direction, one without a
current page, one whose request waits or whose burst is in flight, or a replay stream with no look or with its offset at
the fill of its last look or above. That a capture page already full takes no burst is the model's reading (log entry
9), and that a replay request names the length of the last look (log entry 20). -/
def Obligations.BurstRequestsNameTheFrameLookedUp : Prop :=
  (∀ (s : State) (i : StreamId) (p : PortId) (c : CurrentPage) (entry : CacheEntry),
     s.heldInReset = none → (s.engine i).restart = .none → s.arbiter.requests[requesterOf i] = none →
     s.burstInFlight (requesterOf i) = false → (s.engine i).port = some p → (s.engine i).currentPage = some c →
     cacheLookup (s.engine i).cache c.vpage = some entry →
     let looked :=
       s.setEngine i
         { s.engine i with
           cache := cacheTouch (s.engine i).cache entry.rank
           counters := { (s.engine i).counters with cacheHits := (s.engine i).counters.cacheHits + 1 } }
     let offset := (s.engine i).position.offset
     let words := (s.port p).fifo.length
     ((s.engine i).direction = some .capture →
       (offset < 4096 →
         (s.engine i).state = .running ∧ 32 ≤ words ∨
           (s.engine i).state = .stopping ∧ (s.engine i).endReason = some .stopped ∧ 0 < words →
         exec (.captureBurstRequest i) s = .next
           (looked.request (requesterOf i)
             { frame := entry.frame, offset := offset, length := 2 * min (min 32 words) ((4096 - offset) / 2)
               isWrite := true })) ∧
       (4096 ≤ offset ∨ (s.engine i).state = .running ∧ words < 32 ∨ (s.engine i).state ∉ [.running, .stopping] ∨
           (s.engine i).state = .stopping ∧ ((s.engine i).endReason ≠ some .stopped ∨ words = 0) →
         exec (.captureBurstRequest i) s = .next s)) ∧
     ((s.engine i).direction = some .replay →
       (∀ fill, (s.engine i).state = .running → (s.engine i).lookFill = some fill → offset < fill → words ≤ 224 →
         exec (.replayBurstRequest i) s = .next
           (looked.request (requesterOf i)
             { frame := entry.frame, offset := offset, length := min 64 (fill - offset), isWrite := false })) ∧
       ((s.engine i).state ≠ .running ∨ 224 < words ∨ (s.engine i).lookFill = none ∨
           (∃ fill, (s.engine i).lookFill = some fill ∧ fill ≤ offset) →
         exec (.replayBurstRequest i) s = .next s))) ∧
  (∀ (s : State) (i : StreamId),
     ((s.engine i).direction ≠ some .capture → exec (.captureBurstRequest i) s = .next s) ∧
     ((s.engine i).direction ≠ some .replay → exec (.replayBurstRequest i) s = .next s) ∧
     (s.arbiter.requests[requesterOf i] ≠ none ∨ s.burstInFlight (requesterOf i) = true ∨
         (s.engine i).currentPage = none →
       exec (.captureBurstRequest i) s = .next s ∧ exec (.replayBurstRequest i) s = .next s))

/-- R94, R114, R131, R135, R136: with no burst in flight the arbiter grants the waiting request that comes first after
the last granted requester. A capture grant takes the words from the FIFO, low byte first; a replay grant makes a fill
look and sizes the read by it; a host grant makes its generation look, and a read that finds another generation is
cancelled and answered TORN. -/
def Obligations.ArbiterGrantsInTurn : Prop :=
  ∀ s : State, s.heldInReset = none →
    (s.arbiter.inFlight ≠ none ∨ (∀ r : Requester, s.arbiter.requests[r] = none) →
      exec .arbiterGrant s = .next s) ∧
    ∀ (r : Requester) (q : BurstRequest), s.arbiter.inFlight = none → s.arbiter.requests[r] = some q →
      (∀ (r' : Requester) q', s.arbiter.requests[r'] = some q' →
        (r.val + 8 - s.arbiter.lastGranted.val) % 9 ≤ (r'.val + 8 - s.arbiter.lastGranted.val) % 9) →
      let granted (t : State) (b : Burst) : State :=
        { t with
          arbiter := { requests := s.arbiter.requests.set r none, inFlight := some b, lastGranted := r } }
      (∀ i p, r = requesterOf i → q.isWrite = true → (s.engine i).port = some p →
        let offset := (s.engine i).position.offset
        let n := min (min 32 (s.port p).fifo.length) ((4096 - offset) / 2)
        exec .arbiterGrant s = .next
          (granted (s.setPort p { s.port p with fifo := (s.port p).fifo.drop n })
            { requester := r, frame := q.frame, offset := offset, length := 2 * n, isWrite := true
              data := ((s.port p).fifo.take n).flatMap fun (w : Word) => [w.setWidth 8, (w >>> 8).setWidth 8] })) ∧
      (∀ i, r = requesterOf i → q.isWrite = false →
        let offset := (s.engine i).position.offset
        let fill := (s.frame q.frame).fill
        exec .arbiterGrant s = .next
          (granted (s.setEngine i { s.engine i with lookFill := some fill })
            { requester := r, frame := q.frame, offset := offset, length := min 64 (fill - offset), isWrite := false
              data := [] })) ∧
      ∀ t, r = 8 → s.command.transfer = some t →
        (t.isWrite = true →
          exec .arbiterGrant s = .next
            (granted s
              { requester := 8, frame := q.frame, offset := q.offset, length := q.length, isWrite := q.isWrite
                data := (t.data.drop t.moved).take (min 64 (t.total - t.moved)) })) ∧
        (t.isWrite = false → (s.frame t.frame).generation = t.generation →
          exec .arbiterGrant s = .next
            (granted s
              { requester := 8, frame := q.frame, offset := q.offset, length := q.length, isWrite := q.isWrite
                data := [] })) ∧
        ∀ m rest, t.isWrite = false → (s.frame t.frame).generation ≠ t.generation → s.command.queue = m :: rest →
          exec .arbiterGrant s = .next
            (({ s with
                arbiter := { requests := s.arbiter.requests.set 8 none, inFlight := none, lastGranted := 8 }
              } : State).answered m rest
              [0x10, byteOf t.frame.val, byteOf (t.frame.val / 256), byteOf (s.frame t.frame).generation.toNat,
                byteOf ((s.frame t.frame).generation.toNat / 256), 0x00, 0x00])

/-- R64, R68, R95, R96, R97: a capture burst that completes puts its bytes in the frame store, advances the offset and
the bytes moved, and reports the fill: as a new claim, or as a new offset in the report that still waits. At 4096 the
leave seal claim carries the offset instead, but not after ABORT; a drain that is over, and an ABORT, send the ending
seal claim with it. A report that still waits is withdrawn by either seal claim, which carries the offset in its place;
that the seal claim then waits behind the claims that came before it is the model's reading (log entry 11). -/
def Obligations.CaptureBurstAdvancesTheStream : Prop :=
  ∀ (s : State) (i : StreamId) (p : PortId) (b : Burst) (c : CurrentPage), s.heldInReset = none →
    s.arbiter.inFlight = some b → b.requester = requesterOf i → b.isWrite = true → (s.engine i).restart = .none →
    (s.engine i).port = some p → (s.engine i).currentPage = some c →
    let offset := (s.engine i).position.offset + b.length
    let landed :=
      ((s.storeWrite b.frame b.offset b.data).endBurst).setEngine i
        { s.engine i with
          position := ⟨(s.engine i).position.vpage, offset⟩
          counters := { (s.engine i).counters with
            bytesMoved := (s.engine i).counters.bytesMoved + BitVec.ofNat 32 b.length } }
    (∀ k (h : k < b.data.length), landed.storeByte (address b.frame b.offset + k) = b.data[k]) ∧
    (∀ a, a < address b.frame b.offset ∨ address b.frame b.offset + b.data.length ≤ a →
      landed.storeByte a = s.storeByte a) ∧
    (s.waitingReport i = none →
      (offset ≠ 4096 → (s.engine i).state ∈ [.running, .paused] ∨
          (s.engine i).state = .stopping ∧ (s.port p).fifo ≠ [] →
        exec (.captureBurstComplete i) s = .next
          (landed.sendClaim (.engine i (.fillReport c.frame offset)))) ∧
      (offset = 4096 → (s.engine i).endReason ≠ some .aborted →
        exec (.captureBurstComplete i) s = .next
          (landed.sendClaim (.engine i (.leaveSeal c.frame (some offset))))) ∧
      ((s.engine i).state = .stopping → (s.port p).fifo = [] →
        offset ≠ 4096 ∨ (s.engine i).endReason = some .aborted →
        exec (.captureBurstComplete i) s = .next
          (landed.sendClaim (.engine i (.endingSeal (some offset)))))) ∧
    (∀ before after o, s.mapUnit.claims = before ++ .engine i (.fillReport c.frame o) :: after →
      (∀ x ∈ before ++ after, x.reportOf i = none) →
      (offset ≠ 4096 → (s.engine i).state ∈ [.running, .paused] ∨
          (s.engine i).state = .stopping ∧ (s.port p).fifo ≠ [] →
        exec (.captureBurstComplete i) s = .next
          (landed.setClaims (before ++ .engine i (.fillReport c.frame offset) :: after))) ∧
      (offset = 4096 → (s.engine i).endReason ≠ some .aborted →
        exec (.captureBurstComplete i) s = .next
          (landed.setClaims (before ++ after ++ [.engine i (.leaveSeal c.frame (some offset))]))) ∧
      ((s.engine i).state = .stopping → (s.port p).fifo = [] →
        offset ≠ 4096 ∨ (s.engine i).endReason = some .aborted →
        exec (.captureBurstComplete i) s = .next
          (landed.setClaims (before ++ after ++ [.engine i (.endingSeal (some offset))]))))

/-- R67, R75, R114, R115, R117: a replay burst that completes appends its words to the FIFO and advances the offset and
the bytes moved. In RUNNING the page is then evaluated: below the fill the stream goes on, at the fill of an unsealed frame
it waits, and at the fill of a sealed one it leaves the page: under RELEASE by a release claim, and under KEEP at once,
with no current page until it has looked up the next page of the segment, the first one after the last of a LOOP (R25; that
the lookup is a step of its own is the model's choice, log entry 8). In PAUSED nothing more happens, and in STOPPING the
words are discarded and the stream enters DONE. -/
def Obligations.ReplayBurstAdvancesTheStream : Prop :=
  ∀ (s : State) (i : StreamId) (p : PortId) (b : Burst) (c : CurrentPage), s.heldInReset = none →
    s.arbiter.inFlight = some b → b.requester = requesterOf i → b.isWrite = false → (s.engine i).restart = .none →
    (s.engine i).port = some p → (s.engine i).currentPage = some c →
    let offset := (s.engine i).position.offset + b.length
    let moved : Engine :=
      { s.engine i with
        position := ⟨(s.engine i).position.vpage, offset⟩
        counters := { (s.engine i).counters with
          bytesMoved := (s.engine i).counters.bytesMoved + BitVec.ofNat 32 b.length } }
    let words := bytesWords (s.storeBytes b.frame b.offset b.length)
    let given := s.endBurst.setPort p { s.port p with fifo := (s.port p).fifo ++ words }
    ((s.engine i).state = .running →
      (offset < (s.frame c.frame).fill →
        exec (.replayBurstComplete i) s = .next
          (given.setEngine i { moved with lookFill := some (s.frame c.frame).fill, due := .none })) ∧
      ((s.frame c.frame).fill ≤ offset → (s.frame c.frame).isSealed = false →
        exec (.replayBurstComplete i) s = .next
          (given.setEngine i { moved with state := .waitData, lookFill := none, due := .none })) ∧
      ((s.frame c.frame).fill ≤ offset → (s.frame c.frame).isSealed = true → (s.engine i).pagesToGo = none →
        let left : Engine :=
          { moved with
            lookFill := none, due := .none
            counters := { moved.counters with pagesCompleted := moved.counters.pagesCompleted + 1 }
            activationPages := BitVec.ofNat 32 (min ((s.engine i).activationPages.toNat + 1) 0xFFFFFFFF) }
        ((s.engine i).releasePolicy = some .release →
          exec (.replayBurstComplete i) s = .next
            ((given.setEngine i left).sendClaim (.engine i (.release c.vpage)))) ∧
        ∀ d, (s.engine i).releasePolicy = some .keep → (s.engine i).activeDescriptor = some d →
          let last := c.vpage.val + 1 = d.first.val + d.count
          d.mode = .loop ∨ ¬ last →
          exec (.replayBurstComplete i) s = .next
            (given.setEngine i
              { left with
                currentPage := none, position := ⟨if last then d.first else c.vpage + 1, 0⟩, due := .entering }))) ∧
    ((s.engine i).state = .paused → exec (.replayBurstComplete i) s = .next (given.setEngine i moved)) ∧
    ∀ reason, (s.engine i).state = .stopping → (s.engine i).endReason = some reason →
      exec (.replayBurstComplete i) s = .next
        (((s.endBurst.setPort p { s.port p with gateOpen := false }).setEngine i
          { moved with
            state := .done, currentPage := none, activeSlot := none, faultRecord := none, lookFill := none
            due := .none }).post (some i) (.streamEnd reason moved.position none))

/-! ### Claims of the stream engines -/

/-- R4, R96, R116: a fill report sets the frame's fill, and every stream engine in WAIT_DATA on the frame, and no other,
is signalled if it rose. -/
def Obligations.FillReportSignalsTheReaders : Prop :=
  ∀ (s : State) (i : StreamId) (f : FrameId) (offset : Nat) (rest : List Claim),
    s.ClaimNext i (.fillReport f offset) rest →
    let filled := s.claimTaken.setFrame f { s.frame f with fill := offset }
    ((s.frame f).fill < offset → exec (.fillReport i) s = .next (filled.signal f)) ∧
    (offset ≤ (s.frame f).fill → exec (.fillReport i) s = .next filled) ∧
    ∀ j,
      ((filled.signal f).engine j =
        if (s.engine j).state = .waitData ∧ (s.engine j).currentPage.map (fun c => c.frame) = some f then
          { s.engine j with signals := (s.engine j).signals ++ [f] }
        else s.engine j)

/-- R64, R75, R78 to R82, R88, R97, R98: the leave seal claim seals the frame at the carried offset and clears its
writer. Every other stream engine in WAIT_DATA on the frame is signalled, once for the fill if it rose and once for the
seal. The leave is counted, also against the pages to go from the trigger page on. It completes a ONCE segment at the
last page and a LOOP segment when the pages to go come to 0. Otherwise the stream goes on by write claim to the next
page of the segment, the first page after the last one of a LOOP. A completed segment posts SEGMENT_DONE; with link yes
it chains to the other slot if that is armed and ends STARVED if not, with link no it ends COMPLETED, and the words left
are dropped and counted. In a STOP drain a leave that completes the segment ends the stream STOPPED with its slot
emptied and no SEGMENT_DONE; one that does not ends it without a claim when no words are left, and else goes on by write
claim. -/
def Obligations.LeaveSealEndsThePage : Prop :=
  ∀ (s : State) (i : StreamId) (p : PortId) (f : FrameId) (offset : Nat) (rest : List Claim) (d : Descriptor)
    (name : SlotName),
    s.ClaimNext i (.leaveSeal f (some offset)) rest → (s.frame f).isSealed = false →
    (s.engine i).direction = some .capture → (s.engine i).port = some p → (s.engine i).activeSlot = some name →
    (s.engine i).slot name = some d →
    let v := (s.engine i).position.vpage
    let last := v.val + 1 = d.first.val + d.count
    let next : VPage := if last then d.first else v + 1
    let pages := BitVec.ofNat 32 (min ((s.engine i).activationPages.toNat + 1) 0xFFFFFFFF)
    let toGo : Option Nat := (s.engine i).pagesToGo.map fun n =>
      if (s.engine i).triggerRecord.map (fun t => t.vpage) = some v ∨ n < d.postTrigger + 1 then n - 1 else n
    let completes := d.mode = .once ∧ last ∨ d.mode = .loop ∧ toGo = some 0
    let dropped :=
      BitVec.ofNat 32 (min ((s.engine i).counters.wordsDropped.toNat + (s.port p).fifo.length) 0xFFFFFFFF)
    ∃ t, exec (.leaveSealClaim i) s = .next t ∧
      t.frame f = { s.frame f with fill := offset, isSealed := true, writer := none } ∧
      (∀ g, g ≠ f → t.frame g = s.frame g) ∧ t.mapUnit.maps = s.mapUnit.maps ∧
      t.mapUnit.freeQueue = s.mapUnit.freeQueue ∧ t.store = s.store ∧ (t.engine i).currentPage = none ∧
      (∀ j, j ≠ i → t.engine j = (s.engine j).signalled f (if (s.frame f).fill < offset then 2 else 1)) ∧
      (t.engine i).counters.pagesCompleted = (s.engine i).counters.pagesCompleted + 1 ∧
      let ended (reason : EndReason) (at_ : VPage) : Prop :=
        (t.engine i).state = .done ∧ (t.engine i).endReason = some reason ∧ (t.engine i).activeSlot = none ∧
          (t.engine i).position = ⟨at_, 0⟩ ∧ (t.port p).fifo = [] ∧ (t.port p).gateOpen = false ∧
          t.mapUnit.claims = rest
      ((s.engine i).state ∈ [.running, .paused] →
        (¬ completes →
          (t.engine i).state = (s.engine i).state ∧ (t.engine i).position = ⟨next, 0⟩ ∧
            (t.engine i).activationPages = pages ∧ (t.engine i).pagesToGo = toGo ∧
            (t.engine i).triggerRecord = (s.engine i).triggerRecord ∧ t.link = s.link ∧
            t.mapUnit.claims = rest ++ [.engine i (.write next)]) ∧
        (completes →
          (d.link = false ∨ (s.engine i).slot (otherSlot name) = none →
            let reason : EndReason := if d.link then .starved else .completed
            ended reason v ∧ (t.engine i).slot name = none ∧ (t.engine i).pagesToGo = none ∧
              (t.engine i).slot (otherSlot name) = (s.engine i).slot (otherSlot name) ∧
              (t.engine i).counters.wordsDropped = dropped ∧
              t.link =
                (s.link.post (some i) (.segmentDone name pages)).post (some i) (.streamEnd reason ⟨v, 0⟩ none)) ∧
          ∀ other, d.link = true → (s.engine i).slot (otherSlot name) = some other →
            (t.engine i).state = (s.engine i).state ∧ (t.engine i).activeSlot = some (otherSlot name) ∧
              (t.engine i).slot name = none ∧ (t.engine i).position = ⟨other.first, 0⟩ ∧
              (t.engine i).activationPages = 0 ∧ (t.engine i).pagesToGo = none ∧
              (t.engine i).triggerRecord = none ∧ (t.port p) = s.port p ∧
              t.link = s.link.post (some i) (.segmentDone name pages) ∧
              t.mapUnit.claims = rest ++ [.engine i (.write other.first)])) ∧
      ((s.engine i).state = .stopping → (s.engine i).endReason = some .stopped →
        (completes →
          ended .stopped v ∧ (t.engine i).slot name = none ∧ (t.engine i).pagesToGo = none ∧
            (t.engine i).counters.wordsDropped = dropped ∧
            t.link = s.link.post (some i) (.streamEnd .stopped ⟨v, 0⟩ none)) ∧
        (¬ completes → (s.port p).fifo = [] →
          ended .stopped next ∧ (t.engine i).slot name = some d ∧
            t.link = s.link.post (some i) (.streamEnd .stopped ⟨next, 0⟩ none)) ∧
        (¬ completes → (s.port p).fifo ≠ [] →
          (t.engine i).state = .stopping ∧ (t.engine i).position = ⟨next, 0⟩ ∧ (t.engine i).pagesToGo = toGo ∧
            (t.port p) = s.port p ∧ t.link = s.link ∧ t.mapUnit.claims = rest ++ [.engine i (.write next)]))

/-- R5, R14, R65, R66, R71: the ending seal claim seals the current frame at the offset reached, clears its writer,
signals the readers that wait on it, and takes the stream off the pool-waiter list; the stream enters DONE with its slot
still armed and posts STREAM_END. A stream that a hand-off has left FAILED stays as it is. A STOP or ABORT that waited
for the claim is answered, in DONE or FAILED. -/
def Obligations.EndingSealTakesTheStreamToDone : Prop :=
  ∀ (s : State) (i : StreamId) (p : PortId) (carried : Option Nat) (rest : List Claim) (reason : EndReason),
    s.ClaimNext i (.endingSeal carried) rest → (s.engine i).port = some p → (s.engine i).endReason = some reason →
    ∃ t, exec (.endingSealClaim i) s = .next t ∧ t.mapUnit.claims = rest ∧
      t.mapUnit.waiters = s.mapUnit.waiters.filter (fun w => w != i) ∧ t.mapUnit.maps = s.mapUnit.maps ∧
      t.mapUnit.freeQueue = s.mapUnit.freeQueue ∧ t.store = s.store ∧
      (∀ c, (s.engine i).currentPage = some c → (s.frame c.frame).isSealed = false →
        let fill := carried.getD (s.frame c.frame).fill
        t.frame c.frame = { s.frame c.frame with fill := fill, isSealed := true, writer := none } ∧
          ∀ j, j ≠ i → t.engine j = (s.engine j).signalled c.frame (if (s.frame c.frame).fill < fill then 2 else 1)) ∧
      (∀ g, (∀ c, (s.engine i).currentPage = some c → c.frame ≠ g) → t.frame g = s.frame g) ∧
      ((s.engine i).currentPage = none → ∀ j, j ≠ i → t.engine j = s.engine j) ∧
      ((s.engine i).state ≠ .failed →
        (t.engine i).state = .done ∧ (t.engine i).endReason = some reason ∧ (t.engine i).currentPage = none ∧
          (t.engine i).activeSlot = none ∧ (t.engine i).faultRecord = none ∧
          (t.engine i).slotA = (s.engine i).slotA ∧ (t.engine i).slotB = (s.engine i).slotB ∧
          (t.engine i).position = (s.engine i).position ∧ (t.port p).gateOpen = false) ∧
      ((s.engine i).state = .failed → (s.engine i).currentPage = none →
        t.engine i = s.engine i ∧ t.ports = s.ports ∧ t.mapUnit.frames = s.mapUnit.frames) ∧
      let ended : Link :=
        if (s.engine i).state = .failed then s.link
        else s.link.post (some i) (.streamEnd reason (s.engine i).position none)
      ((∀ stage, s.command.current ≠ some ⟨.stop i, stage⟩ ∧ s.command.current ≠ some ⟨.abort i, stage⟩) →
        t.command = s.command ∧ t.link = ended) ∧
      ∀ command m queued, command ∈ [HostCommand.stop i, .abort i] →
        s.command.current = some ⟨command, .awaitingEndingSeal⟩ → s.command.queue = m :: queued →
        t.link.replies = s.link.replies ++ [⟨m.kind + 0x80, m.tag, [0x00]⟩] ∧ t.link.notices = ended.notices ∧
          t.command.queue = queued ∧ t.command.current = none

/-- R101 to R111: the map unit decides a write claim by the first line of the table that applies. An absent page is
given a frame from the head of the queue, or leaves the stream waiting for the host or for a frame; a held frame sets
the claim aside; a READ_ONLY page fails the stream; an empty frame without a writer is written in place; a frame that
the stream holds alone is reset; and a shared one is left to its other maps. A stream that is given a frame keeps its
state and its port.
R64, R65, R66, R96: a STOP drain that is given a frame goes on; one that is left waiting posts its FAULT, drops and
counts its words with the gate closed, and is DONE at once for reason ABSENT; for reason POOL_EMPTY it stands in the
list and sends its ending seal claim. -/
def Obligations.WriteClaimFollowsItsTable : Prop :=
  ∀ (s : State) (i : StreamId) (p : PortId) (v : VPage) (rest : List Claim), s.ClaimNext i (.write v) rest →
    (s.engine i).port = some p →
    ((s.engine i).state ∈ [.running, .paused] ∧ (s.engine i).endReason = none ∨
      (s.engine i).state = .stopping ∧ (s.engine i).endReason = some .stopped) →
    ∃ t, exec (.writeClaim i) s = .next t ∧ t.store = s.store ∧
      (∀ j u, (j ≠ i ∨ u ≠ v) → t.entry j u = s.entry j u) ∧
      let dropped :=
        BitVec.ofNat 32 (min ((s.engine i).counters.wordsDropped.toNat + (s.port p).fifo.length) 0xFFFFFFFF)
      let given (f : FrameId) (before : Cache) : Prop :=
        (t.engine i).state = (s.engine i).state ∧ (t.engine i).currentPage = some ⟨v, f⟩ ∧
          (t.engine i).position = ⟨v, 0⟩ ∧ (t.engine i).cache = cacheInstall before v f .readWrite ∧
          (t.frame f).writer = some i ∧ t.entry i v = some ⟨f, .readWrite⟩ ∧ (t.frame f).fill = 0 ∧
          (t.frame f).isSealed = false ∧ t.port p = s.port p ∧ t.mapUnit.claims = rest
      let waits (reason : FaultReason) : Prop :=
        (t.engine i).currentPage = none ∧ (t.engine i).position = ⟨v, 0⟩ ∧ t.entry i v = s.entry i v ∧
          (∀ f, t.frame f = s.frame f) ∧
          (t.engine i).counters.faultsTaken =
            BitVec.ofNat 32 (min ((s.engine i).counters.faultsTaken.toNat + 1) 0xFFFFFFFF) ∧
          let told := s.link.post (some i) (.fault v reason)
          ((s.engine i).endReason = none →
            (t.engine i).state = .waitFault ∧ (t.engine i).faultRecord = some ⟨v, reason⟩ ∧
              (t.port p).gateOpen = true ∧ (t.port p).fifo = (s.port p).fifo ∧ t.link = told ∧
              t.mapUnit.claims = rest) ∧
          ((s.engine i).endReason = some .stopped →
            (t.engine i).endReason = some .stopped ∧ (t.port p).gateOpen = false ∧ (t.port p).fifo = [] ∧
              (t.engine i).counters.wordsDropped = dropped ∧
              (reason = .absent →
                (t.engine i).state = .done ∧ (t.engine i).faultRecord = none ∧ (t.engine i).activeSlot = none ∧
                  t.link = told.post (some i) (.streamEnd .stopped ⟨v, 0⟩ none) ∧ t.mapUnit.claims = rest) ∧
              (reason = .poolEmpty →
                (t.engine i).state = .waitFault ∧ (t.engine i).faultRecord = some ⟨v, .poolEmpty⟩ ∧ t.link = told ∧
                  t.mapUnit.claims =
                    rest.filter (fun x => (x.reportOf i).isNone) ++
                      [.engine i (.endingSeal (rest.findSome? fun x => x.reportOf i))]))
      (∀ f queue, s.entry i v = none → (s.engine i).faultPolicy = some .allocate →
        s.mapUnit.freeQueue = f :: queue →
        given f (s.engine i).cache ∧ t.mapUnit.freeQueue = queue ∧ (t.frame f).state = .bound ∧
          (t.frame f).refcount = 1 ∧ (t.frame f).generation = (s.frame f).generation + 1) ∧
      (s.entry i v = none → (s.engine i).faultPolicy = some .allocate → s.mapUnit.freeQueue = [] →
        waits .poolEmpty ∧ t.mapUnit.waiters = s.mapUnit.waiters ++ [i]) ∧
      (s.entry i v = none → (s.engine i).faultPolicy = some .host →
        waits .absent ∧ t.mapUnit.waiters = s.mapUnit.waiters) ∧
      (∀ f access, s.entry i v = some ⟨f, access⟩ → (s.frame f).hostHold = true →
        t = { s with
              mapUnit := { s.mapUnit with claims := rest, deferred := s.mapUnit.deferred ++ [⟨i, .write v⟩] } }) ∧
      (∀ f, s.entry i v = some ⟨f, .readOnly⟩ → (s.frame f).hostHold = false →
        (t.engine i).state = .failed ∧ (t.engine i).endReason = some .failed ∧ (t.port p).fifo = [] ∧
          (t.port p).gateOpen = false ∧ (t.engine i).counters.wordsDropped = dropped ∧
          (t.engine i).position = ⟨v, 0⟩ ∧ t.mapUnit.claims = rest ∧ t.mapUnit.frames = s.mapUnit.frames ∧
          t.mapUnit.maps = s.mapUnit.maps ∧
          t.link = s.link.post (some i) (.streamEnd .failed ⟨v, 0⟩ (some v))) ∧
      (∀ f, s.entry i v = some ⟨f, .readWrite⟩ → (s.frame f).hostHold = false →
        let fresh := (s.frame f).isSealed = false ∧ (s.frame f).fill = 0 ∧ (s.frame f).writer = none
        (fresh → given f (s.engine i).cache ∧ t.frame f = { s.frame f with writer := some i }) ∧
        (¬ fresh → (s.frame f).refcount = 1 →
          given f (s.engine i).cache ∧
            t.frame f =
              { s.frame f with
                fill := 0, isSealed := false, generation := (s.frame f).generation + 1, writer := some i }) ∧
        (∀ n g queue, ¬ fresh → (s.frame f).refcount = n + 2 → s.mapUnit.freeQueue = g :: queue → g ≠ f →
          given g (cacheDrop (s.engine i).cache v 1) ∧ t.frame f = { s.frame f with refcount := n + 1 } ∧
            t.mapUnit.freeQueue = queue ∧ (t.frame g).state = .bound ∧ (t.frame g).refcount = 1 ∧
            (t.frame g).generation = (s.frame g).generation + 1) ∧
        (∀ n, ¬ fresh → (s.frame f).refcount = n + 2 → s.mapUnit.freeQueue = [] →
          waits .poolEmpty ∧ t.mapUnit.waiters = s.mapUnit.waiters ++ [i]))

/-- R42, R44, R53, R115, R119, R120, R121: a read claim of a present page installs the entry and makes the page current,
and the page is evaluated at its fill; of an absent page it passes over under SKIP, counting a page skipped, and waits under
HOST, with a FAULT. Nothing in the map unit changes by a read claim. The lookup of the next page, after a pass-over or a page
leave, finds the page in the cache, which counts a hit, makes the page current and evaluates it, or counts a miss and sends
a read claim. A stream that has left a page takes no command before that lookup (R53).
That this lookup and the leave of a page entered at the fill of a sealed frame are steps of their own is the model's choice
(log entry 8). -/
def Obligations.ReadClaimEntersThePage : Prop :=
  ∀ (s : State) (i : StreamId) (p : PortId) (v : VPage) (rest : List Claim), (s.engine i).port = some p →
    (s.ClaimNext i (.read v) rest →
      let taken : State := { s with mapUnit := { s.mapUnit with claims := rest } }
      (∀ f access, s.entry i v = some ⟨f, access⟩ →
        let entered : Engine :=
          { s.engine i with
            cache := cacheInstall (s.engine i).cache v f access, currentPage := some ⟨v, f⟩, position := ⟨v, 0⟩
            faultRecord := none, due := .none }
        (0 < (s.frame f).fill →
          exec (.readClaim i) s = .next
            (taken.setEngine i { entered with state := .running, lookFill := some (s.frame f).fill })) ∧
        ((s.frame f).fill = 0 → (s.frame f).isSealed = true →
          exec (.readClaim i) s = .next
            (taken.setEngine i { entered with state := .running, lookFill := none, due := .leave })) ∧
        ((s.frame f).fill = 0 → (s.frame f).isSealed = false →
          exec (.readClaim i) s = .next (taken.setEngine i { entered with state := .waitData, lookFill := none }))) ∧
      (s.entry i v = none →
        ((s.engine i).faultPolicy = some .host → (s.engine i).endReason = none → (s.engine i).state ≠ .stopping →
          exec (.readClaim i) s = .next
            (((taken.setPort p { s.port p with gateOpen := true }).setEngine i
              { s.engine i with
                state := .waitFault, currentPage := none, position := ⟨v, 0⟩, faultRecord := some ⟨v, .absent⟩
                lookFill := none, due := .none
                counters := { (s.engine i).counters with
                  faultsTaken :=
                    BitVec.ofNat 32 (min ((s.engine i).counters.faultsTaken.toNat + 1) 0xFFFFFFFF) } }).post (some i)
              (.fault v .absent))) ∧
        ∀ d, (s.engine i).faultPolicy = some .skip → (s.engine i).activeDescriptor = some d →
          let last := v.val + 1 = d.first.val + d.count
          d.mode = .loop ∨ ¬ last → (s.engine i).pagesToGo = none →
          exec (.readClaim i) s = .next
            (taken.setEngine i
              { s.engine i with
                position := ⟨if last then d.first else v + 1, 0⟩, due := .enter
                counters := { (s.engine i).counters with
                  pagesSkipped :=
                    BitVec.ofNat 32 (min ((s.engine i).counters.pagesSkipped.toNat + 1) 0xFFFFFFFF) } }))) ∧
    (s.heldInReset = none → s.claimOf i = none → (s.engine i).restart = .none →
      (s.engine i).due = .enter ∨ (s.engine i).due = .entering →
      let u := (s.engine i).position.vpage
      (cacheLookup (s.engine i).cache u = none →
        exec (.readClaim i) s = .next
          ((s.setEngine i
            { s.engine i with
              due := .none, lookFill := none
              counters := { (s.engine i).counters with
                cacheMisses := (s.engine i).counters.cacheMisses + 1 } }).sendClaim (.engine i (.read u)))) ∧
      ∀ entry, cacheLookup (s.engine i).cache u = some entry → (s.engine i).position.offset = 0 →
        let entered : Engine :=
          { s.engine i with
            cache := cacheTouch (s.engine i).cache entry.rank, currentPage := some ⟨u, entry.frame⟩
            counters := { (s.engine i).counters with cacheHits := (s.engine i).counters.cacheHits + 1 } }
        (0 < (s.frame entry.frame).fill →
          exec (.readClaim i) s = .next
            (s.setEngine i
              { entered with
                state := .running, lookFill := some (s.frame entry.frame).fill, due := .none })) ∧
        ((s.frame entry.frame).fill = 0 → (s.frame entry.frame).isSealed = true →
          exec (.readClaim i) s = .next
            (s.setEngine i { entered with state := .running, lookFill := none, due := .leave })) ∧
        ((s.frame entry.frame).fill = 0 → (s.frame entry.frame).isSealed = false →
          exec (.readClaim i) s = .next
            (s.setEngine i { entered with state := .waitData, lookFill := none, due := .none }))) ∧
    ((s.engine i).due = .entering → s.claimOf i = none →
      exec (.pause i) s = .next s ∧ exec (.stop i) s = .next s ∧ exec (.abort i) s = .next s ∧
        exec (.queryStream i) s = .next s ∧ exec (.waitDataSignal i) s = .next s)

/-- R8, R11, R46, R117, R118: a release claim on a held frame of refcount 1 is set aside, and the page stops being
current. Any other is taken: the cache entry is dropped, the map entry is made absent and the frame loses a reference,
and at 0 with no waiter it is FREE at the tail of the queue, with the re-arm check. The stream then has no current page
and goes to the next page of its segment, which it looks up in a step of its own (the model's choice, log entry 8).
R15, R102, R105: with a stream that waits, a frame brought to 0 is handed off to it within the claim: reset, with the
waiter as its writer, named by the waiter's entry, and never placed in the queue; the waiter goes on in RUNNING.
R15, R111: a waiter whose page names a frame under host hold leaves the list with its claim set aside, and the frame is
then offered as if it had not stood in the list. -/
def Obligations.ReleaseClaimGivesThePageUp : Prop :=
  ∀ (s : State) (i : StreamId) (v : VPage) (f : FrameId) (access : Access) (rest : List Claim) (d : Descriptor),
    s.ClaimNext i (.release v) rest → s.entry i v = some ⟨f, access⟩ → (s.engine i).activeDescriptor = some d →
    let taken : State := { s with mapUnit := { s.mapUnit with claims := rest } }
    ((s.frame f).hostHold = true → (s.frame f).refcount = 1 →
      exec (.releaseClaim i) s = .next
        ((taken.setDeferred (s.mapUnit.deferred ++ [⟨i, .release v⟩])).setEngine i
          { s.engine i with currentPage := none })) ∧
    (∀ w u g held others, (s.frame f).hostHold = false → (s.frame f).refcount = 1 →
      s.mapUnit.waiters = w :: others → w ≠ i → (s.engine w).restart = .none → (s.engine w).state = .waitFault →
      (s.engine w).faultRecord = some ⟨u, .poolEmpty⟩ → s.entry w u = some ⟨g, held⟩ →
      (s.frame g).hostHold = true →
      exec (.releaseClaim i) s =
        exec (.releaseClaim i) ((s.setWaiters others).setDeferred (s.mapUnit.deferred ++ [⟨w, .write u⟩]))) ∧
    (v.val + 1 ≠ d.first.val + d.count → (s.engine i).pagesToGo = none →
      let left (t : State) : State :=
        t.setEngine i
          { s.engine i with
            cache := cacheDrop (s.engine i).cache v 1, currentPage := none, position := ⟨v + 1, 0⟩, due := .entering
            lookFill := none }
      (∀ n, (s.frame f).refcount = n + 2 →
        exec (.releaseClaim i) s = .next
          (left ((taken.setEntry i v none).setFrame f { s.frame f with refcount := n + 1 }))) ∧
      ((s.frame f).hostHold = false → (s.frame f).refcount = 1 → s.mapUnit.waiters = [] →
        let queue := s.mapUnit.freeQueue ++ [f]
        exec (.releaseClaim i) s = .next
          (left
            ((((taken.setEntry i v none).setFrame f
              { s.frame f with refcount := 0, state := .free, writer := none }).setFreeQueue queue).setLowArmed
              (s.mapUnit.lowArmed || s.mapUnit.lowMark ≤ queue.length)))) ∧
      ∀ w u others, (s.frame f).hostHold = false → (s.frame f).refcount = 1 → s.mapUnit.waiters = w :: others →
        w ≠ i → (s.engine w).restart = .none → (s.engine w).state = .waitFault → (s.engine w).endReason = none →
        (s.engine w).faultRecord = some ⟨u, .poolEmpty⟩ → (s.engine w).faultPolicy = some .allocate →
        s.entry w u = none →
        ∃ t, exec (.releaseClaim i) s = .next t ∧ t.entry i v = none ∧ t.entry w u = some ⟨f, .readWrite⟩ ∧
          t.frame f =
            { s.frame f with
              state := .bound, refcount := 1, fill := 0, isSealed := false
              generation := (s.frame f).generation + 1, writer := some w } ∧
          t.mapUnit.waiters = others ∧ t.mapUnit.claims = rest ∧ t.mapUnit.freeQueue = s.mapUnit.freeQueue ∧
          t.mapUnit.lowArmed = s.mapUnit.lowArmed ∧ t.link = s.link ∧
          t.engine w =
            { s.engine w with
              state := .running, currentPage := some ⟨u, f⟩, position := ⟨u, 0⟩, faultRecord := none
              cache := cacheInstall (s.engine w).cache u f .readWrite } ∧
          t.engine i = (left s).engine i)

/-- R115, R116, R117: a stream in WAIT_DATA takes a signal of its current frame and evaluates its page: with the fill
raised it goes on in RUNNING, with the fill as it was it waits again, and with the frame sealed it leaves the page,
which is counted: under RELEASE by a release claim, and under KEEP at once, for the next page of the segment, the first
one after the last of a LOOP (R75). That the stream then holds no current page until it has looked that page up in a
step of its own is the model's choice against the 'at once' of R117 (log entry 8). A signal that finds the stream in
another state, or on another frame, has no effect. -/
def Obligations.SignalWakesTheReader : Prop :=
  ∀ (s : State) (i : StreamId) (f : FrameId) (others : List FrameId), s.engineFree i = true →
    (s.engine i).signals = f :: others →
    let heard : Engine := { s.engine i with signals := others }
    ((s.engine i).state ≠ .waitData ∨ (∀ v, (s.engine i).currentPage ≠ some ⟨v, f⟩) →
      exec (.waitDataSignal i) s = .next (s.setEngine i heard)) ∧
    ∀ v, (s.engine i).state = .waitData → (s.engine i).currentPage = some ⟨v, f⟩ →
      ((s.engine i).position.offset < (s.frame f).fill →
        exec (.waitDataSignal i) s = .next
          (s.setEngine i
            { heard with state := .running, lookFill := some (s.frame f).fill, due := .none })) ∧
      ((s.frame f).fill ≤ (s.engine i).position.offset → (s.frame f).isSealed = false →
        exec (.waitDataSignal i) s = .next (s.setEngine i { heard with lookFill := none, due := .none })) ∧
      ((s.frame f).fill ≤ (s.engine i).position.offset → (s.frame f).isSealed = true →
        (s.engine i).pagesToGo = none →
        let left : Engine :=
          { heard with
            state := .running, lookFill := none, due := .none
            counters := { (s.engine i).counters with pagesCompleted := (s.engine i).counters.pagesCompleted + 1 }
            activationPages := BitVec.ofNat 32 (min ((s.engine i).activationPages.toNat + 1) 0xFFFFFFFF) }
        ((s.engine i).releasePolicy = some .release →
          exec (.waitDataSignal i) s = .next ((s.setEngine i left).sendClaim (.engine i (.release v)))) ∧
        ∀ d, (s.engine i).releasePolicy = some .keep → (s.engine i).activeDescriptor = some d →
          let last := v.val + 1 = d.first.val + d.count
          d.mode = .loop ∨ ¬ last →
          exec (.waitDataSignal i) s = .next
            (s.setEngine i
              { left with
                currentPage := none, position := ⟨if last then d.first else v + 1, 0⟩, due := .entering }))

/-- R78 to R82 for a replay stream, with R115 to R118 and R120: the leave of the last page of a ONCE segment and the
pass-over of it complete the segment, with SEGMENT_DONE carrying the pages completed. Under KEEP the leave is found
after a burst completion, at a signal, at RESUME, or after the page entry (in a step of its own: the model's choice, log
entry 8); under RELEASE it completes the segment with its release claim, whose frame stays with its other maps, goes to
the tail of the queue, or is handed off to the oldest waiter (R11, R15). With link yes and the other slot armed the
stream chains: the slot is emptied, the activation begins anew, the state, the gate and the FIFO stay, and the first
page is looked up next (as a step of its own: the model's choice, log entry 8). Otherwise it ends COMPLETED, or STARVED
with link yes: in STOPPING with the gate open and the slot still armed while words are left, and else DONE at once with
the slot emptied and STREAM_END posted. -/
def Obligations.ReplaySegmentEndsOrChains : Prop :=
  ∀ (s : State) (i : StreamId) (p : PortId) (v : VPage) (d : Descriptor) (name : SlotName),
    (s.engine i).direction = some .replay → (s.engine i).port = some p → (s.engine i).activeSlot = some name →
    (s.engine i).slot name = some d → d.mode = .once → v.val + 1 = d.first.val + d.count →
    let completed (t : State) (e : Engine) : State :=
      let posted := t.post (some i) (.segmentDone name e.activationPages)
      let ending (reason : EndReason) (state : StreamState) : Engine :=
        { e with
          state := state, endReason := some reason, position := ⟨v, 0⟩, currentPage := none, pagesToGo := none
          lookFill := none, due := .none }
      let ended (reason : EndReason) : State :=
        if (t.port p).fifo = [] then
          ((posted.setPort p { t.port p with gateOpen := false }).setEngine i
            { (ending reason .done).setSlot name none with activeSlot := none, faultRecord := none }).post (some i)
            (.streamEnd reason ⟨v, 0⟩ none)
        else posted.setEngine i (ending reason .stopping)
      if d.link = false then ended .completed
      else
        match (s.engine i).slot (otherSlot name) with
        | none => ended .starved
        | some other =>
          posted.setEngine i
            { e.setSlot name none with
              activeSlot := some (otherSlot name), position := ⟨other.first, 0⟩, pagesToGo := none
              triggerRecord := none, activationPages := 0, lookFill := none, due := .entering }
    let counted (e : Engine) : Engine :=
      { e with
        state := .running, currentPage := none
        counters := { e.counters with pagesCompleted := e.counters.pagesCompleted + 1 }
        activationPages := BitVec.ofNat 32 (min (e.activationPages.toNat + 1) 0xFFFFFFFF) }
    (∀ f, (s.engine i).currentPage = some ⟨v, f⟩ → (s.engine i).releasePolicy = some .keep →
      (s.frame f).isSealed = true →
      (s.heldInReset = none → s.claimOf i = none → (s.engine i).restart = .none → (s.engine i).due = .leave →
        (s.frame f).fill ≤ (s.engine i).position.offset →
        exec (.readClaim i) s = .next (completed s (counted (s.engine i)))) ∧
      (∀ b, s.heldInReset = none → s.arbiter.inFlight = some b → b.requester = requesterOf i → b.isWrite = false →
        (s.engine i).restart = .none → (s.engine i).state = .running →
        (s.frame f).fill ≤ (s.engine i).position.offset + b.length →
        let words := bytesWords (s.storeBytes b.frame b.offset b.length)
        exec (.replayBurstComplete i) s = .next
          (completed (s.endBurst.setPort p { s.port p with fifo := (s.port p).fifo ++ words })
            (counted
              { s.engine i with
                counters := { (s.engine i).counters with
                  bytesMoved := (s.engine i).counters.bytesMoved + BitVec.ofNat 32 b.length } }))) ∧
      (∀ others, s.engineFree i = true → (s.engine i).signals = f :: others → (s.engine i).state = .waitData →
        (s.frame f).fill ≤ (s.engine i).position.offset →
        exec (.waitDataSignal i) s = .next (completed s (counted { s.engine i with signals := others }))) ∧
      ∀ m rest, s.AtEngine i (.resume i) m rest → (s.engine i).state = .paused →
        (s.frame f).fill ≤ (s.engine i).position.offset →
        exec (.resume i) s = .next
          ((completed (s.setPort p { s.port p with gateOpen := true }) (counted (s.engine i))).answered m rest
            [0x00])) ∧
    (∀ f access rest, s.ClaimNext i (.release v) rest → s.entry i v = some ⟨f, access⟩ →
      let released (r : FrameRecord) : State := (s.claimTaken.setEntry i v none).setFrame f r
      let gone : Engine :=
        { s.engine i with cache := cacheDrop (s.engine i).cache v 1, currentPage := none }
      (∀ n, (s.frame f).refcount = n + 2 →
        exec (.releaseClaim i) s = .next
          (completed (released { s.frame f with refcount := n + 1 }) gone)) ∧
      ((s.frame f).hostHold = false → (s.frame f).refcount = 1 →
        (s.mapUnit.waiters = [] →
          let queue := s.mapUnit.freeQueue ++ [f]
          exec (.releaseClaim i) s = .next
            (completed
              (((released { s.frame f with refcount := 0, state := .free, writer := none }).setFreeQueue
                queue).setLowArmed (s.mapUnit.lowArmed || s.mapUnit.lowMark ≤ queue.length)) gone)) ∧
        ∀ w u others q, s.mapUnit.waiters = w :: others → w ≠ i → (s.engine w).restart = .none →
          (s.engine w).state = .waitFault → (s.engine w).endReason = none →
          (s.engine w).faultRecord = some ⟨u, .poolEmpty⟩ → (s.engine w).faultPolicy = some .allocate →
          s.entry w u = none → (s.engine w).port = some q →
          exec (.releaseClaim i) s = .next
            (completed
              (((((released
                { s.frame f with
                  state := .bound, refcount := 1, fill := 0, isSealed := false
                  generation := (s.frame f).generation + 1, writer := some w }).setWaiters others).setEntry w u
                (some ⟨f, .readWrite⟩)).setPort q { s.port q with gateOpen := true }).setEngine w
                { s.engine w with
                  state := .running, cache := cacheInstall (s.engine w).cache u f .readWrite
                  currentPage := some ⟨u, f⟩, position := ⟨u, 0⟩, faultRecord := none })
              gone))) ∧
    ∀ rest, s.ClaimNext i (.read v) rest → s.entry i v = none → (s.engine i).faultPolicy = some .skip →
      exec (.readClaim i) s = .next
        (completed s.claimTaken
          { s.engine i with
            counters := { (s.engine i).counters with
              pagesSkipped :=
                BitVec.ofNat 32 (min ((s.engine i).counters.pagesSkipped.toNat + 1) 0xFFFFFFFF) } })

end Statements
end

