-- ==== Sys2Proof/Laws/State.lean ====
section
/-! SUPPORT. One lemma per field per update of the state, so that no later proof unfolds a record update; and what
reading gives after a write of an engine, a port, a frame record or a map entry. -/

namespace Sys2Proof.Laws

open Sys2Proof.Machine

variable (s : State)

/-! ### setEngine -/

@[simp] theorem setEngine_mapUnit (i : StreamId) (e : Engine) :
    (s.setEngine i e).mapUnit = s.mapUnit := rfl

@[simp] theorem setEngine_engines (i : StreamId) (e : Engine) :
    (s.setEngine i e).engines = s.engines.set i e := rfl

@[simp] theorem setEngine_ports (i : StreamId) (e : Engine) :
    (s.setEngine i e).ports = s.ports := rfl

@[simp] theorem setEngine_arbiter (i : StreamId) (e : Engine) :
    (s.setEngine i e).arbiter = s.arbiter := rfl

@[simp] theorem setEngine_store (i : StreamId) (e : Engine) :
    (s.setEngine i e).store = s.store := rfl

@[simp] theorem setEngine_command (i : StreamId) (e : Engine) :
    (s.setEngine i e).command = s.command := rfl

@[simp] theorem setEngine_link (i : StreamId) (e : Engine) :
    (s.setEngine i e).link = s.link := rfl

@[simp] theorem setEngine_heldInReset (i : StreamId) (e : Engine) :
    (s.setEngine i e).heldInReset = s.heldInReset := rfl

@[simp] theorem setEngine_powerOns (i : StreamId) (e : Engine) :
    (s.setEngine i e).powerOns = s.powerOns := rfl

@[simp] theorem setEngine_pending (i : StreamId) (e : Engine) :
    (s.setEngine i e).pending = s.pending := rfl

/-! ### setPort -/

@[simp] theorem setPort_mapUnit (p : PortId) (x : Port) :
    (s.setPort p x).mapUnit = s.mapUnit := rfl

@[simp] theorem setPort_engines (p : PortId) (x : Port) :
    (s.setPort p x).engines = s.engines := rfl

@[simp] theorem setPort_ports (p : PortId) (x : Port) :
    (s.setPort p x).ports = s.ports.set p x := rfl

@[simp] theorem setPort_arbiter (p : PortId) (x : Port) :
    (s.setPort p x).arbiter = s.arbiter := rfl

@[simp] theorem setPort_store (p : PortId) (x : Port) :
    (s.setPort p x).store = s.store := rfl

@[simp] theorem setPort_command (p : PortId) (x : Port) :
    (s.setPort p x).command = s.command := rfl

@[simp] theorem setPort_link (p : PortId) (x : Port) :
    (s.setPort p x).link = s.link := rfl

@[simp] theorem setPort_heldInReset (p : PortId) (x : Port) :
    (s.setPort p x).heldInReset = s.heldInReset := rfl

@[simp] theorem setPort_powerOns (p : PortId) (x : Port) :
    (s.setPort p x).powerOns = s.powerOns := rfl

@[simp] theorem setPort_pending (p : PortId) (x : Port) :
    (s.setPort p x).pending = s.pending := rfl

/-! ### setMapUnit -/

@[simp] theorem setMapUnit_mapUnit (m : MapUnit) :
    (s.setMapUnit m).mapUnit = m := rfl

@[simp] theorem setMapUnit_engines (m : MapUnit) :
    (s.setMapUnit m).engines = s.engines := rfl

@[simp] theorem setMapUnit_ports (m : MapUnit) :
    (s.setMapUnit m).ports = s.ports := rfl

@[simp] theorem setMapUnit_arbiter (m : MapUnit) :
    (s.setMapUnit m).arbiter = s.arbiter := rfl

@[simp] theorem setMapUnit_store (m : MapUnit) :
    (s.setMapUnit m).store = s.store := rfl

@[simp] theorem setMapUnit_command (m : MapUnit) :
    (s.setMapUnit m).command = s.command := rfl

@[simp] theorem setMapUnit_link (m : MapUnit) :
    (s.setMapUnit m).link = s.link := rfl

@[simp] theorem setMapUnit_heldInReset (m : MapUnit) :
    (s.setMapUnit m).heldInReset = s.heldInReset := rfl

@[simp] theorem setMapUnit_powerOns (m : MapUnit) :
    (s.setMapUnit m).powerOns = s.powerOns := rfl

@[simp] theorem setMapUnit_pending (m : MapUnit) :
    (s.setMapUnit m).pending = s.pending := rfl

/-! ### setArbiter -/

@[simp] theorem setArbiter_mapUnit (a : Arbiter) :
    (s.setArbiter a).mapUnit = s.mapUnit := rfl

@[simp] theorem setArbiter_engines (a : Arbiter) :
    (s.setArbiter a).engines = s.engines := rfl

@[simp] theorem setArbiter_ports (a : Arbiter) :
    (s.setArbiter a).ports = s.ports := rfl

@[simp] theorem setArbiter_arbiter (a : Arbiter) :
    (s.setArbiter a).arbiter = a := rfl

@[simp] theorem setArbiter_store (a : Arbiter) :
    (s.setArbiter a).store = s.store := rfl

@[simp] theorem setArbiter_command (a : Arbiter) :
    (s.setArbiter a).command = s.command := rfl

@[simp] theorem setArbiter_link (a : Arbiter) :
    (s.setArbiter a).link = s.link := rfl

@[simp] theorem setArbiter_heldInReset (a : Arbiter) :
    (s.setArbiter a).heldInReset = s.heldInReset := rfl

@[simp] theorem setArbiter_powerOns (a : Arbiter) :
    (s.setArbiter a).powerOns = s.powerOns := rfl

@[simp] theorem setArbiter_pending (a : Arbiter) :
    (s.setArbiter a).pending = s.pending := rfl

/-! ### setStore -/

@[simp] theorem setStore_mapUnit (m : Memory) :
    (s.setStore m).mapUnit = s.mapUnit := rfl

@[simp] theorem setStore_engines (m : Memory) :
    (s.setStore m).engines = s.engines := rfl

@[simp] theorem setStore_ports (m : Memory) :
    (s.setStore m).ports = s.ports := rfl

@[simp] theorem setStore_arbiter (m : Memory) :
    (s.setStore m).arbiter = s.arbiter := rfl

@[simp] theorem setStore_store (m : Memory) :
    (s.setStore m).store = m := rfl

@[simp] theorem setStore_command (m : Memory) :
    (s.setStore m).command = s.command := rfl

@[simp] theorem setStore_link (m : Memory) :
    (s.setStore m).link = s.link := rfl

@[simp] theorem setStore_heldInReset (m : Memory) :
    (s.setStore m).heldInReset = s.heldInReset := rfl

@[simp] theorem setStore_powerOns (m : Memory) :
    (s.setStore m).powerOns = s.powerOns := rfl

@[simp] theorem setStore_pending (m : Memory) :
    (s.setStore m).pending = s.pending := rfl

/-! ### setCommand -/

@[simp] theorem setCommand_mapUnit (c : CommandUnit) :
    (s.setCommand c).mapUnit = s.mapUnit := rfl

@[simp] theorem setCommand_engines (c : CommandUnit) :
    (s.setCommand c).engines = s.engines := rfl

@[simp] theorem setCommand_ports (c : CommandUnit) :
    (s.setCommand c).ports = s.ports := rfl

@[simp] theorem setCommand_arbiter (c : CommandUnit) :
    (s.setCommand c).arbiter = s.arbiter := rfl

@[simp] theorem setCommand_store (c : CommandUnit) :
    (s.setCommand c).store = s.store := rfl

@[simp] theorem setCommand_command (c : CommandUnit) :
    (s.setCommand c).command = c := rfl

@[simp] theorem setCommand_link (c : CommandUnit) :
    (s.setCommand c).link = s.link := rfl

@[simp] theorem setCommand_heldInReset (c : CommandUnit) :
    (s.setCommand c).heldInReset = s.heldInReset := rfl

@[simp] theorem setCommand_powerOns (c : CommandUnit) :
    (s.setCommand c).powerOns = s.powerOns := rfl

@[simp] theorem setCommand_pending (c : CommandUnit) :
    (s.setCommand c).pending = s.pending := rfl

/-! ### setLink -/

@[simp] theorem setLink_mapUnit (l : Link) :
    (s.setLink l).mapUnit = s.mapUnit := rfl

@[simp] theorem setLink_engines (l : Link) :
    (s.setLink l).engines = s.engines := rfl

@[simp] theorem setLink_ports (l : Link) :
    (s.setLink l).ports = s.ports := rfl

@[simp] theorem setLink_arbiter (l : Link) :
    (s.setLink l).arbiter = s.arbiter := rfl

@[simp] theorem setLink_store (l : Link) :
    (s.setLink l).store = s.store := rfl

@[simp] theorem setLink_command (l : Link) :
    (s.setLink l).command = s.command := rfl

@[simp] theorem setLink_link (l : Link) :
    (s.setLink l).link = l := rfl

@[simp] theorem setLink_heldInReset (l : Link) :
    (s.setLink l).heldInReset = s.heldInReset := rfl

@[simp] theorem setLink_powerOns (l : Link) :
    (s.setLink l).powerOns = s.powerOns := rfl

@[simp] theorem setLink_pending (l : Link) :
    (s.setLink l).pending = s.pending := rfl

/-! ### setFrame -/

@[simp] theorem setFrame_mapUnit (f : FrameId) (r : FrameRecord) :
    (s.setFrame f r).mapUnit = { s.mapUnit with frames := s.mapUnit.frames.set f r } := rfl

@[simp] theorem setFrame_engines (f : FrameId) (r : FrameRecord) :
    (s.setFrame f r).engines = s.engines := rfl

@[simp] theorem setFrame_ports (f : FrameId) (r : FrameRecord) :
    (s.setFrame f r).ports = s.ports := rfl

@[simp] theorem setFrame_arbiter (f : FrameId) (r : FrameRecord) :
    (s.setFrame f r).arbiter = s.arbiter := rfl

@[simp] theorem setFrame_store (f : FrameId) (r : FrameRecord) :
    (s.setFrame f r).store = s.store := rfl

@[simp] theorem setFrame_command (f : FrameId) (r : FrameRecord) :
    (s.setFrame f r).command = s.command := rfl

@[simp] theorem setFrame_link (f : FrameId) (r : FrameRecord) :
    (s.setFrame f r).link = s.link := rfl

@[simp] theorem setFrame_heldInReset (f : FrameId) (r : FrameRecord) :
    (s.setFrame f r).heldInReset = s.heldInReset := rfl

@[simp] theorem setFrame_powerOns (f : FrameId) (r : FrameRecord) :
    (s.setFrame f r).powerOns = s.powerOns := rfl

@[simp] theorem setFrame_pending (f : FrameId) (r : FrameRecord) :
    (s.setFrame f r).pending = s.pending := rfl

/-! ### setEntry -/

@[simp] theorem setEntry_mapUnit (i : StreamId) (v : VPage) (e : Option MapEntry) :
    (s.setEntry i v e).mapUnit = { s.mapUnit with maps := s.mapUnit.maps.set i ((s.mapUnit.maps[i]).set v e) } := rfl

@[simp] theorem setEntry_engines (i : StreamId) (v : VPage) (e : Option MapEntry) :
    (s.setEntry i v e).engines = s.engines := rfl

@[simp] theorem setEntry_ports (i : StreamId) (v : VPage) (e : Option MapEntry) :
    (s.setEntry i v e).ports = s.ports := rfl

@[simp] theorem setEntry_arbiter (i : StreamId) (v : VPage) (e : Option MapEntry) :
    (s.setEntry i v e).arbiter = s.arbiter := rfl

@[simp] theorem setEntry_store (i : StreamId) (v : VPage) (e : Option MapEntry) :
    (s.setEntry i v e).store = s.store := rfl

@[simp] theorem setEntry_command (i : StreamId) (v : VPage) (e : Option MapEntry) :
    (s.setEntry i v e).command = s.command := rfl

@[simp] theorem setEntry_link (i : StreamId) (v : VPage) (e : Option MapEntry) :
    (s.setEntry i v e).link = s.link := rfl

@[simp] theorem setEntry_heldInReset (i : StreamId) (v : VPage) (e : Option MapEntry) :
    (s.setEntry i v e).heldInReset = s.heldInReset := rfl

@[simp] theorem setEntry_powerOns (i : StreamId) (v : VPage) (e : Option MapEntry) :
    (s.setEntry i v e).powerOns = s.powerOns := rfl

@[simp] theorem setEntry_pending (i : StreamId) (v : VPage) (e : Option MapEntry) :
    (s.setEntry i v e).pending = s.pending := rfl

/-! ### setFreeQueue -/

@[simp] theorem setFreeQueue_mapUnit (q : List FrameId) :
    (s.setFreeQueue q).mapUnit = { s.mapUnit with freeQueue := q } := rfl

@[simp] theorem setFreeQueue_engines (q : List FrameId) :
    (s.setFreeQueue q).engines = s.engines := rfl

@[simp] theorem setFreeQueue_ports (q : List FrameId) :
    (s.setFreeQueue q).ports = s.ports := rfl

@[simp] theorem setFreeQueue_arbiter (q : List FrameId) :
    (s.setFreeQueue q).arbiter = s.arbiter := rfl

@[simp] theorem setFreeQueue_store (q : List FrameId) :
    (s.setFreeQueue q).store = s.store := rfl

@[simp] theorem setFreeQueue_command (q : List FrameId) :
    (s.setFreeQueue q).command = s.command := rfl

@[simp] theorem setFreeQueue_link (q : List FrameId) :
    (s.setFreeQueue q).link = s.link := rfl

@[simp] theorem setFreeQueue_heldInReset (q : List FrameId) :
    (s.setFreeQueue q).heldInReset = s.heldInReset := rfl

@[simp] theorem setFreeQueue_powerOns (q : List FrameId) :
    (s.setFreeQueue q).powerOns = s.powerOns := rfl

@[simp] theorem setFreeQueue_pending (q : List FrameId) :
    (s.setFreeQueue q).pending = s.pending := rfl

/-! ### setWaiters -/

@[simp] theorem setWaiters_mapUnit (ws : List StreamId) :
    (s.setWaiters ws).mapUnit = { s.mapUnit with waiters := ws } := rfl

@[simp] theorem setWaiters_engines (ws : List StreamId) :
    (s.setWaiters ws).engines = s.engines := rfl

@[simp] theorem setWaiters_ports (ws : List StreamId) :
    (s.setWaiters ws).ports = s.ports := rfl

@[simp] theorem setWaiters_arbiter (ws : List StreamId) :
    (s.setWaiters ws).arbiter = s.arbiter := rfl

@[simp] theorem setWaiters_store (ws : List StreamId) :
    (s.setWaiters ws).store = s.store := rfl

@[simp] theorem setWaiters_command (ws : List StreamId) :
    (s.setWaiters ws).command = s.command := rfl

@[simp] theorem setWaiters_link (ws : List StreamId) :
    (s.setWaiters ws).link = s.link := rfl

@[simp] theorem setWaiters_heldInReset (ws : List StreamId) :
    (s.setWaiters ws).heldInReset = s.heldInReset := rfl

@[simp] theorem setWaiters_powerOns (ws : List StreamId) :
    (s.setWaiters ws).powerOns = s.powerOns := rfl

@[simp] theorem setWaiters_pending (ws : List StreamId) :
    (s.setWaiters ws).pending = s.pending := rfl

/-! ### setDeferred -/

@[simp] theorem setDeferred_mapUnit (ds : List DeferredClaim) :
    (s.setDeferred ds).mapUnit = { s.mapUnit with deferred := ds } := rfl

@[simp] theorem setDeferred_engines (ds : List DeferredClaim) :
    (s.setDeferred ds).engines = s.engines := rfl

@[simp] theorem setDeferred_ports (ds : List DeferredClaim) :
    (s.setDeferred ds).ports = s.ports := rfl

@[simp] theorem setDeferred_arbiter (ds : List DeferredClaim) :
    (s.setDeferred ds).arbiter = s.arbiter := rfl

@[simp] theorem setDeferred_store (ds : List DeferredClaim) :
    (s.setDeferred ds).store = s.store := rfl

@[simp] theorem setDeferred_command (ds : List DeferredClaim) :
    (s.setDeferred ds).command = s.command := rfl

@[simp] theorem setDeferred_link (ds : List DeferredClaim) :
    (s.setDeferred ds).link = s.link := rfl

@[simp] theorem setDeferred_heldInReset (ds : List DeferredClaim) :
    (s.setDeferred ds).heldInReset = s.heldInReset := rfl

@[simp] theorem setDeferred_powerOns (ds : List DeferredClaim) :
    (s.setDeferred ds).powerOns = s.powerOns := rfl

@[simp] theorem setDeferred_pending (ds : List DeferredClaim) :
    (s.setDeferred ds).pending = s.pending := rfl

/-! ### setClaims -/

@[simp] theorem setClaims_mapUnit (cs : List Claim) :
    (s.setClaims cs).mapUnit = { s.mapUnit with claims := cs } := rfl

@[simp] theorem setClaims_engines (cs : List Claim) :
    (s.setClaims cs).engines = s.engines := rfl

@[simp] theorem setClaims_ports (cs : List Claim) :
    (s.setClaims cs).ports = s.ports := rfl

@[simp] theorem setClaims_arbiter (cs : List Claim) :
    (s.setClaims cs).arbiter = s.arbiter := rfl

@[simp] theorem setClaims_store (cs : List Claim) :
    (s.setClaims cs).store = s.store := rfl

@[simp] theorem setClaims_command (cs : List Claim) :
    (s.setClaims cs).command = s.command := rfl

@[simp] theorem setClaims_link (cs : List Claim) :
    (s.setClaims cs).link = s.link := rfl

@[simp] theorem setClaims_heldInReset (cs : List Claim) :
    (s.setClaims cs).heldInReset = s.heldInReset := rfl

@[simp] theorem setClaims_powerOns (cs : List Claim) :
    (s.setClaims cs).powerOns = s.powerOns := rfl

@[simp] theorem setClaims_pending (cs : List Claim) :
    (s.setClaims cs).pending = s.pending := rfl

/-! ### setLowArmed -/

@[simp] theorem setLowArmed_mapUnit (armed : Bool) :
    (s.setLowArmed armed).mapUnit = { s.mapUnit with lowArmed := armed } := rfl

@[simp] theorem setLowArmed_engines (armed : Bool) :
    (s.setLowArmed armed).engines = s.engines := rfl

@[simp] theorem setLowArmed_ports (armed : Bool) :
    (s.setLowArmed armed).ports = s.ports := rfl

@[simp] theorem setLowArmed_arbiter (armed : Bool) :
    (s.setLowArmed armed).arbiter = s.arbiter := rfl

@[simp] theorem setLowArmed_store (armed : Bool) :
    (s.setLowArmed armed).store = s.store := rfl

@[simp] theorem setLowArmed_command (armed : Bool) :
    (s.setLowArmed armed).command = s.command := rfl

@[simp] theorem setLowArmed_link (armed : Bool) :
    (s.setLowArmed armed).link = s.link := rfl

@[simp] theorem setLowArmed_heldInReset (armed : Bool) :
    (s.setLowArmed armed).heldInReset = s.heldInReset := rfl

@[simp] theorem setLowArmed_powerOns (armed : Bool) :
    (s.setLowArmed armed).powerOns = s.powerOns := rfl

@[simp] theorem setLowArmed_pending (armed : Bool) :
    (s.setLowArmed armed).pending = s.pending := rfl

/-! ### modEngine -/

@[simp] theorem modEngine_mapUnit (i : StreamId) (g : Engine → Engine) :
    (s.modEngine i g).mapUnit = s.mapUnit := rfl

@[simp] theorem modEngine_engines (i : StreamId) (g : Engine → Engine) :
    (s.modEngine i g).engines = s.engines.set i (g (s.engine i)) := rfl

@[simp] theorem modEngine_ports (i : StreamId) (g : Engine → Engine) :
    (s.modEngine i g).ports = s.ports := rfl

@[simp] theorem modEngine_arbiter (i : StreamId) (g : Engine → Engine) :
    (s.modEngine i g).arbiter = s.arbiter := rfl

@[simp] theorem modEngine_store (i : StreamId) (g : Engine → Engine) :
    (s.modEngine i g).store = s.store := rfl

@[simp] theorem modEngine_command (i : StreamId) (g : Engine → Engine) :
    (s.modEngine i g).command = s.command := rfl

@[simp] theorem modEngine_link (i : StreamId) (g : Engine → Engine) :
    (s.modEngine i g).link = s.link := rfl

@[simp] theorem modEngine_heldInReset (i : StreamId) (g : Engine → Engine) :
    (s.modEngine i g).heldInReset = s.heldInReset := rfl

@[simp] theorem modEngine_powerOns (i : StreamId) (g : Engine → Engine) :
    (s.modEngine i g).powerOns = s.powerOns := rfl

@[simp] theorem modEngine_pending (i : StreamId) (g : Engine → Engine) :
    (s.modEngine i g).pending = s.pending := rfl

/-! ### withdrawRequest -/

@[simp] theorem withdrawRequest_mapUnit (i : StreamId) :
    (s.withdrawRequest i).mapUnit = s.mapUnit := rfl

@[simp] theorem withdrawRequest_engines (i : StreamId) :
    (s.withdrawRequest i).engines = s.engines := rfl

@[simp] theorem withdrawRequest_ports (i : StreamId) :
    (s.withdrawRequest i).ports = s.ports := rfl

@[simp] theorem withdrawRequest_arbiter (i : StreamId) :
    (s.withdrawRequest i).arbiter = { s.arbiter with requests := s.arbiter.requests.set (requesterOf i) none } := rfl

@[simp] theorem withdrawRequest_store (i : StreamId) :
    (s.withdrawRequest i).store = s.store := rfl

@[simp] theorem withdrawRequest_command (i : StreamId) :
    (s.withdrawRequest i).command = s.command := rfl

@[simp] theorem withdrawRequest_link (i : StreamId) :
    (s.withdrawRequest i).link = s.link := rfl

@[simp] theorem withdrawRequest_heldInReset (i : StreamId) :
    (s.withdrawRequest i).heldInReset = s.heldInReset := rfl

@[simp] theorem withdrawRequest_powerOns (i : StreamId) :
    (s.withdrawRequest i).powerOns = s.powerOns := rfl

@[simp] theorem withdrawRequest_pending (i : StreamId) :
    (s.withdrawRequest i).pending = s.pending := rfl

/-! ### request -/

@[simp] theorem request_mapUnit (r : Requester) (q : BurstRequest) :
    (s.request r q).mapUnit = s.mapUnit := rfl

@[simp] theorem request_engines (r : Requester) (q : BurstRequest) :
    (s.request r q).engines = s.engines := rfl

@[simp] theorem request_ports (r : Requester) (q : BurstRequest) :
    (s.request r q).ports = s.ports := rfl

@[simp] theorem request_arbiter (r : Requester) (q : BurstRequest) :
    (s.request r q).arbiter = { s.arbiter with requests := s.arbiter.requests.set r (some q) } := rfl

@[simp] theorem request_store (r : Requester) (q : BurstRequest) :
    (s.request r q).store = s.store := rfl

@[simp] theorem request_command (r : Requester) (q : BurstRequest) :
    (s.request r q).command = s.command := rfl

@[simp] theorem request_link (r : Requester) (q : BurstRequest) :
    (s.request r q).link = s.link := rfl

@[simp] theorem request_heldInReset (r : Requester) (q : BurstRequest) :
    (s.request r q).heldInReset = s.heldInReset := rfl

@[simp] theorem request_powerOns (r : Requester) (q : BurstRequest) :
    (s.request r q).powerOns = s.powerOns := rfl

@[simp] theorem request_pending (r : Requester) (q : BurstRequest) :
    (s.request r q).pending = s.pending := rfl

/-! ### endBurst -/

@[simp] theorem endBurst_mapUnit :
    (s.endBurst).mapUnit = s.mapUnit := rfl

@[simp] theorem endBurst_engines :
    (s.endBurst).engines = s.engines := rfl

@[simp] theorem endBurst_ports :
    (s.endBurst).ports = s.ports := rfl

@[simp] theorem endBurst_arbiter :
    (s.endBurst).arbiter = { s.arbiter with inFlight := none } := rfl

@[simp] theorem endBurst_store :
    (s.endBurst).store = s.store := rfl

@[simp] theorem endBurst_command :
    (s.endBurst).command = s.command := rfl

@[simp] theorem endBurst_link :
    (s.endBurst).link = s.link := rfl

@[simp] theorem endBurst_heldInReset :
    (s.endBurst).heldInReset = s.heldInReset := rfl

@[simp] theorem endBurst_powerOns :
    (s.endBurst).powerOns = s.powerOns := rfl

@[simp] theorem endBurst_pending :
    (s.endBurst).pending = s.pending := rfl

/-! ### sendClaim -/

@[simp] theorem sendClaim_mapUnit (c : Claim) :
    (s.sendClaim c).mapUnit = { s.mapUnit with claims := s.mapUnit.claims ++ [c] } := rfl

@[simp] theorem sendClaim_engines (c : Claim) :
    (s.sendClaim c).engines = s.engines := rfl

@[simp] theorem sendClaim_ports (c : Claim) :
    (s.sendClaim c).ports = s.ports := rfl

@[simp] theorem sendClaim_arbiter (c : Claim) :
    (s.sendClaim c).arbiter = s.arbiter := rfl

@[simp] theorem sendClaim_store (c : Claim) :
    (s.sendClaim c).store = s.store := rfl

@[simp] theorem sendClaim_command (c : Claim) :
    (s.sendClaim c).command = s.command := rfl

@[simp] theorem sendClaim_link (c : Claim) :
    (s.sendClaim c).link = s.link := rfl

@[simp] theorem sendClaim_heldInReset (c : Claim) :
    (s.sendClaim c).heldInReset = s.heldInReset := rfl

@[simp] theorem sendClaim_powerOns (c : Claim) :
    (s.sendClaim c).powerOns = s.powerOns := rfl

@[simp] theorem sendClaim_pending (c : Claim) :
    (s.sendClaim c).pending = s.pending := rfl

/-! ### dropOldestClaim -/

@[simp] theorem dropOldestClaim_mapUnit :
    (s.dropOldestClaim).mapUnit = { s.mapUnit with claims := s.mapUnit.claims.tail } := rfl

@[simp] theorem dropOldestClaim_engines :
    (s.dropOldestClaim).engines = s.engines := rfl

@[simp] theorem dropOldestClaim_ports :
    (s.dropOldestClaim).ports = s.ports := rfl

@[simp] theorem dropOldestClaim_arbiter :
    (s.dropOldestClaim).arbiter = s.arbiter := rfl

@[simp] theorem dropOldestClaim_store :
    (s.dropOldestClaim).store = s.store := rfl

@[simp] theorem dropOldestClaim_command :
    (s.dropOldestClaim).command = s.command := rfl

@[simp] theorem dropOldestClaim_link :
    (s.dropOldestClaim).link = s.link := rfl

@[simp] theorem dropOldestClaim_heldInReset :
    (s.dropOldestClaim).heldInReset = s.heldInReset := rfl

@[simp] theorem dropOldestClaim_powerOns :
    (s.dropOldestClaim).powerOns = s.powerOns := rfl

@[simp] theorem dropOldestClaim_pending :
    (s.dropOldestClaim).pending = s.pending := rfl

/-! ### post -/

@[simp] theorem post_mapUnit (i : Option StreamId) (n : NoticeFields) :
    (s.post i n).mapUnit = s.mapUnit := rfl

@[simp] theorem post_engines (i : Option StreamId) (n : NoticeFields) :
    (s.post i n).engines = s.engines := rfl

@[simp] theorem post_ports (i : Option StreamId) (n : NoticeFields) :
    (s.post i n).ports = s.ports := rfl

@[simp] theorem post_arbiter (i : Option StreamId) (n : NoticeFields) :
    (s.post i n).arbiter = s.arbiter := rfl

@[simp] theorem post_store (i : Option StreamId) (n : NoticeFields) :
    (s.post i n).store = s.store := rfl

@[simp] theorem post_command (i : Option StreamId) (n : NoticeFields) :
    (s.post i n).command = s.command := rfl

@[simp] theorem post_link (i : Option StreamId) (n : NoticeFields) :
    (s.post i n).link = s.link.post i n := rfl

@[simp] theorem post_heldInReset (i : Option StreamId) (n : NoticeFields) :
    (s.post i n).heldInReset = s.heldInReset := rfl

@[simp] theorem post_powerOns (i : Option StreamId) (n : NoticeFields) :
    (s.post i n).powerOns = s.powerOns := rfl

@[simp] theorem post_pending (i : Option StreamId) (n : NoticeFields) :
    (s.post i n).pending = s.pending := rfl

/-! ### setStage -/

@[simp] theorem setStage_mapUnit (c : HostCommand) (g : CommandStage) :
    (s.setStage c g).mapUnit = s.mapUnit := rfl

@[simp] theorem setStage_engines (c : HostCommand) (g : CommandStage) :
    (s.setStage c g).engines = s.engines := rfl

@[simp] theorem setStage_ports (c : HostCommand) (g : CommandStage) :
    (s.setStage c g).ports = s.ports := rfl

@[simp] theorem setStage_arbiter (c : HostCommand) (g : CommandStage) :
    (s.setStage c g).arbiter = s.arbiter := rfl

@[simp] theorem setStage_store (c : HostCommand) (g : CommandStage) :
    (s.setStage c g).store = s.store := rfl

@[simp] theorem setStage_command (c : HostCommand) (g : CommandStage) :
    (s.setStage c g).command = { s.command with current := some ⟨c, g⟩ } := rfl

@[simp] theorem setStage_link (c : HostCommand) (g : CommandStage) :
    (s.setStage c g).link = s.link := rfl

@[simp] theorem setStage_heldInReset (c : HostCommand) (g : CommandStage) :
    (s.setStage c g).heldInReset = s.heldInReset := rfl

@[simp] theorem setStage_powerOns (c : HostCommand) (g : CommandStage) :
    (s.setStage c g).powerOns = s.powerOns := rfl

@[simp] theorem setStage_pending (c : HostCommand) (g : CommandStage) :
    (s.setStage c g).pending = s.pending := rfl

/-! ### Reading after writing -/

@[simp] theorem engine_setEngine_self (i : StreamId) (e : Engine) : (s.setEngine i e).engine i = e := by
  simp [State.engine]

theorem engine_setEngine_other (i j : StreamId) (e : Engine) (h : i ≠ j) :
    (s.setEngine i e).engine j = s.engine j := by
  have hv : i.val ≠ j.val := fun hv => h (Fin.ext hv)
  simp [State.engine, hv]

@[simp] theorem engine_modEngine_self (i : StreamId) (g : Engine → Engine) :
    (s.modEngine i g).engine i = g (s.engine i) := by
  simp [State.modEngine]

theorem engine_modEngine_other (i j : StreamId) (g : Engine → Engine) (h : i ≠ j) :
    (s.modEngine i g).engine j = s.engine j := by
  simp [State.modEngine, engine_setEngine_other, h]

@[simp] theorem port_setPort_self (p : PortId) (x : Port) : (s.setPort p x).port p = x := by
  simp [State.port]

theorem port_setPort_other (p q : PortId) (x : Port) (h : p ≠ q) : (s.setPort p x).port q = s.port q := by
  have hv : p.val ≠ q.val := fun hv => h (Fin.ext hv)
  simp [State.port, hv]

@[simp] theorem frame_setFrame_self (f : FrameId) (r : FrameRecord) : (s.setFrame f r).frame f = r := by
  simp [State.frame]

theorem frame_setFrame_other (f g : FrameId) (r : FrameRecord) (h : f ≠ g) :
    (s.setFrame f r).frame g = s.frame g := by
  have hv : f.val ≠ g.val := fun hv => h (Fin.ext hv)
  simp [State.frame, hv]

@[simp] theorem entry_setEntry_self (i : StreamId) (v : VPage) (e : Option MapEntry) :
    (s.setEntry i v e).entry i v = e := by
  simp [State.entry]

theorem entry_setEntry_other_page (i : StreamId) (v w : VPage) (e : Option MapEntry) (h : v ≠ w) :
    (s.setEntry i v e).entry i w = s.entry i w := by
  have hv : v.val ≠ w.val := fun hv => h (Fin.ext hv)
  simp [State.entry, hv]

theorem entry_setEntry_other_stream (i j : StreamId) (v w : VPage) (e : Option MapEntry) (h : i ≠ j) :
    (s.setEntry i v e).entry j w = s.entry j w := by
  have hv : i.val ≠ j.val := fun hv => h (Fin.ext hv)
  simp [State.entry, hv]

@[simp] theorem engine_setPort (p : PortId) (x : Port) (i : StreamId) : (s.setPort p x).engine i = s.engine i := rfl

@[simp] theorem engine_post (n : Option StreamId) (fields : NoticeFields) (i : StreamId) :
    (s.post n fields).engine i = s.engine i := rfl

@[simp] theorem port_setEngine (i : StreamId) (e : Engine) (p : PortId) : (s.setEngine i e).port p = s.port p := rfl

@[simp] theorem frame_setEntry (i : StreamId) (v : VPage) (e : Option MapEntry) (f : FrameId) :
    (s.setEntry i v e).frame f = s.frame f := rfl

@[simp] theorem entry_setFrame (f : FrameId) (r : FrameRecord) (i : StreamId) (v : VPage) :
    (s.setFrame f r).entry i v = s.entry i v := rfl

end Sys2Proof.Laws
end

