-- ==== Sys2Proof/Laws/Commands.lean ====
section
/-! SUPPORT. What the shared operations around a step do: answering the current command (R149), taking the claim of a
host command or of a stream engine (R22), taking a stream command (R53). One lemma per operation. -/

namespace Sys2Proof.Laws

open Sys2Proof.Machine

variable {s : State} {command : HostCommand} {m : Message} {rest : List Message} {i : StreamId}

/-- A step on its occasion has its effect. -/
theorem takeStep_due {occasion : Bool} (h : occasion = true) (effect : State → State) :
    takeStep occasion s effect = .next (effect s) := by
  simp [takeStep, h]

/-- A step off its occasion leaves the state (log entry 2). -/
theorem takeStep_not_due {occasion : Bool} (h : occasion = false) (effect : State → State) :
    takeStep occasion s effect = .next s := by
  simp [takeStep, h]

/-- R149: producing the reply answers the command at the head of the queue. -/
theorem produceReply_answered (h : s.command.queue = m :: rest) (payload : List Byte) :
    s.produceReply payload = s.answered m rest payload := by
  simp only [State.produceReply, h]
  rfl

/-- R172: a refusal answers with the status alone. -/
theorem refuse_answered (h : s.command.queue = m :: rest) (status : Status) :
    s.refuse status = s.answered m rest [statusCode status] :=
  produceReply_answered h _

theorem dropOldestClaim_claimTaken : s.dropOldestClaim = s.claimTaken := rfl

theorem isAt_iff (stage : CommandStage) :
    s.isAt command stage = true ↔ s.command.current = some ⟨command, stage⟩ := by
  simp [State.isAt]

/-- The map unit takes the claim of a handed command (R22). -/
theorem takeHostClaim_at (h : s.AtMapUnit command m rest) (effect : State → State) :
    takeHostClaim command s effect = .next (effect s.claimTaken) := by
  refine takeStep_due ?_ _
  simp [State.claimDue, State.isAt, h.current, State.oldestClaim, State.mapUnitTakes, h.out, h.pool, h.oldest]

/-- The stream engine takes a handed command (R53). -/
theorem commandDue_at (h : s.AtEngine i command m rest) : s.commandDue i command = true := by
  simp [State.commandDue, State.isAt, h.current, h.free]

/-- The claim of a stream engine that is the oldest (R22). -/
theorem claimOf_next {c : EngineClaim} {claims : List Claim} (h : s.ClaimNext i c claims) : s.claimOf i = some c := by
  simp [State.claimOf, State.oldestClaim, State.mapUnitTakes, h.out, h.pool, h.claims]

/-- The map unit takes a stream engine's claim (R22). -/
theorem takeEngineClaim_next {c : EngineClaim} {claims : List Claim} (h : s.ClaimNext i c claims)
    (effect : EngineClaim → State → Option State) :
    takeEngineClaim i s effect = .next ((effect c s.claimTaken).getD s) := by
  simp only [takeEngineClaim, claimOf_next h, dropOldestClaim_claimTaken]

/-- An engine that is free has no claim waiting (R53). -/
theorem no_claim_of_free (h : s.engineFree i = true) : ∀ c ∈ s.mapUnit.claims, c.isOf i = false := by
  simp only [State.engineFree, Bool.and_eq_true, Bool.not_eq_true', List.any_eq_false] at h
  intro c hc
  simpa using h.1.1.2 c hc

/-- A claim of no stream `i` carries no fill report of `i`. -/
theorem reportOf_of_not_isOf {c : Claim} (h : c.isOf i = false) : c.reportOf i = none := by
  unfold Claim.isOf at h
  unfold Claim.reportOf
  split <;> simp_all

/-- A free engine has no fill report waiting (R53, R96). -/
theorem waitingReport_of_free (h : s.engineFree i = true) : s.waitingReport i = none := by
  simp only [State.waitingReport, List.findSome?_eq_none_iff]
  exact fun c hc => reportOf_of_not_isOf (no_claim_of_free h c hc)

/-- A seal claim without a report to withdraw goes to the tail and carries nothing (R96, log entry 11). -/
theorem sendSeal_without_report (h : s.waitingReport i = none) (claim : Option Nat → EngineClaim) :
    s.sendSeal i claim = s.sendClaim (.engine i (claim none)) := by
  have hall : ∀ c ∈ s.mapUnit.claims, (c.reportOf i).isNone = true := by
    intro c hc
    simpa using List.findSome?_eq_none_iff.mp h c hc
  simp only [State.sendSeal, h, List.filter_eq_self.mpr hall]
  rfl

/-! ### A fill report that waits (R96) -/

section Waiting

variable {f g : FrameId} {o n : Nat} {before after : List Claim}

theorem waitingReport_of_waiting (waits : s.mapUnit.claims = before ++ .engine i (.fillReport g o) :: after)
    (alone : ∀ x ∈ before ++ after, x.reportOf i = none) : s.waitingReport i = some o := by
  have no_other : before.findSome? (fun c => c.reportOf i) = none :=
    List.findSome?_eq_none_iff.mpr fun x hx => alone x (List.mem_append_left _ hx)
  simp only [State.waitingReport, waits, List.findSome?_append, no_other, List.findSome?_cons]
  simp [Claim.reportOf]

/-- R96: a further report takes the place of the one that waits. -/
theorem reportFill_waiting (waits : s.mapUnit.claims = before ++ .engine i (.fillReport g o) :: after)
    (alone : ∀ x ∈ before ++ after, x.reportOf i = none) :
    s.reportFill i f n = s.setClaims (before ++ .engine i (.fillReport f n) :: after) := by
  have same : ∀ l : List Claim, (∀ x ∈ l, x.reportOf i = none) →
      (l.map fun c => if (c.reportOf i).isSome then Claim.engine i (.fillReport f n) else c) = l := by
    intro l hl
    refine (List.map_congr_left fun x hx => ?_).trans (List.map_id _)
    simp [hl x hx]
  rw [State.reportFill, waitingReport_of_waiting waits alone, Option.isSome_some, if_pos rfl, waits, List.map_append,
    List.map_cons, same before fun x hx => alone x (List.mem_append_left _ hx),
    same after fun x hx => alone x (List.mem_append_right _ hx)]
  simp [Claim.reportOf]

/-- R96: a seal claim withdraws the report that waits, carries its offset and goes to the tail (log entry 11). -/
theorem sendSeal_waiting (waits : s.mapUnit.claims = before ++ .engine i (.fillReport g o) :: after)
    (alone : ∀ x ∈ before ++ after, x.reportOf i = none) (claim : Option Nat → EngineClaim) :
    s.sendSeal i claim = s.setClaims (before ++ after ++ [.engine i (claim (some o))]) := by
  have same : ∀ l : List Claim, (∀ x ∈ l, x.reportOf i = none) →
      (l.filter fun c => (c.reportOf i).isNone) = l :=
    fun l hl => List.filter_eq_self.mpr fun x hx => by simp [hl x hx]
  rw [State.sendSeal, waitingReport_of_waiting waits alone, waits, List.filter_append, List.filter_cons,
    same before fun x hx => alone x (List.mem_append_left _ hx),
    same after fun x hx => alone x (List.mem_append_right _ hx)]
  simp [Claim.reportOf, State.sendClaim, State.setClaims]

end Waiting

end Sys2Proof.Laws
end

