-- ==== Sys2Proof/Laws/Crc.lean ====
section
/-! SUPPORT. The CRC of R143: one step over a byte is eight steps over its bits, most significant first. -/

namespace Sys2Proof.Laws

open Sys2Proof.Machine

/-- The CRC register after one bit. -/
abbrev crcStep (crc : BitVec 16) (bit : Bool) : BitVec 16 :=
  if crc.msb = bit then crc <<< 1 else (crc <<< 1) ^^^ 0x1021

/-- A word added to the register meets the top bit first, and then the rest of it. -/
theorem crcBit_xor (crc word : BitVec 16) : crcBit (crc ^^^ word) = crcStep crc word.msb ^^^ (word <<< 1) := by
  unfold crcBit crcStep
  rw [BitVec.shiftLeft_xor_distrib, BitVec.msb_xor]
  cases crc.msb <;> cases word.msb <;> simp <;>
    rw [BitVec.xor_assoc, BitVec.xor_assoc, BitVec.xor_comm (word <<< 1)]

theorem crcByte_bits (crc : BitVec 16) (x : Byte) :
    crcByte crc x = ((List.range 8).map fun k => x.getMsbD k).foldl crcStep crc := by
  have next : ∀ k, ((x.setWidth 16 <<< 8) <<< k : BitVec 16) <<< 1 = (x.setWidth 16 <<< 8) <<< (k + 1) :=
    fun k => (BitVec.shiftLeft_add ..).symm
  have gone : ((x.setWidth 16 <<< 8) <<< 8 : BitVec 16) = 0#16 := by
    ext i hi
    simp
  have start : (x.setWidth 16 <<< 8 : BitVec 16) = (x.setWidth 16 <<< 8) <<< 0 := by simp
  unfold crcByte
  rw [start]
  simp only [crcBit_xor, next, Nat.reduceAdd, gone]
  simp [List.range, List.range.loop]

/-- R143: the CRC of some bytes is that of their bits. -/
theorem crc16_bits (bytes : List Byte) :
    crc16 bytes = (bytes.flatMap fun x => (List.range 8).map fun k => x.getMsbD k).foldl crcStep 0xFFFF := by
  have all : ∀ crc, bytes.foldl crcByte crc =
      (bytes.flatMap fun x => (List.range 8).map fun k => x.getMsbD k).foldl crcStep crc := by
    induction bytes with
    | nil => exact fun _ => rfl
    | cons x rest ih =>
      intro crc
      rw [List.foldl_cons, ih, List.flatMap_cons, List.foldl_append, crcByte_bits]
  exact all _

end Sys2Proof.Laws
end

