-- ==== Sys2Proof/Laws/Inner.lean ====
section
/-! SUPPORT. What the work of the stream engines and of the map unit never touches: the frame store, the command
unit, the link but for the notices posted, the reset, and the queue of offered steps. One lemma per shared
operation. -/

namespace Sys2Proof.Laws

open Sys2Proof.Machine

/-- A link state reached from another by posting notices alone. -/
inductive Posts : Link → Link → Prop where
  | refl (l : Link) : Posts l l
  | post {l l' : Link} (h : Posts l l') (stream : Option StreamId) (fields : NoticeFields) :
    Posts l (l'.post stream fields)

theorem Posts.trans {a b c : Link} (hab : Posts a b) (hbc : Posts b c) : Posts a c := by
  induction hbc with
  | refl => exact hab
  | post _ stream fields ih => exact .post ih stream fields

theorem post_eq (l : Link) (stream : Option StreamId) (fields : NoticeFields) :
    ∃ notices shadow, l.post stream fields = { l with notices := notices, shadow := shadow } := by
  unfold Link.post
  split
  · split
    · exact ⟨l.notices, _, rfl⟩
    · exact ⟨_, l.shadow, rfl⟩
  · exact ⟨_, l.shadow, rfl⟩

/-- Posting changes the notice queue and the shadow record alone. -/
theorem Posts.eq {l l' : Link} (h : Posts l l') :
    ∃ notices shadow, l' = { l with notices := notices, shadow := shadow } := by
  induction h with
  | refl => exact ⟨l.notices, l.shadow, rfl⟩
  | post _ stream fields ih =>
    obtain ⟨n, sh, rfl⟩ := ih
    obtain ⟨n', sh', h⟩ := post_eq { l with notices := n, shadow := sh } stream fields
    exact ⟨n', sh', h⟩

/-- `t` comes from `s` by work of the stream engines, the ports, the arbiter's requests and the map unit. -/
structure Inner (s t : State) : Prop where
  store : t.store = s.store
  command : t.command = s.command
  link : Posts s.link t.link
  heldInReset : t.heldInReset = s.heldInReset
  powerOns : t.powerOns = s.powerOns
  pending : t.pending = s.pending

theorem Inner.refl (s : State) : Inner s s := ⟨rfl, rfl, .refl _, rfl, rfl, rfl⟩

theorem Inner.trans {s t u : State} (h : Inner s t) (g : Inner t u) : Inner s u :=
  ⟨g.store.trans h.store, g.command.trans h.command, h.link.trans g.link, g.heldInReset.trans h.heldInReset,
    g.powerOns.trans h.powerOns, g.pending.trans h.pending⟩

/-- A change of the map unit, the engines, the ports and the arbiter. -/
theorem Inner.of_blocks {s t : State} (hstore : t.store = s.store) (hcommand : t.command = s.command)
    (hlink : t.link = s.link) (hheld : t.heldInReset = s.heldInReset) (hpower : t.powerOns = s.powerOns)
    (hpending : t.pending = s.pending) : Inner s t :=
  ⟨hstore, hcommand, hlink ▸ .refl _, hheld, hpower, hpending⟩

variable (s : State)

/-! ### Registers -/

theorem inner_setEngine (i : StreamId) (e : Engine) : Inner s (s.setEngine i e) := .of_blocks rfl rfl rfl rfl rfl rfl
theorem inner_modEngine (i : StreamId) (g : Engine → Engine) : Inner s (s.modEngine i g) := inner_setEngine ..
theorem inner_setPort (p : PortId) (x : Port) : Inner s (s.setPort p x) := .of_blocks rfl rfl rfl rfl rfl rfl
theorem inner_setMapUnit (m : MapUnit) : Inner s (s.setMapUnit m) := .of_blocks rfl rfl rfl rfl rfl rfl
theorem inner_setFrame (f : FrameId) (r : FrameRecord) : Inner s (s.setFrame f r) := .of_blocks rfl rfl rfl rfl rfl rfl
theorem inner_setEntry (i : StreamId) (v : VPage) (e : Option MapEntry) : Inner s (s.setEntry i v e) :=
  .of_blocks rfl rfl rfl rfl rfl rfl
theorem inner_setFreeQueue (q : List FrameId) : Inner s (s.setFreeQueue q) := .of_blocks rfl rfl rfl rfl rfl rfl
theorem inner_setWaiters (ws : List StreamId) : Inner s (s.setWaiters ws) := .of_blocks rfl rfl rfl rfl rfl rfl
theorem inner_setDeferred (ds : List DeferredClaim) : Inner s (s.setDeferred ds) := .of_blocks rfl rfl rfl rfl rfl rfl
theorem inner_setClaims (cs : List Claim) : Inner s (s.setClaims cs) := .of_blocks rfl rfl rfl rfl rfl rfl
theorem inner_setLowArmed (armed : Bool) : Inner s (s.setLowArmed armed) := .of_blocks rfl rfl rfl rfl rfl rfl
theorem inner_setArbiter (a : Arbiter) : Inner s (s.setArbiter a) := .of_blocks rfl rfl rfl rfl rfl rfl
theorem inner_withdrawRequest (i : StreamId) : Inner s (s.withdrawRequest i) := inner_setArbiter ..
theorem inner_request (r : Requester) (q : BurstRequest) : Inner s (s.request r q) := inner_setArbiter ..
theorem inner_endBurst : Inner s s.endBurst := inner_setArbiter ..
theorem inner_granted (b : Burst) : Inner s (s.granted b) := inner_setArbiter ..
theorem inner_sendClaim (c : Claim) : Inner s (s.sendClaim c) := inner_setClaims ..
theorem inner_dropOldestClaim : Inner s s.dropOldestClaim := inner_setClaims ..

theorem inner_post (stream : Option StreamId) (fields : NoticeFields) : Inner s (s.post stream fields) :=
  ⟨rfl, rfl, .post (.refl _) stream fields, rfl, rfl, rfl⟩

theorem inner_modPortOf (i : StreamId) (g : Port → Port) : Inner s (s.modPortOf i g) := by
  unfold State.modPortOf
  split
  · exact inner_setPort ..
  · exact .refl s

theorem inner_setGate (i : StreamId) (isOpen : Bool) : Inner s (s.setGate i isOpen) := inner_modPortOf ..
theorem inner_setFifo (i : StreamId) (words : List Word) : Inner s (s.setFifo i words) := inner_modPortOf ..
theorem inner_signal (f : FrameId) : Inner s (s.signal f) := .of_blocks rfl rfl rfl rfl rfl rfl
theorem inner_purge (i : StreamId) (v : VPage) (n : Nat) : Inner s (s.purge i v n) := inner_setEngine ..

theorem inner_reportFill (i : StreamId) (f : FrameId) (offset : Nat) : Inner s (s.reportFill i f offset) := by
  unfold State.reportFill
  split <;> exact inner_setClaims ..

theorem inner_sendSeal (i : StreamId) (claim : Option Nat → EngineClaim) : Inner s (s.sendSeal i claim) :=
  (inner_setClaims s _).trans (inner_sendClaim ..)

/-! ### Stream engines -/

theorem inner_discardCapture (i : StreamId) : Inner s (s.discardCapture i) := by
  unfold State.discardCapture
  exact (inner_setFifo s i []).trans (inner_modEngine ..)

theorem inner_enterDone (i : StreamId) (reason : EndReason) : Inner s (s.enterDone i reason) :=
  ((inner_setGate s i false).trans (inner_modEngine ..)).trans (inner_post ..)

theorem inner_enterFailed (i : StreamId) (v : VPage) : Inner s (s.enterFailed i v) :=
  (((inner_setGate s i false).trans (inner_discardCapture ..)).trans (inner_modEngine ..)).trans (inner_post ..)

theorem inner_stopInFault (i : StreamId) (reason : EndReason) : Inner s (s.stopInFault i reason) := by
  have h : Inner s (((s.setGate i false).discardCapture i).modEngine i fun e => { e with endReason := some reason }) :=
    ((inner_setGate s i false).trans (inner_discardCapture ..)).trans (inner_modEngine ..)
  unfold State.stopInFault
  dsimp only
  split
  · exact h.trans (inner_sendSeal ..)
  · exact h.trans (inner_enterDone ..)

theorem inner_enterFault (i : StreamId) (v : VPage) (reason : FaultReason) : Inner s (s.enterFault i v reason) := by
  unfold State.enterFault
  dsimp only
  split
  · exact (((inner_setGate ..).trans (inner_modEngine ..)).trans (inner_post ..)).trans (inner_stopInFault ..)
  · exact ((inner_setGate ..).trans (inner_modEngine ..)).trans (inner_post ..)

theorem inner_giveFrame (i : StreamId) (v : VPage) (f : FrameId) (access : Access) :
    Inner s (s.giveFrame i v f access) := by
  unfold State.giveFrame
  dsimp only
  split
  · exact (inner_modEngine ..).trans (inner_setGate ..)
  · exact inner_modEngine ..

/-! ### Frames and the pool -/

theorem inner_lowMarkCheck : Inner s s.lowMarkCheck := by
  unfold State.lowMarkCheck
  split
  · exact (inner_setLowArmed ..).trans (inner_post ..)
  · exact .refl s

theorem inner_issue (f : FrameId) (writer : Option StreamId) : Inner s (s.issue f writer) := inner_setFrame ..

theorem inner_issueFromQueue (f : FrameId) (writer : Option StreamId) : Inner s (s.issueFromQueue f writer) :=
  ((inner_setFreeQueue s _).trans (inner_issue ..)).trans (inner_lowMarkCheck _)

theorem inner_returnToQueue (f : FrameId) : Inner s (s.returnToQueue f) := by
  unfold State.returnToQueue
  dsimp only
  split
  · exact ((inner_setFrame ..).trans (inner_setFreeQueue ..)).trans (inner_setLowArmed ..)
  · exact (inner_setFrame ..).trans (inner_setFreeQueue ..)

theorem inner_setFill (f : FrameId) (fill : Nat) : Inner s (s.setFill f fill) := by
  unfold State.setFill
  dsimp only
  split
  · exact (inner_setFrame ..).trans (inner_signal ..)
  · exact inner_setFrame ..

theorem inner_sealFrame (f : FrameId) : Inner s (s.sealFrame f) := by
  unfold State.sealFrame
  split
  · exact .refl s
  · exact (inner_setFrame ..).trans (inner_signal ..)

theorem inner_sealAt (f : FrameId) (carried : Option Nat) : Inner s (s.sealAt f carried) := by
  unfold State.sealAt
  split
  · exact (inner_setFill ..).trans (inner_sealFrame ..)
  · exact inner_sealFrame ..

theorem inner_issueFor (i : StreamId) (f : FrameId) (handed : Bool) : Inner s (s.issueFor i f handed) := by
  unfold State.issueFor
  split
  · exact inner_issue ..
  · exact inner_issueFromQueue ..

theorem inner_applyWrite (i : StreamId) (v : VPage) (handed : Bool) (decision : WriteDecision) :
    Inner s (s.applyWrite i v handed decision) := by
  cases decision with
  | allocate f => exact ((inner_issueFor ..).trans (inner_setEntry ..)).trans (inner_giveFrame ..)
  | waitAbsent => exact inner_enterFault ..
  | setAside => exact inner_setDeferred ..
  | fail => exact inner_enterFailed ..
  | inPlace f => exact (inner_setFrame ..).trans (inner_giveFrame ..)
  | reuse f => exact (inner_setFrame ..).trans (inner_giveFrame ..)
  | detach old f =>
    exact ((((inner_purge s i v 1).trans (inner_issueFor ..)).trans (inner_setEntry ..)).trans
      (inner_setFrame ..)).trans (inner_giveFrame ..)
  | waitPool => exact (inner_setWaiters ..).trans (inner_enterFault ..)

theorem inner_writeClaim (i : StreamId) (v : VPage) : Inner s (s.writeClaim i v) := inner_applyWrite ..

theorem inner_handOff (waiters : List StreamId) (f : FrameId) : Inner s (s.handOff waiters f) := by
  induction waiters generalizing s with
  | nil => exact inner_returnToQueue ..
  | cons w rest ih =>
    unfold State.handOff
    dsimp only
    split
    · exact (inner_setWaiters ..).trans (ih _)
    · split
      · exact (inner_setWaiters ..).trans (ih _)
      · split
        · exact (inner_setWaiters ..).trans (inner_applyWrite ..)
        · exact ((inner_setWaiters ..).trans (inner_applyWrite ..)).trans (ih _)

theorem inner_release (f : FrameId) : Inner s (s.release f) := by
  unfold State.release
  dsimp only
  split
  · exact (inner_setFrame ..).trans (inner_handOff ..)
  · exact inner_setFrame ..

theorem inner_releasePages (i : StreamId) (vs : List VPage) : Inner s (s.releasePages i vs).state := by
  induction vs generalizing s with
  | nil => exact .refl s
  | cons v rest ih =>
    unfold State.releasePages
    split
    · exact ih s
    · split
      · exact ih s
      · exact ((inner_setEntry ..).trans (inner_release ..)).trans (ih _)

/-! ### Pages -/

theorem inner_sendWrite (i : StreamId) : Inner s (s.sendWrite i) := inner_sendClaim ..

theorem inner_evaluateEntry (i : StreamId) : Inner s (s.evaluateEntry i) := by
  unfold State.evaluateEntry
  split
  · exact .refl s
  · split <;> exact inner_modEngine ..

theorem inner_enterReplayPage (i : StreamId) : Inner s (s.enterReplayPage i) := by
  unfold State.enterReplayPage
  dsimp only
  split
  · exact (inner_modEngine ..).trans (inner_evaluateEntry ..)
  · exact (inner_modEngine ..).trans (inner_sendClaim ..)

theorem inner_goToNextPage (i : StreamId) : Inner s (s.goToNextPage i) := inner_modEngine ..

theorem inner_enterChained (i : StreamId) : Inner s (s.enterChained i) := by
  unfold State.enterChained
  split
  · exact inner_sendWrite ..
  · exact inner_goToNextPage ..
  · exact .refl s

theorem inner_enterPage (i : StreamId) : Inner s (s.enterPage i) := by
  unfold State.enterPage
  split
  · exact inner_sendWrite ..
  · exact inner_enterReplayPage ..
  · exact .refl s

theorem inner_finishEmptying (i : StreamId) (reason : EndReason) : Inner s (s.finishEmptying i reason) :=
  (inner_modEngine ..).trans (inner_enterDone ..)

theorem inner_endSegment (i : StreamId) (v : VPage) (reason : EndReason) : Inner s (s.endSegment i v reason) := by
  unfold State.endSegment
  split
  · dsimp only
    split
    · exact (inner_modEngine ..).trans (inner_finishEmptying ..)
    · exact inner_modEngine ..
  · exact ((inner_discardCapture ..).trans (inner_modEngine ..)).trans (inner_enterDone ..)

theorem inner_completeSegment (i : StreamId) (v : VPage) : Inner s (s.completeSegment i v) := by
  unfold State.completeSegment
  split
  · dsimp only
    split
    · split
      · exact ((((inner_modEngine ..).trans (inner_post ..)).trans (inner_modEngine ..))).trans (inner_enterChained ..)
      · exact ((inner_modEngine ..).trans (inner_post ..)).trans (inner_endSegment ..)
    · exact ((inner_modEngine ..).trans (inner_post ..)).trans (inner_endSegment ..)
  · exact .refl s

theorem inner_advancePage (i : StreamId) (v : VPage) : Inner s (s.advancePage i v) := inner_modEngine ..

theorem inner_leaveInDrain (i : StreamId) (v : VPage) : Inner s (s.leaveInDrain i v) := by
  unfold State.leaveInDrain
  dsimp only
  split
  · exact ((inner_discardCapture ..).trans (inner_modEngine ..)).trans (inner_enterDone ..)
  · split
    · exact (inner_advancePage ..).trans (inner_enterDone ..)
    · exact (inner_advancePage ..).trans (inner_sendWrite ..)

theorem inner_leaveCapturePage (i : StreamId) (v : VPage) : Inner s (s.leaveCapturePage i v) := by
  unfold State.leaveCapturePage
  dsimp only
  split
  · exact (inner_modEngine ..).trans (inner_leaveInDrain ..)
  · split
    · exact (inner_modEngine ..).trans (inner_completeSegment ..)
    · exact ((inner_modEngine ..).trans (inner_advancePage ..)).trans (inner_sendWrite ..)

theorem inner_afterReplayLeave (i : StreamId) (v : VPage) : Inner s (s.afterReplayLeave i v) := by
  unfold State.afterReplayLeave
  dsimp only
  split
  · exact (inner_modEngine ..).trans (inner_completeSegment ..)
  · exact ((inner_modEngine ..).trans (inner_advancePage ..)).trans (inner_goToNextPage ..)

theorem inner_leaveReplayPage (i : StreamId) (v : VPage) : Inner s (s.leaveReplayPage i v) := by
  unfold State.leaveReplayPage
  dsimp only
  split
  · exact (inner_modEngine ..).trans (inner_sendClaim ..)
  · exact (inner_modEngine ..).trans (inner_afterReplayLeave ..)

theorem inner_evaluatePage (i : StreamId) : Inner s (s.evaluatePage i) := by
  unfold State.evaluatePage
  split
  · exact .refl s
  · split
    · exact inner_leaveReplayPage ..
    · exact inner_evaluateEntry ..
    · exact inner_evaluateEntry ..

theorem inner_giveReplayPage (i : StreamId) (v : VPage) (entry : MapEntry) : Inner s (s.giveReplayPage i v entry) :=
  inner_modEngine ..

theorem inner_passOver (i : StreamId) (v : VPage) : Inner s (s.passOver i v) := by
  unfold State.passOver
  dsimp only
  split
  · exact (inner_modEngine ..).trans (inner_completeSegment ..)
  · exact ((inner_modEngine ..).trans (inner_advancePage ..)).trans (inner_modEngine ..)

theorem inner_answerRead (i : StreamId) (v : VPage) : Inner s (s.answerRead i v) := by
  unfold State.answerRead
  split
  · exact (inner_giveReplayPage ..).trans (inner_evaluateEntry ..)
  · split
    · exact inner_passOver ..
    · exact inner_enterFault ..

theorem inner_decideRelease (i : StreamId) (v : VPage) : Inner s (s.decideRelease i v) := by
  unfold State.decideRelease
  dsimp only
  split
  · exact (((inner_purge ..).trans (inner_setEntry ..)).trans (inner_release ..)).trans (inner_afterReplayLeave ..)
  · exact (inner_purge ..).trans (inner_afterReplayLeave ..)

theorem inner_retry (i : StreamId) (first : VPage) (count : Nat) : Inner s (s.retry i first count) := by
  unfold State.retry
  split
  · split
    · split
      · exact inner_writeClaim ..
      · exact (inner_giveReplayPage ..).trans (inner_evaluateEntry ..)
      · exact .refl s
    · exact .refl s
  · exact .refl s

theorem inner_decideDeferred (d : DeferredClaim) : Inner s (s.decideDeferred d) := by
  unfold State.decideDeferred
  split
  · exact inner_writeClaim ..
  · exact inner_decideRelease ..

theorem inner_foldl {α : Type} (step : State → α → State) (h : ∀ t a, Inner t (step t a)) (l : List α) :
    Inner s (l.foldl step s) := by
  induction l generalizing s with
  | nil => exact .refl s
  | cons a rest ih => exact (h s a).trans (ih _)

theorem inner_decideAllDeferred : Inner s s.decideAllDeferred :=
  (inner_setDeferred s []).trans (inner_foldl _ _ inner_decideDeferred _)

theorem inner_endWhenDrained (i : StreamId) : Inner s (s.endWhenDrained i) := by
  unfold State.endWhenDrained
  split
  · exact inner_sendSeal ..
  · exact .refl s

/-! ### Bursts and claims -/

theorem inner_requestBurst (i : StreamId) (length : Nat) (isWrite : Bool) :
    Inner s (s.requestBurst i length isWrite) := by
  unfold State.requestBurst
  split
  · exact .refl s
  · exact (inner_modEngine ..).trans (inner_request ..)

theorem inner_grantCapture (i : StreamId) (q : BurstRequest) : Inner s (s.grantCapture i q) :=
  (inner_setFifo ..).trans (inner_granted ..)

theorem inner_grantReplay (i : StreamId) (q : BurstRequest) : Inner s (s.grantReplay i q) :=
  (inner_modEngine ..).trans (inner_granted ..)

theorem inner_answerRestart (i : StreamId) : Inner s (s.answerRestart i) :=
  (inner_setFifo ..).trans (inner_modEngine ..)

theorem inner_afterCapture (i : StreamId) : Inner s (s.afterCapture i) := by
  unfold State.afterCapture
  split
  · exact .refl s
  · dsimp only
    split
    · exact (inner_reportFill ..).trans (inner_sendSeal ..)
    · exact (inner_reportFill ..).trans (inner_endWhenDrained ..)

theorem inner_afterReplay (i : StreamId) (words : List Word) : Inner s (s.afterReplay i words) := by
  unfold State.afterReplay
  split
  · exact (inner_setFifo ..).trans (inner_evaluatePage ..)
  · exact inner_enterDone ..
  all_goals exact inner_setFifo ..

theorem inner_completeReplay (i : StreamId) (b : Burst) : Inner s (s.completeReplay i b) := by
  unfold State.completeReplay
  dsimp only
  split
  · exact ((inner_endBurst ..).trans (inner_modEngine ..)).trans (inner_answerRestart ..)
  · exact ((inner_endBurst ..).trans (inner_modEngine ..)).trans (inner_afterReplay ..)

theorem inner_takeLeaveSeal (i : StreamId) (f : FrameId) (carried : Option Nat) :
    Inner s (s.takeLeaveSeal i f carried) :=
  (inner_sealAt ..).trans (inner_leaveCapturePage ..)

theorem inner_giveUpPlace (i : StreamId) (carried : Option Nat) : Inner s (s.giveUpPlace i carried) := by
  unfold State.giveUpPlace
  dsimp only
  split
  · exact ((inner_sealAt ..).trans (inner_setWaiters ..)).trans (inner_setDeferred ..)
  · exact (inner_setWaiters ..).trans (inner_setDeferred ..)

theorem inner_endBySeal (i : StreamId) : Inner s (s.endBySeal i) := by
  unfold State.endBySeal
  split
  · exact .refl s
  · exact inner_enterDone ..

theorem inner_takeRelease (i : StreamId) (v : VPage) : Inner s (s.takeRelease i v) := by
  unfold State.takeRelease
  dsimp only
  split
  · exact (inner_modEngine ..).trans (inner_setDeferred ..)
  · exact (inner_modEngine ..).trans (inner_decideRelease ..)

theorem inner_takeSignal (i : StreamId) : Inner s (s.takeSignal i) := by
  unfold State.takeSignal
  split
  · exact .refl s
  · dsimp only
    split
    · exact ((inner_modEngine ..).trans (inner_modEngine ..)).trans (inner_evaluatePage ..)
    · exact inner_modEngine ..

theorem inner_continuePageChange (i : StreamId) : Inner s (s.continuePageChange i) := by
  unfold State.continuePageChange
  split
  · split
    · exact inner_enterReplayPage ..
    · exact inner_enterReplayPage ..
    · exact inner_evaluatePage ..
    · exact .refl s
  · exact .refl s

end Sys2Proof.Laws
end

