-- ==== Sys2Proof/Laws/Memory.lean ====
section
/-! SUPPORT. The laws of the frame store: a write keeps the canonical form, a read after a write gives the byte
written, and a write leaves every other address alone. -/

namespace Sys2Proof.Laws

open Sys2Proof.Machine

/-- Every listed address lies above `a`. -/
def Above (a : Nat) (m : Memory) : Prop := ∀ cell ∈ m, a < cell.1

theorem wf_cons (x : Nat) (b : Byte) (m : Memory) :
    Memory.wf ((x, b) :: m) = true ↔ Above x m ∧ Memory.wf m = true := by
  induction m generalizing x b with
  | nil => simp [Memory.wf, Above]
  | cons cell rest ih =>
    obtain ⟨y, c⟩ := cell
    have hrest := ih y c
    constructor
    · intro h
      have hxy : x < y := by
        unfold Memory.wf at h
        exact of_decide_eq_true (Bool.and_eq_true _ _ ▸ h).1
      have hwf : Memory.wf ((y, c) :: rest) = true := by
        unfold Memory.wf at h
        exact (Bool.and_eq_true _ _ ▸ h).2
      refine ⟨?_, hwf⟩
      intro cell hmem
      rcases List.mem_cons.1 hmem with rfl | htail
      · exact hxy
      · exact lt_trans hxy ((hrest.1 hwf).1 cell htail)
    · rintro ⟨habove, hwf⟩
      have hxy : x < y := habove (y, c) (List.mem_cons_self ..)
      unfold Memory.wf
      simp [hxy, hwf]

theorem above_write {a x : Nat} {b : Byte} {m : Memory} (h : Above a m) (hax : a < x) :
    Above a (Memory.write m x b) := by
  induction m with
  | nil => simpa [Memory.write, Above] using hax
  | cons cell rest ih =>
    obtain ⟨y, c⟩ := cell
    have hy : a < y := h (y, c) (List.mem_cons_self ..)
    have hrest : Above a rest := fun d hd => h d (List.mem_cons_of_mem _ hd)
    unfold Memory.write
    split
    · intro d hd
      rcases List.mem_cons.1 hd with rfl | hd
      · exact hax
      · exact h d hd
    · split
      · intro d hd
        rcases List.mem_cons.1 hd with rfl | hd
        · exact hax
        · exact hrest d hd
      · intro d hd
        rcases List.mem_cons.1 hd with rfl | hd
        · exact hy
        · exact ih hrest d hd

theorem wf_write {m : Memory} (h : Memory.wf m = true) (a : Nat) (b : Byte) :
    Memory.wf (Memory.write m a b) = true := by
  induction m with
  | nil => simp [Memory.write, Memory.wf]
  | cons cell rest ih =>
    obtain ⟨x, c⟩ := cell
    obtain ⟨habove, hwf⟩ := (wf_cons x c rest).1 h
    unfold Memory.write
    split
    case isTrue hax =>
      refine (wf_cons ..).2 ⟨?_, h⟩
      intro d hd
      rcases List.mem_cons.1 hd with rfl | hd
      · exact hax
      · exact lt_trans hax (habove d hd)
    case isFalse hax =>
      split
      case isTrue heq => exact (wf_cons ..).2 ⟨heq ▸ habove, hwf⟩
      case isFalse hne => exact (wf_cons ..).2 ⟨above_write habove (by omega), ih hwf⟩

theorem wf_writeBytes {m : Memory} (h : Memory.wf m = true) (a : Nat) (bytes : List Byte) :
    Memory.wf (Memory.writeBytes m a bytes) = true := by
  induction bytes generalizing m a with
  | nil => exact h
  | cons b rest ih => exact ih (wf_write h a b) (a + 1)

theorem read_above {m : Memory} {a : Nat} (h : Above a m) : Memory.read m a = none := by
  induction m with
  | nil => rfl
  | cons cell rest ih =>
    obtain ⟨x, c⟩ := cell
    have hx : a < x := h (x, c) (List.mem_cons_self ..)
    unfold Memory.read
    rw [if_neg (by omega)]
    exact ih fun d hd => h d (List.mem_cons_of_mem _ hd)

theorem read_write_self (m : Memory) (a : Nat) (b : Byte) : Memory.read (Memory.write m a b) a = some b := by
  induction m with
  | nil => simp [Memory.write, Memory.read]
  | cons cell rest ih =>
    obtain ⟨x, c⟩ := cell
    unfold Memory.write
    split
    · simp [Memory.read]
    · split
      · simp [Memory.read]
      case isFalse hne =>
        unfold Memory.read
        rw [if_neg fun heq => hne heq.symm]
        exact ih

theorem read_write_other (m : Memory) (a x : Nat) (b : Byte) (h : x ≠ a) :
    Memory.read (Memory.write m a b) x = Memory.read m x := by
  induction m with
  | nil => simp [Memory.write, Memory.read, h.symm]
  | cons cell rest ih =>
    obtain ⟨y, c⟩ := cell
    unfold Memory.write
    split
    · simp [Memory.read, h.symm]
    · split
      case isTrue heq => simp [Memory.read, h.symm, ← heq]
      · simp only [Memory.read, ih]

theorem read_writeBytes_other (m : Memory) (a x : Nat) (bytes : List Byte)
    (h : x < a ∨ a + bytes.length ≤ x) : Memory.read (Memory.writeBytes m a bytes) x = Memory.read m x := by
  induction bytes generalizing m a with
  | nil => rfl
  | cons b rest ih =>
    have hlen : (b :: rest).length = rest.length + 1 := rfl
    unfold Memory.writeBytes
    rw [ih _ _ (by omega), read_write_other _ _ _ _ (by omega)]

theorem read_writeBytes (m : Memory) (a k : Nat) (bytes : List Byte) (h : k < bytes.length) :
    Memory.read (Memory.writeBytes m a bytes) (a + k) = some bytes[k] := by
  induction bytes generalizing m a k with
  | nil => exact absurd h (Nat.not_lt_zero k)
  | cons b rest ih =>
    unfold Memory.writeBytes
    cases k with
    | zero =>
      have hother := read_writeBytes_other (Memory.write m a b) (a + 1) a rest (by omega)
      simpa using hother.trans (read_write_self m a b)
    | succ k =>
      have hk : k < rest.length := by simpa using h
      have := ih (Memory.write m a b) (a + 1) k hk
      rw [show a + (k + 1) = a + 1 + k by omega]
      simpa using this

end Sys2Proof.Laws
end

