-- ==== Sys2Proof/Laws/Reads.lean ====
section
/-! SUPPORT. What an engine, a port, a frame record and a map entry read after an update that does not write them, and
after the shared operations that write at most one port or the free-frame queue. -/

namespace Sys2Proof.Laws

open Sys2Proof.Machine

variable (s : State)

/-! ### engine -/

@[simp] theorem engine_setFrame (f : FrameId) (r : FrameRecord) (a : StreamId) :
    (s.setFrame f r).engine a = s.engine a := rfl
@[simp] theorem engine_setEntry (i : StreamId) (v : VPage) (e : Option MapEntry) (a : StreamId) :
    (s.setEntry i v e).engine a = s.engine a := rfl
@[simp] theorem engine_setFreeQueue (q : List FrameId) (a : StreamId) :
    (s.setFreeQueue q).engine a = s.engine a := rfl
@[simp] theorem engine_setWaiters (ws : List StreamId) (a : StreamId) : (s.setWaiters ws).engine a = s.engine a := rfl
@[simp] theorem engine_setDeferred (ds : List DeferredClaim) (a : StreamId) :
    (s.setDeferred ds).engine a = s.engine a := rfl
@[simp] theorem engine_setClaims (cs : List Claim) (a : StreamId) : (s.setClaims cs).engine a = s.engine a := rfl
@[simp] theorem engine_setLowArmed (armed : Bool) (a : StreamId) : (s.setLowArmed armed).engine a = s.engine a := rfl
@[simp] theorem engine_sendClaim (c : Claim) (a : StreamId) : (s.sendClaim c).engine a = s.engine a := rfl
@[simp] theorem engine_setArbiter (x : Arbiter) (a : StreamId) : (s.setArbiter x).engine a = s.engine a := rfl
@[simp] theorem engine_request (r : Requester) (q : BurstRequest) (a : StreamId) :
    (s.request r q).engine a = s.engine a := rfl
@[simp] theorem engine_withdrawRequest (i : StreamId) (a : StreamId) :
    (s.withdrawRequest i).engine a = s.engine a := rfl
@[simp] theorem engine_endBurst (a : StreamId) : s.endBurst.engine a = s.engine a := rfl
@[simp] theorem engine_setStore (m : Memory) (a : StreamId) : (s.setStore m).engine a = s.engine a := rfl
@[simp] theorem engine_setCommand (c : CommandUnit) (a : StreamId) : (s.setCommand c).engine a = s.engine a := rfl
@[simp] theorem engine_setStage (c : HostCommand) (g : CommandStage) (a : StreamId) :
    (s.setStage c g).engine a = s.engine a := rfl
@[simp] theorem engine_setLink (l : Link) (a : StreamId) : (s.setLink l).engine a = s.engine a := rfl
@[simp] theorem engine_claimTaken (a : StreamId) : s.claimTaken.engine a = s.engine a := rfl
@[simp] theorem engine_answered (m : Message) (rest : List Message) (payload : List Byte) (a : StreamId) :
    (s.answered m rest payload).engine a = s.engine a := rfl

/-! ### port -/

@[simp] theorem port_modEngine (i : StreamId) (g : Engine → Engine) (a : PortId) :
    (s.modEngine i g).port a = s.port a := rfl
@[simp] theorem port_setFrame (f : FrameId) (r : FrameRecord) (a : PortId) : (s.setFrame f r).port a = s.port a := rfl
@[simp] theorem port_setEntry (i : StreamId) (v : VPage) (e : Option MapEntry) (a : PortId) :
    (s.setEntry i v e).port a = s.port a := rfl
@[simp] theorem port_setFreeQueue (q : List FrameId) (a : PortId) : (s.setFreeQueue q).port a = s.port a := rfl
@[simp] theorem port_setWaiters (ws : List StreamId) (a : PortId) : (s.setWaiters ws).port a = s.port a := rfl
@[simp] theorem port_setDeferred (ds : List DeferredClaim) (a : PortId) : (s.setDeferred ds).port a = s.port a := rfl
@[simp] theorem port_setClaims (cs : List Claim) (a : PortId) : (s.setClaims cs).port a = s.port a := rfl
@[simp] theorem port_setLowArmed (armed : Bool) (a : PortId) : (s.setLowArmed armed).port a = s.port a := rfl
@[simp] theorem port_sendClaim (c : Claim) (a : PortId) : (s.sendClaim c).port a = s.port a := rfl
@[simp] theorem port_setArbiter (x : Arbiter) (a : PortId) : (s.setArbiter x).port a = s.port a := rfl
@[simp] theorem port_request (r : Requester) (q : BurstRequest) (a : PortId) :
    (s.request r q).port a = s.port a := rfl
@[simp] theorem port_withdrawRequest (i : StreamId) (a : PortId) : (s.withdrawRequest i).port a = s.port a := rfl
@[simp] theorem port_endBurst (a : PortId) : s.endBurst.port a = s.port a := rfl
@[simp] theorem port_setStore (m : Memory) (a : PortId) : (s.setStore m).port a = s.port a := rfl
@[simp] theorem port_setCommand (c : CommandUnit) (a : PortId) : (s.setCommand c).port a = s.port a := rfl
@[simp] theorem port_setStage (c : HostCommand) (g : CommandStage) (a : PortId) :
    (s.setStage c g).port a = s.port a := rfl
@[simp] theorem port_setLink (l : Link) (a : PortId) : (s.setLink l).port a = s.port a := rfl
@[simp] theorem port_post (n : Option StreamId) (fields : NoticeFields) (a : PortId) :
    (s.post n fields).port a = s.port a := rfl
@[simp] theorem port_claimTaken (a : PortId) : s.claimTaken.port a = s.port a := rfl
@[simp] theorem port_answered (m : Message) (rest : List Message) (payload : List Byte) (a : PortId) :
    (s.answered m rest payload).port a = s.port a := rfl
@[simp] theorem port_purge (i : StreamId) (first : VPage) (count : Nat) (a : PortId) :
    (s.purge i first count).port a = s.port a := rfl
@[simp] theorem port_signal (f : FrameId) (a : PortId) : (s.signal f).port a = s.port a := rfl

/-! ### frame -/

@[simp] theorem frame_setEngine (i : StreamId) (e : Engine) (a : FrameId) :
    (s.setEngine i e).frame a = s.frame a := rfl
@[simp] theorem frame_modEngine (i : StreamId) (g : Engine → Engine) (a : FrameId) :
    (s.modEngine i g).frame a = s.frame a := rfl
@[simp] theorem frame_setPort (p : PortId) (x : Port) (a : FrameId) : (s.setPort p x).frame a = s.frame a := rfl
@[simp] theorem frame_setFreeQueue (q : List FrameId) (a : FrameId) : (s.setFreeQueue q).frame a = s.frame a := rfl
@[simp] theorem frame_setWaiters (ws : List StreamId) (a : FrameId) : (s.setWaiters ws).frame a = s.frame a := rfl
@[simp] theorem frame_setDeferred (ds : List DeferredClaim) (a : FrameId) :
    (s.setDeferred ds).frame a = s.frame a := rfl
@[simp] theorem frame_setClaims (cs : List Claim) (a : FrameId) : (s.setClaims cs).frame a = s.frame a := rfl
@[simp] theorem frame_setLowArmed (armed : Bool) (a : FrameId) : (s.setLowArmed armed).frame a = s.frame a := rfl
@[simp] theorem frame_sendClaim (c : Claim) (a : FrameId) : (s.sendClaim c).frame a = s.frame a := rfl
@[simp] theorem frame_setArbiter (x : Arbiter) (a : FrameId) : (s.setArbiter x).frame a = s.frame a := rfl
@[simp] theorem frame_request (r : Requester) (q : BurstRequest) (a : FrameId) :
    (s.request r q).frame a = s.frame a := rfl
@[simp] theorem frame_withdrawRequest (i : StreamId) (a : FrameId) : (s.withdrawRequest i).frame a = s.frame a := rfl
@[simp] theorem frame_endBurst (a : FrameId) : s.endBurst.frame a = s.frame a := rfl
@[simp] theorem frame_setStore (m : Memory) (a : FrameId) : (s.setStore m).frame a = s.frame a := rfl
@[simp] theorem frame_setCommand (c : CommandUnit) (a : FrameId) : (s.setCommand c).frame a = s.frame a := rfl
@[simp] theorem frame_setStage (c : HostCommand) (g : CommandStage) (a : FrameId) :
    (s.setStage c g).frame a = s.frame a := rfl
@[simp] theorem frame_setLink (l : Link) (a : FrameId) : (s.setLink l).frame a = s.frame a := rfl
@[simp] theorem frame_post (n : Option StreamId) (fields : NoticeFields) (a : FrameId) :
    (s.post n fields).frame a = s.frame a := rfl
@[simp] theorem frame_claimTaken (a : FrameId) : s.claimTaken.frame a = s.frame a := rfl
@[simp] theorem frame_answered (m : Message) (rest : List Message) (payload : List Byte) (a : FrameId) :
    (s.answered m rest payload).frame a = s.frame a := rfl
@[simp] theorem frame_purge (i : StreamId) (first : VPage) (count : Nat) (a : FrameId) :
    (s.purge i first count).frame a = s.frame a := rfl
@[simp] theorem frame_signal (f : FrameId) (a : FrameId) : (s.signal f).frame a = s.frame a := rfl

/-! ### entry -/

@[simp] theorem entry_setEngine (i : StreamId) (e : Engine) (a : StreamId) (b : VPage) :
    (s.setEngine i e).entry a b = s.entry a b := rfl
@[simp] theorem entry_modEngine (i : StreamId) (g : Engine → Engine) (a : StreamId) (b : VPage) :
    (s.modEngine i g).entry a b = s.entry a b := rfl
@[simp] theorem entry_setPort (p : PortId) (x : Port) (a : StreamId) (b : VPage) :
    (s.setPort p x).entry a b = s.entry a b := rfl
@[simp] theorem entry_setFreeQueue (q : List FrameId) (a : StreamId) (b : VPage) :
    (s.setFreeQueue q).entry a b = s.entry a b := rfl
@[simp] theorem entry_setWaiters (ws : List StreamId) (a : StreamId) (b : VPage) :
    (s.setWaiters ws).entry a b = s.entry a b := rfl
@[simp] theorem entry_setDeferred (ds : List DeferredClaim) (a : StreamId) (b : VPage) :
    (s.setDeferred ds).entry a b = s.entry a b := rfl
@[simp] theorem entry_setClaims (cs : List Claim) (a : StreamId) (b : VPage) :
    (s.setClaims cs).entry a b = s.entry a b := rfl
@[simp] theorem entry_setLowArmed (armed : Bool) (a : StreamId) (b : VPage) :
    (s.setLowArmed armed).entry a b = s.entry a b := rfl
@[simp] theorem entry_sendClaim (c : Claim) (a : StreamId) (b : VPage) :
    (s.sendClaim c).entry a b = s.entry a b := rfl
@[simp] theorem entry_setArbiter (x : Arbiter) (a : StreamId) (b : VPage) :
    (s.setArbiter x).entry a b = s.entry a b := rfl
@[simp] theorem entry_request (r : Requester) (q : BurstRequest) (a : StreamId) (b : VPage) :
    (s.request r q).entry a b = s.entry a b := rfl
@[simp] theorem entry_withdrawRequest (i : StreamId) (a : StreamId) (b : VPage) :
    (s.withdrawRequest i).entry a b = s.entry a b := rfl
@[simp] theorem entry_endBurst (a : StreamId) (b : VPage) : s.endBurst.entry a b = s.entry a b := rfl
@[simp] theorem entry_setStore (m : Memory) (a : StreamId) (b : VPage) : (s.setStore m).entry a b = s.entry a b := rfl
@[simp] theorem entry_setCommand (c : CommandUnit) (a : StreamId) (b : VPage) :
    (s.setCommand c).entry a b = s.entry a b := rfl
@[simp] theorem entry_setStage (c : HostCommand) (g : CommandStage) (a : StreamId) (b : VPage) :
    (s.setStage c g).entry a b = s.entry a b := rfl
@[simp] theorem entry_setLink (l : Link) (a : StreamId) (b : VPage) : (s.setLink l).entry a b = s.entry a b := rfl
@[simp] theorem entry_post (n : Option StreamId) (fields : NoticeFields) (a : StreamId) (b : VPage) :
    (s.post n fields).entry a b = s.entry a b := rfl
@[simp] theorem entry_claimTaken (a : StreamId) (b : VPage) : s.claimTaken.entry a b = s.entry a b := rfl
@[simp] theorem entry_answered (m : Message) (rest : List Message) (payload : List Byte) (a : StreamId) (b : VPage) :
    (s.answered m rest payload).entry a b = s.entry a b := rfl
@[simp] theorem entry_purge (i : StreamId) (first : VPage) (count : Nat) (a : StreamId) (b : VPage) :
    (s.purge i first count).entry a b = s.entry a b := rfl
@[simp] theorem entry_signal (f : FrameId) (a : StreamId) (b : VPage) : (s.signal f).entry a b = s.entry a b := rfl

/-! ### The low mark check (R16) -/

@[simp] theorem lowMarkCheck_engines : s.lowMarkCheck.engines = s.engines := by
  unfold State.lowMarkCheck; split <;> rfl
@[simp] theorem lowMarkCheck_ports : s.lowMarkCheck.ports = s.ports := by
  unfold State.lowMarkCheck; split <;> rfl
@[simp] theorem lowMarkCheck_arbiter : s.lowMarkCheck.arbiter = s.arbiter := by
  unfold State.lowMarkCheck; split <;> rfl
@[simp] theorem lowMarkCheck_store : s.lowMarkCheck.store = s.store := by
  unfold State.lowMarkCheck; split <;> rfl
@[simp] theorem lowMarkCheck_command : s.lowMarkCheck.command = s.command := by
  unfold State.lowMarkCheck; split <;> rfl
@[simp] theorem lowMarkCheck_frames : s.lowMarkCheck.mapUnit.frames = s.mapUnit.frames := by
  unfold State.lowMarkCheck; split <;> rfl
@[simp] theorem lowMarkCheck_maps : s.lowMarkCheck.mapUnit.maps = s.mapUnit.maps := by
  unfold State.lowMarkCheck; split <;> rfl
@[simp] theorem lowMarkCheck_freeQueue : s.lowMarkCheck.mapUnit.freeQueue = s.mapUnit.freeQueue := by
  unfold State.lowMarkCheck; split <;> rfl
@[simp] theorem lowMarkCheck_waiters : s.lowMarkCheck.mapUnit.waiters = s.mapUnit.waiters := by
  unfold State.lowMarkCheck; split <;> rfl
@[simp] theorem lowMarkCheck_deferred : s.lowMarkCheck.mapUnit.deferred = s.mapUnit.deferred := by
  unfold State.lowMarkCheck; split <;> rfl
@[simp] theorem lowMarkCheck_claims : s.lowMarkCheck.mapUnit.claims = s.mapUnit.claims := by
  unfold State.lowMarkCheck; split <;> rfl
@[simp] theorem engine_lowMarkCheck (a : StreamId) : s.lowMarkCheck.engine a = s.engine a := by
  unfold State.lowMarkCheck; split <;> rfl
@[simp] theorem port_lowMarkCheck (a : PortId) : s.lowMarkCheck.port a = s.port a := by
  unfold State.lowMarkCheck; split <;> rfl
@[simp] theorem frame_lowMarkCheck (a : FrameId) : s.lowMarkCheck.frame a = s.frame a := by
  unfold State.lowMarkCheck; split <;> rfl
@[simp] theorem entry_lowMarkCheck (a : StreamId) (b : VPage) : s.lowMarkCheck.entry a b = s.entry a b := by
  unfold State.lowMarkCheck; split <;> rfl

/-! ### The port of a stream (R54) -/

@[simp] theorem modPortOf_mapUnit (i : StreamId) (g : Port → Port) : (s.modPortOf i g).mapUnit = s.mapUnit := by
  unfold State.modPortOf; split <;> rfl
@[simp] theorem modPortOf_engines (i : StreamId) (g : Port → Port) : (s.modPortOf i g).engines = s.engines := by
  unfold State.modPortOf; split <;> rfl
@[simp] theorem modPortOf_arbiter (i : StreamId) (g : Port → Port) : (s.modPortOf i g).arbiter = s.arbiter := by
  unfold State.modPortOf; split <;> rfl
@[simp] theorem modPortOf_store (i : StreamId) (g : Port → Port) : (s.modPortOf i g).store = s.store := by
  unfold State.modPortOf; split <;> rfl
@[simp] theorem modPortOf_command (i : StreamId) (g : Port → Port) : (s.modPortOf i g).command = s.command := by
  unfold State.modPortOf; split <;> rfl
@[simp] theorem modPortOf_link (i : StreamId) (g : Port → Port) : (s.modPortOf i g).link = s.link := by
  unfold State.modPortOf; split <;> rfl
@[simp] theorem engine_modPortOf (i : StreamId) (g : Port → Port) (a : StreamId) :
    (s.modPortOf i g).engine a = s.engine a := by
  unfold State.modPortOf; split <;> rfl
@[simp] theorem frame_modPortOf (i : StreamId) (g : Port → Port) (a : FrameId) :
    (s.modPortOf i g).frame a = s.frame a := by
  unfold State.modPortOf; split <;> rfl
@[simp] theorem entry_modPortOf (i : StreamId) (g : Port → Port) (a : StreamId) (b : VPage) :
    (s.modPortOf i g).entry a b = s.entry a b := by
  unfold State.modPortOf; split <;> rfl
@[simp] theorem setGate_mapUnit (i : StreamId) (isOpen : Bool) : (s.setGate i isOpen).mapUnit = s.mapUnit :=
  modPortOf_mapUnit ..
@[simp] theorem setGate_engines (i : StreamId) (isOpen : Bool) : (s.setGate i isOpen).engines = s.engines :=
  modPortOf_engines ..
@[simp] theorem setGate_arbiter (i : StreamId) (isOpen : Bool) : (s.setGate i isOpen).arbiter = s.arbiter :=
  modPortOf_arbiter ..
@[simp] theorem setGate_store (i : StreamId) (isOpen : Bool) : (s.setGate i isOpen).store = s.store :=
  modPortOf_store ..
@[simp] theorem setGate_command (i : StreamId) (isOpen : Bool) : (s.setGate i isOpen).command = s.command :=
  modPortOf_command ..
@[simp] theorem setGate_link (i : StreamId) (isOpen : Bool) : (s.setGate i isOpen).link = s.link :=
  modPortOf_link ..
@[simp] theorem engine_setGate (i : StreamId) (isOpen : Bool) (a : StreamId) :
    (s.setGate i isOpen).engine a = s.engine a := engine_modPortOf ..
@[simp] theorem frame_setGate (i : StreamId) (isOpen : Bool) (a : FrameId) :
    (s.setGate i isOpen).frame a = s.frame a := frame_modPortOf ..
@[simp] theorem entry_setGate (i : StreamId) (isOpen : Bool) (a : StreamId) (b : VPage) :
    (s.setGate i isOpen).entry a b = s.entry a b := entry_modPortOf ..
@[simp] theorem setFifo_mapUnit (i : StreamId) (words : List Word) : (s.setFifo i words).mapUnit = s.mapUnit :=
  modPortOf_mapUnit ..
@[simp] theorem setFifo_engines (i : StreamId) (words : List Word) : (s.setFifo i words).engines = s.engines :=
  modPortOf_engines ..
@[simp] theorem setFifo_arbiter (i : StreamId) (words : List Word) : (s.setFifo i words).arbiter = s.arbiter :=
  modPortOf_arbiter ..
@[simp] theorem setFifo_store (i : StreamId) (words : List Word) : (s.setFifo i words).store = s.store :=
  modPortOf_store ..
@[simp] theorem setFifo_command (i : StreamId) (words : List Word) : (s.setFifo i words).command = s.command :=
  modPortOf_command ..
@[simp] theorem setFifo_link (i : StreamId) (words : List Word) : (s.setFifo i words).link = s.link :=
  modPortOf_link ..
@[simp] theorem engine_setFifo (i : StreamId) (words : List Word) (a : StreamId) :
    (s.setFifo i words).engine a = s.engine a := engine_modPortOf ..
@[simp] theorem frame_setFifo (i : StreamId) (words : List Word) (a : FrameId) :
    (s.setFifo i words).frame a = s.frame a := frame_modPortOf ..
@[simp] theorem entry_setFifo (i : StreamId) (words : List Word) (a : StreamId) (b : VPage) :
    (s.setFifo i words).entry a b = s.entry a b := entry_modPortOf ..

/-! ### The claim taken and the command answered (R22, R149) -/

@[simp] theorem claimTaken_engines : s.claimTaken.engines = s.engines := rfl
@[simp] theorem claimTaken_ports : s.claimTaken.ports = s.ports := rfl
@[simp] theorem claimTaken_arbiter : s.claimTaken.arbiter = s.arbiter := rfl
@[simp] theorem claimTaken_store : s.claimTaken.store = s.store := rfl
@[simp] theorem claimTaken_command : s.claimTaken.command = s.command := rfl
@[simp] theorem claimTaken_link : s.claimTaken.link = s.link := rfl
@[simp] theorem claimTaken_heldInReset : s.claimTaken.heldInReset = s.heldInReset := rfl
@[simp] theorem claimTaken_powerOns : s.claimTaken.powerOns = s.powerOns := rfl
@[simp] theorem claimTaken_pending : s.claimTaken.pending = s.pending := rfl
@[simp] theorem claimTaken_frames : s.claimTaken.mapUnit.frames = s.mapUnit.frames := rfl
@[simp] theorem claimTaken_maps : s.claimTaken.mapUnit.maps = s.mapUnit.maps := rfl
@[simp] theorem claimTaken_freeQueue : s.claimTaken.mapUnit.freeQueue = s.mapUnit.freeQueue := rfl
@[simp] theorem claimTaken_waiters : s.claimTaken.mapUnit.waiters = s.mapUnit.waiters := rfl
@[simp] theorem claimTaken_deferred : s.claimTaken.mapUnit.deferred = s.mapUnit.deferred := rfl
@[simp] theorem claimTaken_lowMark : s.claimTaken.mapUnit.lowMark = s.mapUnit.lowMark := rfl
@[simp] theorem claimTaken_lowArmed : s.claimTaken.mapUnit.lowArmed = s.mapUnit.lowArmed := rfl
@[simp] theorem claimTaken_claims : s.claimTaken.mapUnit.claims = s.mapUnit.claims.tail := rfl

@[simp] theorem answered_mapUnit (m : Message) (rest : List Message) (payload : List Byte) :
    (s.answered m rest payload).mapUnit = s.mapUnit := rfl

@[simp] theorem answered_engines (m : Message) (rest : List Message) (payload : List Byte) :
    (s.answered m rest payload).engines = s.engines := rfl

@[simp] theorem answered_ports (m : Message) (rest : List Message) (payload : List Byte) :
    (s.answered m rest payload).ports = s.ports := rfl

@[simp] theorem answered_arbiter (m : Message) (rest : List Message) (payload : List Byte) :
    (s.answered m rest payload).arbiter = s.arbiter := rfl

@[simp] theorem answered_store (m : Message) (rest : List Message) (payload : List Byte) :
    (s.answered m rest payload).store = s.store := rfl

@[simp] theorem answered_heldInReset (m : Message) (rest : List Message) (payload : List Byte) :
    (s.answered m rest payload).heldInReset = s.heldInReset := rfl

@[simp] theorem answered_powerOns (m : Message) (rest : List Message) (payload : List Byte) :
    (s.answered m rest payload).powerOns = s.powerOns := rfl

@[simp] theorem answered_pending (m : Message) (rest : List Message) (payload : List Byte) :
    (s.answered m rest payload).pending = s.pending := rfl

@[simp] theorem answered_command (m : Message) (rest : List Message) (payload : List Byte) :
    (s.answered m rest payload).command = { queue := rest, current := none, execution := .ready, transfer := none } :=
  rfl

@[simp] theorem answered_replies (m : Message) (rest : List Message) (payload : List Byte) :
    (s.answered m rest payload).link.replies = s.link.replies ++ [⟨m.kind + 0x80, m.tag, payload⟩] := rfl

@[simp] theorem answered_notices (m : Message) (rest : List Message) (payload : List Byte) :
    (s.answered m rest payload).link.notices = s.link.notices := rfl

@[simp] theorem answered_shadow (m : Message) (rest : List Message) (payload : List Byte) :
    (s.answered m rest payload).link.shadow = s.link.shadow := rfl

@[simp] theorem answered_sending (m : Message) (rest : List Message) (payload : List Byte) :
    (s.answered m rest payload).link.sending = s.link.sending := rfl

@[simp] theorem answered_transaction (m : Message) (rest : List Message) (payload : List Byte) :
    (s.answered m rest payload).link.transaction = s.link.transaction := rfl

@[simp] theorem answered_csHigh (m : Message) (rest : List Message) (payload : List Byte) :
    (s.answered m rest payload).link.csHigh = s.link.csHigh := rfl

/-! ### A frame given to a capture stream (R105) -/

@[simp] theorem giveFrame_mapUnit (i : StreamId) (v : VPage) (f : FrameId) (access : Access) :
    (s.giveFrame i v f access).mapUnit = s.mapUnit := by
  unfold State.giveFrame; dsimp only; split <;> simp
@[simp] theorem giveFrame_arbiter (i : StreamId) (v : VPage) (f : FrameId) (access : Access) :
    (s.giveFrame i v f access).arbiter = s.arbiter := by
  unfold State.giveFrame; dsimp only; split <;> simp
@[simp] theorem giveFrame_store (i : StreamId) (v : VPage) (f : FrameId) (access : Access) :
    (s.giveFrame i v f access).store = s.store := by
  unfold State.giveFrame; dsimp only; split <;> simp
@[simp] theorem giveFrame_command (i : StreamId) (v : VPage) (f : FrameId) (access : Access) :
    (s.giveFrame i v f access).command = s.command := by
  unfold State.giveFrame; dsimp only; split <;> simp
@[simp] theorem giveFrame_link (i : StreamId) (v : VPage) (f : FrameId) (access : Access) :
    (s.giveFrame i v f access).link = s.link := by
  unfold State.giveFrame; dsimp only; split <;> simp
@[simp] theorem frame_giveFrame (i : StreamId) (v : VPage) (f : FrameId) (access : Access) (a : FrameId) :
    (s.giveFrame i v f access).frame a = s.frame a := by
  unfold State.giveFrame; dsimp only; split <;> simp
@[simp] theorem entry_giveFrame (i : StreamId) (v : VPage) (f : FrameId) (access : Access) (a : StreamId) (b : VPage) :
    (s.giveFrame i v f access).entry a b = s.entry a b := by
  unfold State.giveFrame; dsimp only; split <;> simp
@[simp] theorem engine_giveFrame_self (i : StreamId) (v : VPage) (f : FrameId) (access : Access) :
    (s.giveFrame i v f access).engine i =
      { s.engine i with
        state := stateGivenFrame (s.engine i).state (s.engine i).endReason
        cache := cacheInstall (s.engine i).cache v f access
        currentPage := some ⟨v, f⟩, position := ⟨v, 0⟩, faultRecord := none } := by
  unfold State.giveFrame; dsimp only; split <;> simp

end Sys2Proof.Laws
end

