-- ==== Sys2Proof/Laws/Registers.lean ====
section
/-! SUPPORT. Writing a register twice, and the port of a stream read and updated through its number (R50, R54). -/

namespace Sys2Proof.Laws

open Sys2Proof.Machine

variable (s : State) (i : StreamId) (p : PortId)

@[simp] theorem setEngine_setEngine (x y : Engine) : (s.setEngine i x).setEngine i y = s.setEngine i y := by
  simp [State.setEngine]

@[simp] theorem setPort_setPort (x y : Port) : (s.setPort p x).setPort p y = s.setPort p y := by
  simp [State.setPort]

@[simp] theorem setFrame_setFrame (f : FrameId) (x y : FrameRecord) :
    (s.setFrame f x).setFrame f y = s.setFrame f y := by
  simp [State.setFrame]

/-- Engines and ports are apart, so their updates can be put in one order. -/
theorem setPort_setEngine (e : Engine) (x : Port) : (s.setEngine i e).setPort p x = (s.setPort p x).setEngine i e := rfl

variable {s i p}

theorem portOf_bound (h : (s.engine i).port = some p) : s.portOf i = some (s.port p) := by
  simp [State.portOf, h]

theorem fifoOf_bound (h : (s.engine i).port = some p) : s.fifoOf i = (s.port p).fifo := by
  simp [State.fifoOf, portOf_bound h]

theorem modPortOf_bound (h : (s.engine i).port = some p) (g : Port → Port) :
    s.modPortOf i g = s.setPort p (g (s.port p)) := by
  simp [State.modPortOf, h]

theorem setGate_bound (h : (s.engine i).port = some p) (isOpen : Bool) :
    s.setGate i isOpen = s.setPort p { s.port p with gateOpen := isOpen } :=
  modPortOf_bound h _

theorem setFifo_bound (h : (s.engine i).port = some p) (words : List Word) :
    s.setFifo i words = s.setPort p { s.port p with fifo := words } :=
  modPortOf_bound h _

end Sys2Proof.Laws
end

