-- ==== Sys2Proof/Laws/Paging.lean ====
section
/-! SUPPORT. What the shared operations on pages do: the pages of a range, a decision that gives a stream a frame
(R105), a seal (R5), the way to DONE (R71), a hand-off to the oldest waiter (R15), the evaluation of a page (R115), its
entry by lookup (R44), its leave (R117), the completion of a segment (R78). One lemma per operation and outcome. -/

namespace Sys2Proof.Laws

open Sys2Proof.Machine

variable (s : State) (i : StreamId) (v : VPage)

/-! ### The pages of a range -/

theorem mem_pagesFrom {first : VPage} {count : Nat} {v : VPage} :
    v ∈ pagesFrom first count ↔ first ≤ v ∧ v.val < first.val + count := by
  simp only [pagesFrom, List.mem_filterMap, List.mem_range, finOf?, Fin.le_def]
  constructor
  · rintro ⟨k, hk, h⟩
    split at h
    · cases h
      simp only
      omega
    · cases h
  · rintro ⟨h, h'⟩
    refine ⟨v.val - first.val, by omega, ?_⟩
    have : first.val + (v.val - first.val) = v.val := by omega
    simp [this]

theorem pagesFrom_nodup (first : VPage) (count : Nat) : (pagesFrom first count).Nodup := by
  refine List.Nodup.filterMap (fun a b c ha hb => ?_) List.nodup_range
  simp only [finOf?, Option.mem_def] at ha hb
  split at ha <;> split at hb <;> simp_all
  have := congrArg Fin.val (ha.trans hb.symm)
  simp only at this
  omega

/-! ### A frame given to a capture stream (R105) and a hand-off (R15) -/

theorem giveFrame_engine (f : FrameId) (access : Access) :
    (s.giveFrame i v f access).engine i =
      { s.engine i with
        state := stateGivenFrame (s.engine i).state (s.engine i).endReason
        cache := cacheInstall (s.engine i).cache v f access
        currentPage := some ⟨v, f⟩, position := ⟨v, 0⟩, faultRecord := none } := by
  unfold State.giveFrame
  dsimp only
  split <;> simp

theorem giveFrame_engine_other {j : StreamId} (h : i ≠ j) (f : FrameId) (access : Access) :
    (s.giveFrame i v f access).engine j = s.engine j := by
  unfold State.giveFrame
  dsimp only
  split <;> simp [State.modEngine, engine_setEngine_other _ _ _ _ h]

variable {s i v}

/-- R11: a frame that other entries name stays BOUND. -/
theorem release_shared {f : FrameId} {n : Nat} (more : (s.frame f).refcount = n + 2) :
    s.release f = s.setFrame f { s.frame f with refcount := n + 1 } := by
  simp [State.release, more]

/-- R11, R16: with no waiter, a frame brought to refcount 0 goes to the tail of the queue. -/
theorem release_returned {f : FrameId} (one : (s.frame f).refcount = 1) (none_waits : s.mapUnit.waiters = []) :
    s.release f =
      ((s.setFrame f { s.frame f with refcount := 0, state := .free, writer := none }).setFreeQueue
        (s.mapUnit.freeQueue ++ [f])).setLowArmed
        (s.mapUnit.lowArmed || s.mapUnit.lowMark ≤ (s.mapUnit.freeQueue ++ [f]).length) := by
  have none_waits : (s.setFrame f { s.frame f with refcount := 0 }).mapUnit.waiters = [] := none_waits
  simp only [State.release, one, frame_setFrame_self, Nat.sub_self, if_true, none_waits, State.handOff,
    State.returnToQueue, setFrame_setFrame]
  split <;> rename_i mark
  · rw [decide_eq_true (by exact mark), Bool.or_true]
    rfl
  · rw [decide_eq_false (by exact mark), Bool.or_false]
    rfl

/-- R15: a release that brings a frame to refcount 0 issues it to the oldest waiter, if that stream is to allocate. -/
theorem release_handOff {f : FrameId} {w : StreamId} {u : VPage} {others : List StreamId} (one : (s.frame f).refcount = 1)
    (waits : s.mapUnit.waiters = w :: others) (live : (s.engine w).restart = .none)
    (record : (s.engine w).faultRecord = some ⟨u, .poolEmpty⟩) (policy : (s.engine w).faultPolicy = some .allocate)
    (absent : s.entry w u = none) :
    s.release f =
      (((((s.setFrame f { s.frame f with refcount := 0 }).setWaiters others).issue f (some w)).setEntry w u
        (some ⟨f, .readWrite⟩)).giveFrame w u f .readWrite) := by
  have waits : (s.setFrame f { s.frame f with refcount := 0 }).mapUnit.waiters = w :: others := waits
  simp only [State.release, one, frame_setFrame_self, Nat.sub_self, if_true, waits, State.handOff]
  have decides :
      ((s.setFrame f { s.frame f with refcount := 0 }).setWaiters others).decideWrite w u (some f) = .allocate f := by
    simp [State.decideWrite, policy, absent]
  simp [Engine.stoppedByRestart, live, record, decides, WriteDecision.issues, State.applyWrite, State.issueFor]

/-- R15, step 3: a waiter whose decision issues the frame takes it. -/
theorem handOff_issues {f : FrameId} {w : StreamId} {others : List StreamId} {r : FaultRecord} {d : WriteDecision}
    (live : (s.engine w).restart = .none) (record : (s.engine w).faultRecord = some r)
    (decides : (s.setWaiters others).decideWrite w r.vpage (some f) = d) (issues : d.issues = true) :
    s.handOff (w :: others) f = (s.setWaiters others).applyWrite w r.vpage true d := by
  simp [State.handOff, Engine.stoppedByRestart, live, record, decides, issues]

/-- R15, steps 4 and 5: a waiter whose decision does not issue the frame leaves the list, its claim settled. -/
theorem handOff_passes {f : FrameId} {w : StreamId} {others : List StreamId} {r : FaultRecord} {d : WriteDecision}
    (live : (s.engine w).restart = .none) (record : (s.engine w).faultRecord = some r)
    (decides : (s.setWaiters others).decideWrite w r.vpage (some f) = d) (issues : d.issues = false) :
    s.handOff (w :: others) f = ((s.setWaiters others).applyWrite w r.vpage true d).handOff others f := by
  simp [State.handOff, Engine.stoppedByRestart, live, record, decides, issues]

/-- R166: a waiter that has answered a RESTART leaves the list. -/
theorem handOff_stopped {f : FrameId} {w : StreamId} {others : List StreamId} {answer : Option (FrameId × Nat)}
    (stopped : (s.engine w).restart = .answered answer) :
    s.handOff (w :: others) f = (s.setWaiters others).handOff others f := by
  simp [State.handOff, Engine.stoppedByRestart, stopped]

/-! ### Seals (R5) and the way to DONE (R71) -/

theorem signal_engine (f : FrameId) (j : StreamId) : (s.signal f).engine j = (s.engine j).signalled f 1 := by
  simp [State.signal, State.engine, Engine.signalled, List.replicate]

theorem signalled_signalled (e : Engine) (f : FrameId) : (e.signalled f 1).signalled f 1 = e.signalled f 2 := by
  simp only [Engine.signalled]
  split <;> simp_all [List.replicate]

/-- R4, R5: a seal of an unsealed frame, with the fill that it carries. -/
theorem sealAt_frame {f : FrameId} (unsealed : (s.frame f).isSealed = false) (carried : Option Nat) :
    (s.sealAt f carried).frame f =
      { s.frame f with fill := carried.getD (s.frame f).fill, isSealed := true, writer := none } := by
  have kept : ∀ (t : State) g, (t.signal f).frame g = t.frame g := fun _ _ => rfl
  cases carried with
  | none => simp [State.sealAt, State.sealFrame, unsealed, kept]
  | some offset =>
    by_cases rose : (s.frame f).fill < offset <;>
      simp [State.sealAt, State.setFill, State.sealFrame, rose, kept, unsealed]

/-- R4, R5: the readers are signalled for the fill, if it rose, and for the seal. -/
theorem sealAt_engine {f : FrameId} (unsealed : (s.frame f).isSealed = false) (carried : Option Nat) (j : StreamId) :
    (s.sealAt f carried).engine j =
      (s.engine j).signalled f (if (s.frame f).fill < carried.getD (s.frame f).fill then 2 else 1) := by
  have kept : ∀ (t : State) g, (t.signal f).frame g = t.frame g := fun _ _ => rfl
  cases carried with
  | none => simp [State.sealAt, State.sealFrame, unsealed, signal_engine]
  | some offset =>
    by_cases rose : (s.frame f).fill < offset
    · simp [State.sealAt, State.setFill, State.sealFrame, rose, kept, unsealed, signal_engine, signalled_signalled]
    · simp [State.sealAt, State.setFill, State.sealFrame, rose, unsealed, signal_engine]

theorem enterDone_bound {p : PortId} (port : (s.engine i).port = some p) (reason : EndReason) :
    s.enterDone i reason =
      ((s.setPort p { s.port p with gateOpen := false }).setEngine i
        { s.engine i with
          state := .done, endReason := some reason, currentPage := none, activeSlot := none, faultRecord := none
          lookFill := none, due := .none }).post (some i) (.streamEnd reason (s.engine i).position none) := by
  simp only [State.enterDone]
  rw [setGate_bound (p := p) port]
  simp [State.modEngine]

/-! ### Replay pages -/

/-- R115: a current page is kept with a look, marked to be left (log entry 8), or waited on. -/
theorem evaluateEntry_current {e : Engine} {c : CurrentPage} (current : e.currentPage = some c) :
    (s.setEngine i e).evaluateEntry i = s.setEngine i
      (if e.position.offset < (s.frame c.frame).fill then
        { e with state := .running, lookFill := some (s.frame c.frame).fill, due := .none }
      else if (s.frame c.frame).isSealed then { e with state := .running, lookFill := none, due := .leave }
      else { e with state := .waitData, lookFill := none, due := .none }) := by
  simp only [State.evaluateEntry, engine_setEngine_self, current, State.fillLook, State.modEngine, setEngine_setEngine,
    frame_setEngine]
  by_cases below : e.position.offset < (s.frame c.frame).fill
  · simp [below]
  · by_cases closed : (s.frame c.frame).isSealed = true <;> simp [below, closed]

/-- R44: a lookup that misses. -/
theorem enterReplayPage_miss {e : Engine} (miss : cacheLookup e.cache e.position.vpage = none) :
    (s.setEngine i e).enterReplayPage i =
      (s.setEngine i
        { e with
          counters := { e.counters with cacheMisses := e.counters.cacheMisses + 1 }
          due := .none, lookFill := none }).sendClaim (.engine i (.read e.position.vpage)) := by
  simp only [State.enterReplayPage, engine_setEngine_self, miss, State.modEngine, setEngine_setEngine]

/-- R44: a lookup that hits, before the page is evaluated. -/
theorem enterReplayPage_hit {e : Engine} {entry : CacheEntry}
    (hit : cacheLookup e.cache e.position.vpage = some entry) :
    (s.setEngine i e).enterReplayPage i =
      (s.setEngine i
        { e.hit entry with
          currentPage := some ⟨e.position.vpage, entry.frame⟩, due := .none, lookFill := none }).evaluateEntry i := by
  simp only [State.enterReplayPage, engine_setEngine_self, hit, State.modEngine, setEngine_setEngine]

/-- R117, step 4: a leave that does not complete its segment goes to the next page. -/
theorem afterReplayLeave_next {e : Engine} {d : Descriptor} (active : e.activeDescriptor = some d)
    (toGo : e.pagesToGo = none) (inside : d.mode = .loop ∨ v.val + 1 ≠ d.first.val + d.count) :
    (s.setEngine i e).afterReplayLeave i v =
      s.setEngine i
        { e with
          currentPage := none, position := ⟨nextPageOf d v, 0⟩, due := .entering, lookFill := none } := by
  have next : ∀ e' : Engine, e'.activeDescriptor = some d → e'.nextPage v = nextPageOf d v := fun e' h => by
    simp only [Engine.nextPage, h]
  have goes : ∀ e' : Engine, e'.activeDescriptor = some d → e'.pagesToGo = none → e'.completes v = false :=
    fun e' h h' => by
      rcases inside with h'' | h''
      · simp [Engine.completes, h, h', h'']
      · simp only [Engine.completes, h, h', isLastPage]
        cases d.mode <;> simp [h'']
  simp only [State.afterReplayLeave, State.modEngine, engine_setEngine_self, setEngine_setEngine]
  rw [if_neg (by rw [goes _ (by exact active) (by exact toGo)]; simp)]
  simp only [State.advancePage, State.goToNextPage, State.modEngine, engine_setEngine_self, setEngine_setEngine]
  rw [next _ (by exact active)]

/-- R117, step 2: under RELEASE the leave waits for its claim. -/
theorem leaveReplayPage_release {e : Engine} (policy : e.releasePolicy = some .release) :
    (s.setEngine i e).leaveReplayPage i v =
      (s.setEngine i { e.countLeave v with state := .running, lookFill := none, due := .none }).sendClaim
        (.engine i (.release v)) := by
  have policy : (e.countLeave v).releasePolicy = some .release := policy
  simp only [State.leaveReplayPage, State.modEngine, engine_setEngine_self, setEngine_setEngine, policy]

/-- R117, step 2: under KEEP the leave goes on at once. -/
theorem leaveReplayPage_keep {e : Engine} (policy : e.releasePolicy = some .keep) :
    (s.setEngine i e).leaveReplayPage i v =
      (s.setEngine i { e.countLeave v with state := .running, lookFill := none, due := .none }).afterReplayLeave i v := by
  have policy : (e.countLeave v).releasePolicy = some .keep := policy
  simp only [State.leaveReplayPage, State.modEngine, engine_setEngine_self, setEngine_setEngine, policy]

/-- R78 to R82: a completed segment of a replay stream chains to the other slot, or ends. -/
theorem completeSegment_replay {e : Engine} {p : PortId} {name : SlotName} {d : Descriptor}
    (replay : e.direction = some .replay) (port : e.port = some p) (active : e.activeSlot = some name)
    (slot : e.slot name = some d) :
    (s.setEngine i e).completeSegment i v =
      let posted := s.post (some i) (.segmentDone name e.activationPages)
      let ending (reason : EndReason) (state : StreamState) : Engine :=
        { e with
          state := state, endReason := some reason, position := ⟨v, 0⟩, currentPage := none, pagesToGo := none
          lookFill := none, due := .none }
      let ended (reason : EndReason) : State :=
        if (s.port p).fifo = [] then
          ((posted.setPort p { s.port p with gateOpen := false }).setEngine i
            { (ending reason .done).setSlot name none with activeSlot := none, faultRecord := none }).post (some i)
            (.streamEnd reason ⟨v, 0⟩ none)
        else posted.setEngine i (ending reason .stopping)
      if d.link = false then ended .completed
      else
        match e.slot (otherSlot name) with
        | none => ended .starved
        | some other =>
          posted.setEngine i
            { e.setSlot name none with
              activeSlot := some (otherSlot name), position := ⟨other.first, 0⟩, pagesToGo := none
              triggerRecord := none, activationPages := 0, lookFill := none, due := .entering } := by
  have descriptor : e.activeDescriptor = some d := by simp [Engine.activeDescriptor, active, slot]
  have moved : ∀ (t : State) x l, (t.setEngine i x).setLink l = (t.setLink l).setEngine i x := fun _ _ _ => rfl
  simp only [State.completeSegment, engine_setEngine_self, active, descriptor, engine_modEngine_self]
  obtain ⟨state, direction, bound, policy, releases, slotA, slotB, selected⟩ := e
  simp only at replay port active
  subst replay port active
  cases d.link with
  | false =>
    cases words : (s.port p).fifo <;> cases name <;>
      simp [State.modEngine, State.post, State.endSegment, State.fifoOf, State.portOf, words,
        State.finishEmptying, State.enterDone, State.setGate, State.modPortOf, Engine.emptyActiveSlot, Engine.setSlot,
        setPort_setEngine, moved]
  | true =>
    cases name <;> simp only [Engine.slot, otherSlot] at *
    · cases slotB with
      | none =>
        cases words : (s.port p).fifo <;>
          simp [State.modEngine, State.post, State.endSegment, State.fifoOf, State.portOf, words,
            State.finishEmptying, State.enterDone, State.setGate, State.modPortOf, Engine.emptyActiveSlot,
            Engine.setSlot, setPort_setEngine, moved]
      | some other =>
        simp [State.modEngine, State.post, Engine.activate, State.enterChained, State.goToNextPage, Engine.setSlot,
          Engine.slot, moved]
    · cases slotA with
      | none =>
        cases words : (s.port p).fifo <;>
          simp [State.modEngine, State.post, State.endSegment, State.fifoOf, State.portOf, words,
            State.finishEmptying, State.enterDone, State.setGate, State.modPortOf, Engine.emptyActiveSlot,
            Engine.setSlot, setPort_setEngine, moved]
      | some other =>
        simp [State.modEngine, State.post, Engine.activate, State.enterChained, State.goToNextPage, Engine.setSlot,
          Engine.slot, moved]

end Sys2Proof.Laws
end

