-- ==== Sys2Proof/Laws/PerInstr.lean ====
section
/-! SUPPORT. One statement about every row of the table, and one lemma per constructor: a step is well formed exactly
when its operands lie in the ranges that the manual gives (R17, R30, R33, R35, R37, R76, R134, R137, R142, R143,
R145). -/

namespace Sys2Proof.Laws.OperandsOk

/-- A range of pages within a map, of at most `limit` pages (R30, R37). -/
def PageRange (first : VPage) (count limit : Nat) : Prop := 1 ≤ count ∧ count ≤ limit ∧ first.val + count ≤ 512

/-- The ranges of a step's operands that its types leave open, as the manual gives them. -/
def Ranges (i : Instr) : Prop :=
  match i with
  | .unmap _ first count => PageRange first count 512
  | .protect _ _ first count => PageRange first count 512
  | .share _ _ _ sourceFirst destinationFirst count =>
    PageRange sourceFirst count 512 ∧ PageRange destinationFirst count 512
  | .queryMap _ first count => PageRange first count 32
  | .setPoolMark mark => mark ≤ 4096
  | .arm _ _ descriptor =>
    descriptor.count ≤ 512 ∧ descriptor.postTrigger ≤ 511 ∧
      (descriptor.count = 0 ∨ descriptor.first.val + descriptor.count ≤ 512)
  | .readData _ _ offset length =>
    offset % 2 = 0 ∧ offset ≤ 4094 ∧ length % 2 = 0 ∧ 2 ≤ length ∧ length ≤ 256
  | .writeData _ _ offset data =>
    offset % 2 = 0 ∧ offset ≤ 4094 ∧ data.length % 2 = 0 ∧ 2 ≤ data.length ∧ data.length ≤ 256
  | .badStart first => first ≠ 0xA5 ∧ first ≠ 0x5A
  | .oversize _ _ length => 264 < length.toNat
  | .inboundMessage _ _ payload _ => payload.length ≤ 264
  | .hello | .restartStreams | .restartAll | .map _ _ _ _ | .queryFrame _ | .poolStatus
  | .openStream _ _ _ _ _ | .closeStream _ _ | .start _ _ | .pause _ | .resume _ | .stop _ | .abort _
  | .trigger _ | .queryStream _ | .sealPage _ _ | .writeDataCompletion | .commandTake | .csNFall | .readSelect
  | .sendComplete | .csNRise | .powerOn | .pinReset | .resetEnd | .poolInitAppend | .poolInitComplete
  | .captureStrobe _ _ | .replayStrobe _ | .triggerEdge _ | .pendingEdgeTaken _ | .captureBurstRequest _
  | .replayBurstRequest _ | .arbiterGrant | .captureBurstComplete _ | .replayBurstComplete _
  | .hostBurstComplete | .fillReport _ | .leaveSealClaim _ | .endingSealClaim _ | .writeClaim _ | .readClaim _
  | .waitDataSignal _ | .releaseClaim _ | .engineRestart _ | .restartClaim | .writeTransactionStart => True

/-- A step is well formed exactly when its operands lie in their ranges. -/
def Statement (i : Instr) : Prop := i.wellFormed = true ↔ Ranges i

theorem pageRangeOk_iff (first : VPage) (count limit : Nat) :
    Machine.pageRangeOk first count limit = true ↔ PageRange first count limit := by
  simp [Machine.pageRangeOk, PageRange, and_assoc]

theorem transferOk_iff (offset length : Nat) :
    (offset % 2 == 0 && offset ≤ 4094 && length % 2 == 0 && 2 ≤ length && length ≤ 256) = true ↔
      offset % 2 = 0 ∧ offset ≤ 4094 ∧ length % 2 = 0 ∧ 2 ≤ length ∧ length ≤ 256 := by
  simp [and_assoc]

theorem descriptorOk_iff (d : Descriptor) :
    (d.count ≤ 512 && d.postTrigger ≤ 511 && (d.count == 0 || d.first.val + d.count ≤ 512)) = true ↔
      d.count ≤ 512 ∧ d.postTrigger ≤ 511 ∧ (d.count = 0 ∨ d.first.val + d.count ≤ 512) := by
  simp [and_assoc]

theorem hello : Statement .hello := ⟨fun _ => trivial, fun _ => rfl⟩

theorem restartStreams : Statement .restartStreams := ⟨fun _ => trivial, fun _ => rfl⟩

theorem restartAll : Statement .restartAll := ⟨fun _ => trivial, fun _ => rfl⟩

theorem map (stream : StreamId) (access : Access) (vpage : VPage) (frame : Option FrameId) :
    Statement (.map stream access vpage frame) := ⟨fun _ => trivial, fun _ => rfl⟩

theorem unmap (stream : StreamId) (first : VPage) (count : Nat) : Statement (.unmap stream first count) := pageRangeOk_iff ..

theorem protect (stream : StreamId) (access : Access) (first : VPage) (count : Nat) :
    Statement (.protect stream access first count) := pageRangeOk_iff ..

theorem share (source destination : StreamId) (access : Access) (sourceFirst destinationFirst : VPage) (count : Nat) :
    Statement (.share source destination access sourceFirst destinationFirst count) := 
  Bool.and_eq_true_iff.trans (and_congr (pageRangeOk_iff ..) (pageRangeOk_iff ..))

theorem queryMap (stream : StreamId) (first : VPage) (count : Nat) : Statement (.queryMap stream first count) := pageRangeOk_iff ..

theorem queryFrame (frame : FrameId) : Statement (.queryFrame frame) := ⟨fun _ => trivial, fun _ => rfl⟩

theorem poolStatus : Statement .poolStatus := ⟨fun _ => trivial, fun _ => rfl⟩

theorem setPoolMark (mark : Nat) : Statement (.setPoolMark mark) := decide_eq_true_iff

theorem openStream (stream : StreamId) (direction : Direction) (port : PortId) (fault : FaultPolicy) (policy : ReleasePolicy) :
    Statement (.openStream stream direction port fault policy) := ⟨fun _ => trivial, fun _ => rfl⟩

theorem closeStream (stream : StreamId) (releaseMap : Bool) : Statement (.closeStream stream releaseMap) := ⟨fun _ => trivial, fun _ => rfl⟩

theorem arm (stream : StreamId) (slot : SlotName) (descriptor : Descriptor) :
    Statement (.arm stream slot descriptor) := descriptorOk_iff _

theorem start (stream : StreamId) (slot : SlotName) : Statement (.start stream slot) := ⟨fun _ => trivial, fun _ => rfl⟩

theorem pause (stream : StreamId) : Statement (.pause stream) := ⟨fun _ => trivial, fun _ => rfl⟩

theorem resume (stream : StreamId) : Statement (.resume stream) := ⟨fun _ => trivial, fun _ => rfl⟩

theorem stop (stream : StreamId) : Statement (.stop stream) := ⟨fun _ => trivial, fun _ => rfl⟩

theorem abort (stream : StreamId) : Statement (.abort stream) := ⟨fun _ => trivial, fun _ => rfl⟩

theorem trigger (stream : StreamId) : Statement (.trigger stream) := ⟨fun _ => trivial, fun _ => rfl⟩

theorem queryStream (stream : StreamId) : Statement (.queryStream stream) := ⟨fun _ => trivial, fun _ => rfl⟩

theorem readData (stream : StreamId) (vpage : VPage) (offset length : Nat) :
    Statement (.readData stream vpage offset length) := transferOk_iff ..

theorem writeData (stream : StreamId) (vpage : VPage) (offset : Nat) (data : List Byte) :
    Statement (.writeData stream vpage offset data) := transferOk_iff ..

theorem sealPage (stream : StreamId) (vpage : VPage) : Statement (.sealPage stream vpage) := ⟨fun _ => trivial, fun _ => rfl⟩

theorem writeDataCompletion : Statement .writeDataCompletion := ⟨fun _ => trivial, fun _ => rfl⟩

theorem commandTake : Statement .commandTake := ⟨fun _ => trivial, fun _ => rfl⟩

theorem csNFall : Statement .csNFall := ⟨fun _ => trivial, fun _ => rfl⟩

theorem badStart (first : Byte) : Statement (.badStart first) := by
  show (first != 0xA5 && first != 0x5A) = true ↔ first ≠ 0xA5 ∧ first ≠ 0x5A
  simp

theorem oversize (kind tag : Byte) (length : Word) : Statement (.oversize kind tag length) := decide_eq_true_iff

theorem inboundMessage (kind tag : Byte) (payload : List Byte) (crc : Word) :
    Statement (.inboundMessage kind tag payload crc) := decide_eq_true_iff

theorem readSelect : Statement .readSelect := ⟨fun _ => trivial, fun _ => rfl⟩

theorem sendComplete : Statement .sendComplete := ⟨fun _ => trivial, fun _ => rfl⟩

theorem csNRise : Statement .csNRise := ⟨fun _ => trivial, fun _ => rfl⟩

theorem powerOn : Statement .powerOn := ⟨fun _ => trivial, fun _ => rfl⟩

theorem pinReset : Statement .pinReset := ⟨fun _ => trivial, fun _ => rfl⟩

theorem resetEnd : Statement .resetEnd := ⟨fun _ => trivial, fun _ => rfl⟩

theorem poolInitAppend : Statement .poolInitAppend := ⟨fun _ => trivial, fun _ => rfl⟩

theorem poolInitComplete : Statement .poolInitComplete := ⟨fun _ => trivial, fun _ => rfl⟩

theorem captureStrobe (port : PortId) (word : Word) : Statement (.captureStrobe port word) := ⟨fun _ => trivial, fun _ => rfl⟩

theorem replayStrobe (port : PortId) : Statement (.replayStrobe port) := ⟨fun _ => trivial, fun _ => rfl⟩

theorem triggerEdge (port : PortId) : Statement (.triggerEdge port) := ⟨fun _ => trivial, fun _ => rfl⟩

theorem pendingEdgeTaken (stream : StreamId) : Statement (.pendingEdgeTaken stream) := ⟨fun _ => trivial, fun _ => rfl⟩

theorem captureBurstRequest (stream : StreamId) : Statement (.captureBurstRequest stream) := ⟨fun _ => trivial, fun _ => rfl⟩

theorem replayBurstRequest (stream : StreamId) : Statement (.replayBurstRequest stream) := ⟨fun _ => trivial, fun _ => rfl⟩

theorem arbiterGrant : Statement .arbiterGrant := ⟨fun _ => trivial, fun _ => rfl⟩

theorem captureBurstComplete (stream : StreamId) : Statement (.captureBurstComplete stream) := ⟨fun _ => trivial, fun _ => rfl⟩

theorem replayBurstComplete (stream : StreamId) : Statement (.replayBurstComplete stream) := ⟨fun _ => trivial, fun _ => rfl⟩

theorem hostBurstComplete : Statement .hostBurstComplete := ⟨fun _ => trivial, fun _ => rfl⟩

theorem fillReport (stream : StreamId) : Statement (.fillReport stream) := ⟨fun _ => trivial, fun _ => rfl⟩

theorem leaveSealClaim (stream : StreamId) : Statement (.leaveSealClaim stream) := ⟨fun _ => trivial, fun _ => rfl⟩

theorem endingSealClaim (stream : StreamId) : Statement (.endingSealClaim stream) := ⟨fun _ => trivial, fun _ => rfl⟩

theorem writeClaim (stream : StreamId) : Statement (.writeClaim stream) := ⟨fun _ => trivial, fun _ => rfl⟩

theorem readClaim (stream : StreamId) : Statement (.readClaim stream) := ⟨fun _ => trivial, fun _ => rfl⟩

theorem waitDataSignal (stream : StreamId) : Statement (.waitDataSignal stream) := ⟨fun _ => trivial, fun _ => rfl⟩

theorem releaseClaim (stream : StreamId) : Statement (.releaseClaim stream) := ⟨fun _ => trivial, fun _ => rfl⟩

theorem engineRestart (stream : StreamId) : Statement (.engineRestart stream) := ⟨fun _ => trivial, fun _ => rfl⟩

theorem restartClaim : Statement .restartClaim := ⟨fun _ => trivial, fun _ => rfl⟩

theorem writeTransactionStart : Statement .writeTransactionStart := ⟨fun _ => trivial, fun _ => rfl⟩

end Sys2Proof.Laws.OperandsOk
end

