-- ==== Sys2Proof/Laws/Release.lean ====
section
/-! SUPPORT. What the release of a range of pages does (R11, R32, R38): part by part; where no waiter takes a frame; and
that it does not read the command unit, so that a CLOSE releases as an UNMAP does. -/

namespace Sys2Proof.Laws

open Sys2Proof.Machine

/-! ### The work of the map unit does not read the command unit -/

section Command

variable (s : State) (c : CommandUnit)

@[simp] theorem modEngine_setCommand (i : StreamId) (g : Engine → Engine) :
    (s.setCommand c).modEngine i g = (s.modEngine i g).setCommand c := rfl

@[simp] theorem setEngine_setCommand (i : StreamId) (e : Engine) :
    (s.setCommand c).setEngine i e = (s.setEngine i e).setCommand c := rfl

@[simp] theorem setPort_setCommand (p : PortId) (x : Port) :
    (s.setCommand c).setPort p x = (s.setPort p x).setCommand c := rfl

@[simp] theorem setFrame_setCommand (f : FrameId) (r : FrameRecord) :
    (s.setCommand c).setFrame f r = (s.setFrame f r).setCommand c := rfl

@[simp] theorem setEntry_setCommand (i : StreamId) (v : VPage) (e : Option MapEntry) :
    (s.setCommand c).setEntry i v e = (s.setEntry i v e).setCommand c := rfl

@[simp] theorem setFreeQueue_setCommand (q : List FrameId) :
    (s.setCommand c).setFreeQueue q = (s.setFreeQueue q).setCommand c := rfl

@[simp] theorem setWaiters_setCommand (ws : List StreamId) :
    (s.setCommand c).setWaiters ws = (s.setWaiters ws).setCommand c := rfl

@[simp] theorem setDeferred_setCommand (ds : List DeferredClaim) :
    (s.setCommand c).setDeferred ds = (s.setDeferred ds).setCommand c := rfl

@[simp] theorem setClaims_setCommand (cs : List Claim) :
    (s.setCommand c).setClaims cs = (s.setClaims cs).setCommand c := rfl

@[simp] theorem setLowArmed_setCommand (a : Bool) :
    (s.setCommand c).setLowArmed a = (s.setLowArmed a).setCommand c := rfl

@[simp] theorem sendClaim_setCommand (x : Claim) :
    (s.setCommand c).sendClaim x = (s.sendClaim x).setCommand c := rfl

@[simp] theorem sendSeal_setCommand (i : StreamId) (x : Option Nat → EngineClaim) :
    (s.setCommand c).sendSeal i x = (s.sendSeal i x).setCommand c := rfl

@[simp] theorem purge_setCommand (i : StreamId) (v : VPage) (n : Nat) :
    (s.setCommand c).purge i v n = (s.purge i v n).setCommand c := rfl

@[simp] theorem issue_setCommand (f : FrameId) (w : Option StreamId) :
    (s.setCommand c).issue f w = (s.issue f w).setCommand c := rfl

@[simp] theorem post_setCommand (i : Option StreamId) (n : NoticeFields) :
    (s.setCommand c).post i n = (s.post i n).setCommand c := rfl

@[simp] theorem modPortOf_setCommand (i : StreamId) (g : Port → Port) :
    (s.setCommand c).modPortOf i g = (s.modPortOf i g).setCommand c := by
  unfold State.modPortOf
  rw [engine_setCommand]
  split <;> rfl

@[simp] theorem setGate_setCommand (i : StreamId) (b : Bool) :
    (s.setCommand c).setGate i b = (s.setGate i b).setCommand c := modPortOf_setCommand ..

@[simp] theorem setFifo_setCommand (i : StreamId) (ws : List Word) :
    (s.setCommand c).setFifo i ws = (s.setFifo i ws).setCommand c := modPortOf_setCommand ..

@[simp] theorem fifoOf_setCommand (i : StreamId) : (s.setCommand c).fifoOf i = s.fifoOf i := rfl

@[simp] theorem discardCapture_setCommand (i : StreamId) :
    (s.setCommand c).discardCapture i = (s.discardCapture i).setCommand c := by
  simp [State.discardCapture]

@[simp] theorem enterDone_setCommand (i : StreamId) (r : EndReason) :
    (s.setCommand c).enterDone i r = (s.enterDone i r).setCommand c := by
  simp [State.enterDone]

@[simp] theorem enterFailed_setCommand (i : StreamId) (v : VPage) :
    (s.setCommand c).enterFailed i v = (s.enterFailed i v).setCommand c := by
  simp [State.enterFailed]

@[simp] theorem stopInFault_setCommand (i : StreamId) (r : EndReason) :
    (s.setCommand c).stopInFault i r = (s.stopInFault i r).setCommand c := by
  simp only [State.stopInFault, setGate_setCommand, discardCapture_setCommand, modEngine_setCommand, engine_setCommand]
  split <;> simp

@[simp] theorem enterFault_setCommand (i : StreamId) (v : VPage) (r : FaultReason) :
    (s.setCommand c).enterFault i v r = (s.enterFault i v r).setCommand c := by
  simp only [State.enterFault, setGate_setCommand, modEngine_setCommand, engine_setCommand, post_setCommand]
  split <;> simp

@[simp] theorem giveFrame_setCommand (i : StreamId) (v : VPage) (f : FrameId) (a : Access) :
    (s.setCommand c).giveFrame i v f a = (s.giveFrame i v f a).setCommand c := by
  simp only [State.giveFrame, setGate_setCommand, modEngine_setCommand, engine_setCommand]
  split <;> simp

@[simp] theorem lowMarkCheck_setCommand : (s.setCommand c).lowMarkCheck = s.lowMarkCheck.setCommand c := by
  simp only [State.lowMarkCheck, setCommand_mapUnit, setLowArmed_setCommand, post_setCommand]
  exact (apply_ite (fun t : State => t.setCommand c) _ _ _).symm

@[simp] theorem issueFor_setCommand (i : StreamId) (f : FrameId) (b : Bool) :
    (s.setCommand c).issueFor i f b = (s.issueFor i f b).setCommand c := by
  unfold State.issueFor State.issueFromQueue
  split <;> simp

@[simp] theorem decideWrite_setCommand (i : StreamId) (v : VPage) (n : Option FrameId) :
    (s.setCommand c).decideWrite i v n = s.decideWrite i v n := rfl

@[simp] theorem applyWrite_setCommand (i : StreamId) (v : VPage) (b : Bool) (d : WriteDecision) :
    (s.setCommand c).applyWrite i v b d = (s.applyWrite i v b d).setCommand c := by
  cases d <;> simp [State.applyWrite]

@[simp] theorem returnToQueue_setCommand (f : FrameId) :
    (s.setCommand c).returnToQueue f = (s.returnToQueue f).setCommand c := by
  simp only [State.returnToQueue, setFrame_setCommand, frame_setCommand, setFreeQueue_setCommand,
    setLowArmed_setCommand, setCommand_mapUnit]
  exact (apply_ite (fun t : State => t.setCommand c) _ _ _).symm

@[simp] theorem handOff_setCommand (ws : List StreamId) (f : FrameId) :
    (s.setCommand c).handOff ws f = (s.handOff ws f).setCommand c := by
  induction ws generalizing s with
  | nil => simp [State.handOff]
  | cons w ws ih =>
    simp only [State.handOff, setWaiters_setCommand, engine_setCommand, decideWrite_setCommand, applyWrite_setCommand,
      ih]
    split
    · rfl
    · split
      · rfl
      · split <;> rfl

@[simp] theorem release_setCommand (f : FrameId) :
    (s.setCommand c).release f = (s.release f).setCommand c := by
  simp only [State.release, frame_setCommand, setFrame_setCommand, setCommand_mapUnit, handOff_setCommand]
  exact (apply_ite (fun t : State => t.setCommand c) _ _ _).symm

/-- The release of a range leaves the command unit as it is and does not depend on it. -/
theorem releasePages_setCommand (i : StreamId) (vs : List VPage) :
    (s.setCommand c).releasePages i vs =
      { s.releasePages i vs with state := (s.releasePages i vs).state.setCommand c } := by
  induction vs generalizing s with
  | nil => rfl
  | cons v vs ih =>
    simp only [State.releasePages, entry_setCommand, engine_setCommand, setEntry_setCommand, release_setCommand,
      frame_setCommand, ih]
    split
    · rfl
    · split <;> rfl

end Command

/-! ### A range, part by part -/

section Range

variable {s : State} {i : StreamId}

/-- A range is passed over page by page: its first part, and then the rest. -/
theorem releasePages_append (first rest : List VPage) :
    s.releasePages i (first ++ rest) =
      let r := s.releasePages i first
      let r' := r.state.releasePages i rest
      ⟨r'.state, r.entries + r'.entries, r.frames + r'.frames⟩ := by
  induction first generalizing s with
  | nil => simp [State.releasePages]
  | cons v first ih =>
    simp only [List.cons_append, State.releasePages]
    split
    · exact ih
    · split
      · exact ih
      · simp only [ih]
        congr 1 <;> omega

/-- The frames that a list of a stream's pages names. -/
abbrev namedFrames (s : State) (i : StreamId) (vs : List VPage) : List FrameId :=
  vs.filterMap fun v => (s.entry i v).map fun e => e.frame

/-- R11, R16: a frame whose refcount is not 1, or that no stream waits for, is released without a hand-off. -/
theorem release_kept {f : FrameId} (held : 1 ≤ (s.frame f).refcount)
    (settled : (s.frame f).refcount = 1 → s.mapUnit.waiters = []) :
    (s.frame f).refcount = 1 ∧
        s.release f =
          ((s.setFrame f { s.frame f with refcount := 0, state := .free, writer := none }).setFreeQueue
            (s.mapUnit.freeQueue ++ [f])).setLowArmed
            (s.mapUnit.lowArmed || s.mapUnit.lowMark ≤ (s.mapUnit.freeQueue ++ [f]).length) ∨
      (s.frame f).refcount ≠ 1 ∧
        s.release f = s.setFrame f { s.frame f with refcount := (s.frame f).refcount - 1 } := by
  by_cases one : (s.frame f).refcount = 1
  · exact .inl ⟨one, release_returned one (settled one)⟩
  · refine .inr ⟨one, ?_⟩
    have more : (s.frame f).refcount = ((s.frame f).refcount - 2) + 2 := by omega
    rw [release_shared more, show (s.frame f).refcount - 2 + 1 = (s.frame f).refcount - 1 by omega]

/-- R32, R38: the release of pages that name different frames, where no waiter takes a frame. Each entry becomes absent,
each frame loses a reference, and those brought to 0 join the queue in the order of their pages, with the re-arm
check. -/
theorem releasePages_returned (vs : List VPage) (distinct : vs.Nodup)
    (idle : ∀ v, (s.engine i).purgeInUse v 1 = false) (apart : (namedFrames s i vs).Nodup)
    (held : ∀ f ∈ namedFrames s i vs, 1 ≤ (s.frame f).refcount)
    (settled : s.mapUnit.waiters = [] ∨ (namedFrames s i vs).filter (fun f => (s.frame f).refcount == 1) = []) :
    let freed := (namedFrames s i vs).filter fun f => (s.frame f).refcount == 1
    let queue := s.mapUnit.freeQueue ++ freed
    let r := s.releasePages i vs
    r.entries = (namedFrames s i vs).length ∧ r.frames = freed.length ∧
      r.state =
        s.setMapUnit
          { s.mapUnit with
            maps := r.state.mapUnit.maps, frames := r.state.mapUnit.frames, freeQueue := queue
            lowArmed := s.mapUnit.lowArmed || (!freed.isEmpty && s.mapUnit.lowMark ≤ queue.length) } ∧
      (∀ v ∈ vs, r.state.entry i v = none) ∧
      (∀ j v, (j ≠ i ∨ v ∉ vs) → r.state.entry j v = s.entry j v) ∧
      (∀ f ∈ namedFrames s i vs, r.state.frame f =
        if (s.frame f).refcount = 1 then { s.frame f with refcount := 0, state := .free, writer := none }
        else { s.frame f with refcount := (s.frame f).refcount - 1 }) ∧
      ∀ f ∉ namedFrames s i vs, r.state.frame f = s.frame f := by
  induction vs generalizing s with
  | nil =>
    simp [State.releasePages]
    rfl
  | cons v vs ih =>
    obtain ⟨fresh, distinct⟩ := List.nodup_cons.mp distinct
    cases present : s.entry i v with
    | none =>
      have names : namedFrames s i (v :: vs) = namedFrames s i vs := by simp [namedFrames, present]
      rw [names] at apart held settled ⊢
      obtain ⟨h1, h2, h3, absent, kept, h6, h7⟩ := ih distinct idle apart held settled
      have passed : s.releasePages i (v :: vs) = s.releasePages i vs := by simp [State.releasePages, present]
      simp only [passed]
      refine ⟨h1, h2, h3, fun u hu => ?_, fun j u hu => ?_, h6, h7⟩
      · rcases List.mem_cons.mp hu with rfl | hu
        · exact (kept i u (.inr fresh)).trans present
        · exact absent u hu
      · exact kept j u (hu.imp_right fun h h' => h (List.mem_cons_of_mem _ h'))
    | some e =>
      obtain ⟨f, access⟩ := e
      have names : namedFrames s i (v :: vs) = f :: namedFrames s i vs := by simp [namedFrames, present]
      rw [names] at apart held settled ⊢
      obtain ⟨other, apart⟩ := List.nodup_cons.mp apart
      have one_held := held f (List.mem_cons_self ..)
      have one_settled : (s.frame f).refcount = 1 → s.mapUnit.waiters = [] := by
        intro one
        rcases settled with h | h
        · exact h
        · simp [one] at h
      let t := (s.setEntry i v none).release f
      have cases_of_t := release_kept (s := s.setEntry i v none) (f := f) one_held one_settled
      simp only [frame_setEntry] at cases_of_t
      change _ ∧ t = _ ∨ _ ∧ t = _ at cases_of_t
      have t_entry : ∀ j u, (j ≠ i ∨ u ≠ v) → t.entry j u = s.entry j u := by
        intro j u h
        have : (s.setEntry i v none).entry j u = s.entry j u := by
          by_cases same : i = j
          · subst same
            exact entry_setEntry_other_page _ _ _ _ _ (by rintro rfl; simp at h)
          · exact entry_setEntry_other_stream _ _ _ _ _ _ same
        rcases cases_of_t with ⟨_, ht⟩ | ⟨_, ht⟩ <;> rw [ht] <;> simpa using this
      have t_absent : t.entry i v = none := by
        rcases cases_of_t with ⟨_, ht⟩ | ⟨_, ht⟩ <;> rw [ht] <;> simp
      have t_frame : ∀ g, g ≠ f → t.frame g = s.frame g := by
        intro g hg
        rcases cases_of_t with ⟨_, ht⟩ | ⟨_, ht⟩ <;> rw [ht] <;> simp [frame_setFrame_other _ _ _ _ hg.symm]
      have t_engine : t.engine i = s.engine i := by
        rcases cases_of_t with ⟨_, ht⟩ | ⟨_, ht⟩ <;> rw [ht] <;> simp
      have t_waiters : t.mapUnit.waiters = s.mapUnit.waiters := by
        rcases cases_of_t with ⟨_, ht⟩ | ⟨_, ht⟩ <;> rw [ht] <;> simp
      have t_map : ∀ m, t.setMapUnit m = s.setMapUnit m := by
        intro m
        rcases cases_of_t with ⟨_, ht⟩ | ⟨_, ht⟩ <;> rw [ht] <;> rfl
      have t_names : namedFrames t i vs = namedFrames s i vs :=
        List.filterMap_congr fun u hu => by rw [t_entry i u (.inr (by rintro rfl; exact fresh hu))]
      have t_kept : ∀ g ∈ namedFrames s i vs, t.frame g = s.frame g :=
        fun g hg => t_frame g (by rintro rfl; exact other hg)
      have t_freed : (namedFrames t i vs).filter (fun f => (t.frame f).refcount == 1) =
          (namedFrames s i vs).filter fun f => (s.frame f).refcount == 1 := by
        rw [t_names]
        exact List.filter_congr fun g hg => by rw [t_kept g hg]
      obtain ⟨h1, h2, h3, absent, kept, h6, h7⟩ := ih (s := t) distinct (by rw [t_engine]; exact idle)
        (by rw [t_names]; exact apart)
        (by rw [t_names]; intro g hg; rw [t_kept g hg]; exact held g (List.mem_cons_of_mem _ hg))
        (by
          rw [t_waiters, t_freed]
          refine settled.imp_right fun h => ?_
          rw [List.filter_cons] at h
          split at h
          · cases h
          · exact h)
      rw [t_freed] at h2 h3
      rw [t_names] at h1 h6 h7
      have taken : s.releasePages i (v :: vs) =
          ⟨(t.releasePages i vs).state, (t.releasePages i vs).entries + 1,
            (t.releasePages i vs).frames + if (s.frame f).refcount - 1 = 0 then 1 else 0⟩ := by
        simp only [State.releasePages, present, idle]
        rfl
      simp only [taken, h1, h2]
      generalize t.releasePages i vs = r at *
      refine ⟨rfl, ?_, ?_, fun u hu => ?_, fun j u hu => ?_, fun g hg => ?_, fun g hg => ?_⟩
      · rw [List.filter_cons]
        by_cases one : (s.frame f).refcount = 1
        · simp [one]
        · rw [if_neg (by omega), if_neg (by simpa using one)]
          rfl
      · refine h3.trans ?_
        rw [t_map]
        congr 1
        rw [List.filter_cons]
        rcases cases_of_t with ⟨one, ht⟩ | ⟨one, ht⟩
        · rw [if_pos (by simpa using one), ht]
          simp only [State.setFreeQueue, State.setLowArmed, State.setEntry, State.setFrame, MapUnit.mk.injEq,
            true_and, and_true]
          refine ⟨by simp, ?_⟩
          generalize (namedFrames s i vs).filter (fun g => (s.frame g).refcount == 1) = freed
          cases freed with
          | nil => simp
          | cons x freed =>
            simp only [List.isEmpty_cons, Bool.not_false, Bool.true_and, List.append_assoc, List.singleton_append,
              Bool.or_assoc, List.length_append, List.length_cons, List.length_nil, ← Bool.decide_or]
            congr 2
            simp
            omega
        · rw [if_neg (by simpa using one), ht]
          rfl
      · rcases List.mem_cons.mp hu with rfl | hu
        · exact (kept i u (.inr fresh)).trans t_absent
        · exact absent u hu
      · rw [kept j u (hu.imp_right fun h h' => h (List.mem_cons_of_mem _ h')),
          t_entry j u (hu.imp_right fun h h' => h (h' ▸ List.mem_cons_self ..))]
      · rcases List.mem_cons.mp hg with rfl | hg
        · rw [h7 g other]
          rcases cases_of_t with ⟨one, ht⟩ | ⟨one, ht⟩ <;> rw [ht] <;> simp [one]
        · rw [h6 g hg, t_kept g hg]
      · rw [h7 g (fun h => hg (List.mem_cons_of_mem _ h)), t_frame g (fun h => hg (h ▸ List.mem_cons_self ..))]

end Range

end Sys2Proof.Laws
end

