-- ==== Sys2Proof/Tests/Slice0.lean ====
section
/-! SUPPORT. The model's own tests: the operand checks refuse what is out of range; single steps against the manual's
worked examples and tables; and, for every statement with hypotheses, a state that meets them. Expected values are the
manual's, with the place cited. -/

set_option Elab.async false

namespace Sys2Proof.Tests

open Sys2Proof Sys2Proof.Machine Sys2Proof.Laws

/-! ### Small states -/

/-- The state that a step answers. -/
def after (o : Host.Outcome State Fault Refusal) : State :=
  match o with
  | .next t => t
  | .fault _ | .refused _ => State.reset

/-- Out of reset, the pool's queue empty, the command unit ready. -/
def live : State :=
  { State.reset with heldInReset := none, command := { CommandUnit.reset with execution := .ready } }

/-- The message of a command under tag 21h. -/
def message (kind : Byte) : Message := ⟨kind, 0x21, []⟩

/-- A command handed to its owner. -/
def given (s : State) (command : HostCommand) (kind : Byte) : State :=
  { s with
    command := { queue := [message kind], current := some ⟨command, .handed⟩, execution := .executing, transfer := none }
    link := { s.link with reservations := 1 } }

/-- A command whose claim is the oldest at the map unit. -/
def claimed (s : State) (command : HostCommand) (kind : Byte) : State :=
  (given s command kind).setClaims [.host]

/-- A claim of a stream engine that is the only one at the map unit. -/
def claiming (s : State) (i : StreamId) (c : EngineClaim) : State := s.setClaims [.engine i c]

/-- A BOUND frame. -/
def bound (refcount fill : Nat) (isSealed : Bool) (generation : BitVec 16) (writer : Option StreamId) : FrameRecord :=
  { state := .bound, refcount := refcount, fill := fill, isSealed := isSealed, generation := generation
    writer := writer, hostHold := false }

/-- A stream in RUNNING on the first slot, with its current page in its cache. -/
def running (direction : Direction) (port : PortId) (fault : FaultPolicy) (d : Descriptor) (page : CurrentPage)
    (offset : Nat) : Engine :=
  { Engine.reset with
    state := .running, direction := some direction, port := some port, faultPolicy := some fault
    releasePolicy := some .keep, slotA := some d, activeSlot := some .a, position := ⟨page.vpage, offset⟩
    currentPage := some page, cache := emptyCache.set 0 (some ⟨page.vpage, page.frame, .readWrite, 0⟩) }

/-- A port bound to a stream, its gate open. -/
def openPort (i : StreamId) (direction : Direction) (words : List Word) : Port :=
  { Port.unbound with bound := some i, direction := some direction, gateOpen := true, fifo := words }

/-- `n` words of the lane. -/
def words (n : Nat) : List Word := List.replicate n 0x1234

/-! ### The operand checks refuse what is out of range -/

theorem test_unmap_count_0_refused : (Instr.unmap 0 0 0).wellFormed = false := by decide
theorem test_unmap_past_the_map_refused : (Instr.unmap 0 511 2).wellFormed = false := by decide
theorem test_protect_count_513_refused : (Instr.protect 0 .readOnly 0 513).wellFormed = false := by decide
theorem test_share_source_refused : (Instr.share 0 1 .readOnly 511 0 2).wellFormed = false := by decide
theorem test_share_destination_refused : (Instr.share 0 1 .readOnly 0 511 2).wellFormed = false := by decide
theorem test_query_map_33_refused : (Instr.queryMap 0 0 33).wellFormed = false := by decide
theorem test_mark_4097_refused : (Instr.setPoolMark 4097).wellFormed = false := by decide
theorem test_arm_count_513_refused : (Instr.arm 0 .a ⟨0, 513, .once, false, 0⟩).wellFormed = false := by decide
theorem test_arm_post_512_refused : (Instr.arm 0 .a ⟨0, 512, .loop, false, 512⟩).wellFormed = false := by decide
theorem test_arm_past_the_map_refused : (Instr.arm 0 .a ⟨511, 2, .once, false, 0⟩).wellFormed = false := by decide
theorem test_read_offset_odd_refused : (Instr.readData 0 0 1 2).wellFormed = false := by decide
theorem test_read_offset_4096_refused : (Instr.readData 0 0 4096 2).wellFormed = false := by decide
theorem test_read_length_odd_refused : (Instr.readData 0 0 0 3).wellFormed = false := by decide
theorem test_read_length_0_refused : (Instr.readData 0 0 0 0).wellFormed = false := by decide
theorem test_read_length_258_refused : (Instr.readData 0 0 0 258).wellFormed = false := by decide
theorem test_write_offset_odd_refused : (Instr.writeData 0 0 1 [0, 0]).wellFormed = false := by decide
theorem test_write_offset_4096_refused : (Instr.writeData 0 0 4096 [0, 0]).wellFormed = false := by decide
theorem test_write_one_byte_refused : (Instr.writeData 0 0 0 [0]).wellFormed = false := by decide
theorem test_write_258_bytes_refused : (Instr.writeData 0 0 0 (List.replicate 258 0)).wellFormed = false := by
  decide +kernel
theorem test_write_no_bytes_refused : (Instr.writeData 0 0 0 []).wellFormed = false := by decide
theorem test_bad_start_A5_refused : (Instr.badStart 0xA5).wellFormed = false := by decide
theorem test_bad_start_5A_refused : (Instr.badStart 0x5A).wellFormed = false := by decide
theorem test_oversize_264_refused : (Instr.oversize 0x10 0 264).wellFormed = false := by decide
theorem test_inbound_265_refused : (Instr.inboundMessage 0x10 0 (List.replicate 265 0) 0).wellFormed = false := by
  decide +kernel

/-! ### Pool and maps: the low-mark crossing of 01, the tap of 02, the reply bytes of 12 -/

/-- The start of the low-mark example: mark 4, armed, five frames in the queue. -/
def pool (queue : List FrameId) : State :=
  live.setMapUnit { live.mapUnit with freeQueue := queue, lowMark := 4, lowArmed := true }

def mapAny : HostCommand := .map 0 .readWrite 0 none

theorem test_map_takes_the_head :
    let t := after (exec (.map 0 .readWrite 0 none) (claimed (pool [17, 18, 19, 20, 21]) mapAny 0x10))
    t.mapUnit.freeQueue = [18, 19, 20, 21] ∧ t.entry 0 0 = some ⟨17, .readWrite⟩ ∧ t.mapUnit.lowArmed = true ∧
      t.link.notices = [] := by decide +kernel

/-- The example of 12: frame 0123h at the head, generation 0009h; the reply names it with generation 000Ah. -/
theorem test_map_reply_bytes :
    let s := (pool [0x123]).setFrame 0x123 { FrameRecord.reset with generation := 9 }
    (after (exec (.map 2 .readWrite 300 none) (claimed s (.map 2 .readWrite 300 none) 0x10))).link.replies =
      [⟨0x90, 0x21, [0x00, 0x23, 0x01, 0x0A, 0x00]⟩] := by decide +kernel

/-- The last line of the low-mark example, from 19, 20, 17, 18. -/
theorem test_map_posts_pool_low :
    let t := after (exec (.map 0 .readWrite 0 none) (claimed (pool [19, 20, 17, 18]) mapAny 0x10))
    t.mapUnit.freeQueue = [20, 17, 18] ∧ t.mapUnit.lowArmed = false ∧
      t.link.notices = [⟨none, 1, .poolLow 3 4⟩] := by decide +kernel

/-- Frame 21 is taken from where it stands (low-mark example). -/
theorem test_map_named_frame :
    let s := (pool [19, 20, 21]).setLowArmed false
    let t := after (exec (.map 0 .readWrite 2 (some 21)) (claimed s (.map 0 .readWrite 2 (some 21)) 0x10))
    t.mapUnit.freeQueue = [19, 20] ∧ t.link.notices = [] := by decide +kernel

/-- UNMAP of vpage 0 in the low-mark example: 17 goes to the tail, 3 is below 4. -/
theorem test_unmap_returns_to_the_tail :
    let s := (((pool [19, 20]).setLowArmed false).setEntry 0 0 (some ⟨17, .readWrite⟩)).setFrame 17
      (bound 1 0 false 5 none)
    let t := after (exec (.unmap 0 0 1) (claimed s (.unmap 0 0 1) 0x11))
    t.mapUnit.freeQueue = [19, 20, 17] ∧ t.mapUnit.lowArmed = false ∧ (t.frame 17).state = .free ∧
      (t.frame 17).generation = 5 ∧ t.link.replies = [⟨0x91, 0x21, [0, 1, 0, 1, 0]⟩] := by decide +kernel

/-- Stream 0 of the example of 02: a capture stream at vpage 5, frame 100; vpage 4 names frame 99. -/
def tap : State :=
  let page : CurrentPage := ⟨5, 100⟩
  (((((live.setEngine 0 (running .capture 0 .host ⟨4, 2, .once, false, 0⟩ page 2048)).setPort 0
    (openPort 0 .capture [])).setEntry 0 4 (some ⟨99, .readWrite⟩)).setEntry 0 5 (some ⟨100, .readWrite⟩)).setFrame 99
      (bound 2 4096 true 1 none)).setFrame 100 (bound 2 2048 false 1 (some 0))

theorem test_unmap_of_the_current_page_refused :
    let t := after (exec (.unmap 0 4 2) (claimed tap (.unmap 0 4 2) 0x11))
    t.link.replies = [⟨0x91, 0x21, [0x09]⟩] ∧ t.entry 0 4 = some ⟨99, .readWrite⟩ := by decide +kernel

theorem test_protect_drops_the_cache_entry :
    let s := tap.setEngine 0 { tap.engine 0 with state := .done, currentPage := none, activeSlot := none }
    let t := after (exec (.protect 0 .readOnly 4 2) (claimed s (.protect 0 .readOnly 4 2) 0x12))
    t.entry 0 5 = some ⟨100, .readOnly⟩ ∧ (t.engine 0).cache.toList = [none, none, none, none] ∧
      t.link.replies = [⟨0x92, 0x21, [0, 2, 0]⟩] := by decide +kernel

theorem test_protect_absent_before_the_purge :
    let t := after (exec (.protect 0 .readOnly 5 2) (claimed tap (.protect 0 .readOnly 5 2) 0x12))
    t.link.replies = [⟨0x92, 0x21, [0x07]⟩] ∧ (t.engine 0).cache = (tap.engine 0).cache := by decide +kernel

theorem test_share_counts_the_reference :
    let t := after (exec (.share 0 1 .readOnly 4 0 2) (claimed tap (.share 0 1 .readOnly 4 0 2) 0x13))
    t.entry 1 1 = some ⟨100, .readOnly⟩ ∧ (t.frame 100).refcount = 3 ∧ (t.frame 100).writer = some 0 := by
  decide +kernel

/-- R35, check 4: the destination map already names the frame, at a page outside the range. -/
theorem test_share_of_a_named_frame_refused :
    let s := tap.setEntry 1 511 (some ⟨100, .readOnly⟩)
    (after (exec (.share 0 1 .readOnly 5 0 1) (claimed s (.share 0 1 .readOnly 5 0 1) 0x13))).link.replies =
      [⟨0x93, 0x21, [0x08]⟩] := by decide +kernel

/-- The layout of 12.4: two records, the second absent. -/
theorem test_query_map_bytes :
    (after (exec (.queryMap 0 5 2) (claimed tap (.queryMap 0 5 2) 0x14))).link.replies =
      [⟨0x94, 0x21, [0, 0, 2, 5, 0, 1, 0, 100, 0, 0, 0xFF, 0xFF, 0xFF]⟩] := by decide +kernel

/-- R19, 12.4: frame 100 is BOUND, refcount 2, fill 0800h, unsealed, writer stream 0, in no queue. -/
theorem test_query_frame_bytes :
    (after (exec (.queryFrame 100) (claimed tap (.queryFrame 100) 0x18))).link.replies =
      [⟨0x98, 0x21, [0, 100, 0, 1, 2, 0x00, 0x08, 0, 1, 0, 0, 0, 0xFF, 0xFF]⟩] := by decide +kernel

/-- R19: frame 20 stands second from the head. -/
theorem test_query_frame_queue_position :
    ((after (exec (.queryFrame 20) (claimed (pool [19, 20]) (.queryFrame 20) 0x18))).link.replies.map
      fun r => r.payload.drop 12) = [[1, 0]] := by decide +kernel

/-- R18, 12.4: the waiters oldest first, FFh past their count. -/
theorem test_pool_status_bytes :
    let s := ((live.setMapUnit { live.mapUnit with lowMark := 300 }).setWaiters [4, 0]).setFrame 9
      (bound 1 0 false 1 none)
    (after (exec .poolStatus (claimed s .poolStatus 0x19))).link.replies =
      [⟨0x99, 0x21, [0, 0, 0, 1, 0, 0x2C, 0x01, 0, 0, 2, 4, 0, 0xFF, 0xFF, 0xFF, 0xFF, 0xFF, 0xFF]⟩] := by
  decide +kernel

/-- R17: the mark is set and armed, and nothing is compared. -/
theorem test_set_pool_mark :
    let s := (pool [19, 20]).setLowArmed false
    let t := after (exec (.setPoolMark 300) (claimed s (.setPoolMark 300) 0x1A))
    t.mapUnit.lowMark = 300 ∧ t.mapUnit.lowArmed = true ∧ t.link.notices = [] ∧
      t.link.replies = [⟨0x9A, 0x21, [0, 0x2C, 0x01, 2, 0]⟩] := by decide +kernel

/-! ### Stream commands: chapters 4 and 5 -/

/-- A command handed to a stream engine. -/
def asked (s : State) (command : HostCommand) (kind : Byte) : State := given s command kind

/-- Stream 3 of the STOP example of 04: vpage 2, frame 40, offset 4000, 100 words in the FIFO. -/
def draining : State :=
  let page : CurrentPage := ⟨2, 40⟩
  (((live.setEngine 3 (running .capture 1 .allocate ⟨0, 8, .once, false, 0⟩ page 4000)).setPort 1
    (openPort 3 .capture (words 100))).setEntry 3 2 (some ⟨40, .readWrite⟩)).setFrame 40 (bound 1 4000 false 1 (some 3))

/-- R56: ALLOCATE with REPLAY is refused after the state check. -/
theorem test_open_bad_combination :
    (after (exec (.openStream 1 .replay 1 .allocate .keep)
      (asked live (.openStream 1 .replay 1 .allocate .keep) 0x20))).link.replies = [⟨0xA0, 0x21, [0x06]⟩] := by
  decide +kernel

/-- R57: READY, the port bound, the gate closed. -/
theorem test_open_binds :
    let t := after (exec (.openStream 1 .replay 2 .skip .release) (asked live (.openStream 1 .replay 2 .skip .release) 0x20))
    (t.engine 1).state = .ready ∧ (t.port 2).bound = some 1 ∧ (t.port 2).gateOpen = false ∧
      t.link.replies = [⟨0xA0, 0x21, [0x00]⟩] := by decide +kernel

/-- R58: the counters are kept at CLOSE, the port is unbound. -/
theorem test_close_keeps_the_counters :
    let e := { draining.engine 3 with
      state := .done, currentPage := none, activeSlot := none, counters := { Counters.zero with bytesMoved := 200 } }
    let t := after (exec (.closeStream 3 false) (asked (draining.setEngine 3 e) (.closeStream 3 false) 0x21))
    (t.engine 3).counters.bytesMoved = 200 ∧ (t.engine 3).state = .idle ∧ (t.port 1).bound = none ∧
      t.entry 3 2 = some ⟨40, .readWrite⟩ := by decide +kernel

/-- R38: the release of the map, with its two counts in the reply. -/
theorem test_close_releases_the_map :
    let s := ((live.setEntry 3 2 (some ⟨40, .readWrite⟩)).setFrame 40 (bound 1 104 true 1 none)).setClaims [.host]
    let t := after (exec (.closeStream 3 true)
      ((given s (.closeStream 3 true) 0x21).setStage (.closeStream 3 true) .releasingMap))
    t.mapUnit.freeQueue = [40] ∧ t.entry 3 2 = none ∧ t.link.replies = [⟨0xA1, 0x21, [0, 1, 0, 1, 0]⟩] := by
  decide +kernel

/-- R76: the active slot is busy, for its emptying too. -/
theorem test_arm_of_the_active_slot :
    (after (exec (.arm 3 .a ⟨0, 0, .once, false, 0⟩) (asked draining (.arm 3 .a ⟨0, 0, .once, false, 0⟩) 0x22))).link.replies
      = [⟨0xA2, 0x21, [0x11]⟩] := by decide +kernel

/-- R76: post-trigger pages above page count - 1. -/
theorem test_arm_post_trigger_too_many :
    (after (exec (.arm 3 .b ⟨0, 4, .loop, false, 4⟩) (asked draining (.arm 3 .b ⟨0, 4, .loop, false, 4⟩) 0x22))).link.replies
      = [⟨0xA2, 0x21, [0x06]⟩] := by decide +kernel

/-- The start of the cache example of 03: vpage 10 misses, and a read claim is sent. -/
theorem test_start_of_a_replay_stream_misses :
    let e : Engine :=
      { Engine.reset with
        state := .ready, direction := some .replay, port := some 0, faultPolicy := some .host
        releasePolicy := some .keep, slotA := some ⟨10, 5, .loop, false, 0⟩ }
    let s := (live.setEngine 2 e).setPort 0 { openPort 2 .replay [] with gateOpen := false }
    let t := after (exec (.start 2 .a) (asked s (.start 2 .a) 0x23))
    t.mapUnit.claims = [.engine 2 (.read 10)] ∧ (t.engine 2).counters.cacheMisses = 1 ∧
      (t.engine 2).counters.cacheHits = 0 ∧ (t.port 0).gateOpen = true := by decide +kernel

/-- R59: a START of an EMPTY slot. -/
theorem test_start_of_an_empty_slot :
    let s := draining.setEngine 3 { draining.engine 3 with state := .done, currentPage := none, activeSlot := none }
    (after (exec (.start 3 .b) (asked s (.start 3 .b) 0x23))).link.replies = [⟨0xA3, 0x21, [0x05]⟩] := by
  decide +kernel

/-- R61, R130: PAUSE closes the gate, keeps the words, and withdraws the request. -/
theorem test_pause_withdraws :
    let s := draining.request 3 ⟨40, 4000, 64, true⟩
    let t := after (exec (.pause 3) (asked s (.pause 3) 0x24))
    (t.engine 3).state = .paused ∧ (t.port 1).gateOpen = false ∧ (t.port 1).fifo.length = 100 ∧
      t.arbiter.requests[(3 : Requester)] = none := by decide +kernel

theorem test_resume_refused_in_running :
    (after (exec (.resume 3) (asked draining (.resume 3) 0x25))).link.replies = [⟨0xA5, 0x21, [0x05]⟩] := by
  decide +kernel

/-- Event 1 of the STOP example of 04: the words stay, and the answer is given in STOPPING. -/
theorem test_stop_drains :
    let t := after (exec (.stop 3) (asked draining (.stop 3) 0x26))
    (t.engine 3).state = .stopping ∧ (t.engine 3).endReason = some .stopped ∧ (t.port 1).gateOpen = false ∧
      (t.port 1).fifo.length = 100 ∧ t.mapUnit.claims = [] ∧ t.link.replies = [⟨0xA6, 0x21, [0x00]⟩] := by
  decide +kernel

/-- R66: STOP in WAIT_FAULT with reason POOL_EMPTY is not yet answered. -/
theorem test_stop_in_a_pool_wait :
    let s := (draining.setEngine 3 { draining.engine 3 with
      state := .waitFault, currentPage := none, faultRecord := some ⟨3, .poolEmpty⟩ }).setWaiters [3]
    let t := after (exec (.stop 3) (asked s (.stop 3) 0x26))
    (t.engine 3).state = .waitFault ∧ (t.engine 3).counters.wordsDropped = 100 ∧
      t.mapUnit.claims = [.engine 3 (.endingSeal none)] ∧ t.link.replies = [] := by decide +kernel

/-- The same point with ABORT (04): 100 words dropped, the ending seal claim at once. -/
theorem test_abort_drops :
    let t := after (exec (.abort 3) (asked draining (.abort 3) 0x27))
    (t.engine 3).counters.wordsDropped = 100 ∧ (t.port 1).fifo = [] ∧
      t.mapUnit.claims = [.engine 3 (.endingSeal none)] ∧ (t.engine 3).endReason = some .aborted := by decide +kernel

/-- Stream 5 of the trigger example of 05: vpage 23 of 20 ~ 23, offset 3968, 32 words in flight, 200 in the FIFO. -/
def ring : State :=
  (((live.setEngine 5 (running .capture 2 .allocate ⟨20, 4, .loop, false, 2⟩ ⟨23, 7⟩ 3968)).setPort 2
    { openPort 5 .capture (words 200) with edgePending := true }).setFrame 7 (bound 1 3968 false 1 (some 5))).setArbiter
      { live.arbiter with inFlight := some ⟨5, 7, 3968, 64, true, []⟩ }

/-- The trigger falls at vpage 20, offset 336, with 3 pages to go (05). -/
theorem test_edge_across_the_page_boundary :
    let t := after (exec (.pendingEdgeTaken 5) ring)
    (t.engine 5).triggerRecord = some ⟨20, 336⟩ ∧ (t.engine 5).pagesToGo = some 3 ∧
      (t.port 2).edgePending = false ∧ t.link.notices = [⟨some 5, 1, .triggered ⟨20, 336⟩⟩] := by decide +kernel

theorem test_trigger_reply_bytes :
    (after (exec (.trigger 5) (asked ring (.trigger 5) 0x28))).link.replies =
      [⟨0xA8, 0x21, [0, 20, 0, 0x50, 0x01, 3, 0]⟩] := by decide +kernel

/-- R85: a ONCE segment takes no trigger. -/
theorem test_trigger_not_taken :
    let t := after (exec (.trigger 3) (asked draining (.trigger 3) 0x28))
    t.link.replies = [⟨0xA8, 0x21, [0x0F]⟩] ∧ t.link.notices = [] := by decide +kernel

/-- R84: an edge that is not taken is cleared without effect. -/
theorem test_edge_not_taken :
    let s := draining.setPort 1 { draining.port 1 with edgePending := true }
    let t := after (exec (.pendingEdgeTaken 3) s)
    (t.port 1).edgePending = false ∧ t.link.notices = [] ∧ (t.engine 3).triggerRecord = none := by decide +kernel

/-- R84: an edge sets the mark with the gate closed. -/
theorem test_edge_with_the_gate_closed :
    let s := draining.setPort 1 { draining.port 1 with gateOpen := false }
    ((after (exec (.triggerEdge 1) s)).port 1).edgePending = true := by decide +kernel

/-- 12.5: the first 40 bytes of the reply for stream 3 of the STOP example, and the length 108. -/
theorem test_query_stream_bytes :
    let r := ((after (exec (.queryStream 3) (asked draining (.queryStream 3) 0x29))).link.replies.map
      fun r => r.payload).flatten
    r.length = 108 ∧
      r.take 41 =
        [0, 3, 2, 0, 1, 0, 0, 1, 1, 0, 0, 8] ++ List.replicate 19 0 ++
          [2, 0, 0xA0, 0x0F, 2, 0, 40, 0, 0xFF, 0xFF] := by decide +kernel

/-- 12.5: bytes 49 ~ 51 (FIFO level, burst in flight) and the first cache entry at byte 80. -/
theorem test_query_stream_cache_bytes :
    let r := ((after (exec (.queryStream 3) (asked draining (.queryStream 3) 0x29))).link.replies.map
      fun r => r.payload).flatten
    (r.drop 49).take 3 = [100, 0, 0] ∧ (r.drop 80).take 8 = [1, 2, 0, 40, 0, 0, 0, 0] := by decide +kernel

/-! ### Host data: the two examples of 08 -/

/-- Frame 77 of the torn READ_DATA: sealed at 4096. -/
def full : State := (live.setEntry 2 5 (some ⟨77, .readWrite⟩)).setFrame 77 (bound 1 4096 true 6 none)

theorem test_read_data_first_request :
    let t := after (exec (.readData 2 5 0 256) (claimed full (.readData 2 5 0 256) 0x30))
    t.arbiter.requests[(8 : Requester)] = some ⟨77, 0, 64, false⟩ ∧
      t.command.transfer.map (fun x => (x.total, x.generation)) = some (256, 6) := by decide +kernel

/-- The state of the torn read at its second request: 64 bytes read, generation 6. -/
def torn : State :=
  let s := (given full (.readData 2 5 0 256) 0x30).setStage (.readData 2 5 0 256) .transferring
  { s with command := { s.command with transfer := some ⟨77, 0, 256, 64, 6, false, List.replicate 64 0xAA⟩ } }

/-- The look that sees generation g + 1 (the table of 08): TORN, generation g + 1, count 0. -/
theorem test_grant_sees_another_generation :
    let s := (torn.setFrame 77 (bound 1 0 false 7 (some 2))).request 8 ⟨77, 64, 64, false⟩
    let t := after (exec .arbiterGrant s)
    t.link.replies = [⟨0xB0, 0x21, [0x10, 77, 0, 7, 0, 0, 0]⟩] ∧ t.arbiter.inFlight = none ∧
      t.arbiter.requests[(8 : Requester)] = none := by decide +kernel

theorem test_host_read_burst_goes_on :
    let s := torn.setArbiter { torn.arbiter with inFlight := some ⟨8, 77, 64, 64, false, []⟩ }
    let t := after (exec .hostBurstComplete s)
    t.arbiter.requests[(8 : Requester)] = some ⟨77, 128, 64, false⟩ ∧ t.arbiter.inFlight = none := by decide +kernel

/-- Frame 300 of the WRITE_DATA example: unsealed, fill 0, no writer, generation 8. -/
def open300 : State := (live.setEntry 3 2 (some ⟨300, .readWrite⟩)).setFrame 300 (bound 1 0 false 8 none)

theorem test_write_data_holds :
    let bytes := List.replicate 128 0x55
    let t := after (exec (.writeData 3 2 0 bytes) (claimed open300 (.writeData 3 2 0 bytes) 0x31))
    (t.frame 300).hostHold = true ∧ t.arbiter.requests[(8 : Requester)] = some ⟨300, 0, 64, true⟩ := by decide +kernel

/-- R137: refused both for a gap and for its end past the page, it is answered GAP. -/
theorem test_write_data_gap_first :
    let bytes := List.replicate 4 0x55
    (after (exec (.writeData 3 2 4094 bytes) (claimed open300 (.writeData 3 2 4094 bytes) 0x31))).link.replies =
      [⟨0xB1, 0x21, [0x0C]⟩] := by decide +kernel

/-- The write claim that meets the hold is set aside (08). -/
theorem test_write_claim_set_aside :
    let e := { running .capture 0 .host ⟨2, 1, .once, false, 0⟩ ⟨2, 300⟩ 0 with currentPage := none }
    let s := (open300.setEngine 3 e).setFrame 300 { open300.frame 300 with hostHold := true }
    let t := after (exec (.writeClaim 3) (claiming s 3 (.write 2)))
    t.mapUnit.deferred = [⟨3, .write 2⟩] ∧ (t.engine 3).currentPage = none ∧ t.link.notices = [] := by decide +kernel

/-- The completion claim with the deferred write claim (08): the reply has generation k and fill 128, and the frame is
reset for stream 3. -/
theorem test_write_data_completion :
    let e := { running .capture 0 .host ⟨2, 1, .once, false, 0⟩ ⟨2, 300⟩ 0 with currentPage := none }
    let bytes := List.replicate 128 0x55
    let s := ((open300.setEngine 3 e).setFrame 300 { open300.frame 300 with hostHold := true }).setDeferred [⟨3, .write 2⟩]
    let s := (claimed s (.writeData 3 2 0 bytes) 0x31).setStage (.writeData 3 2 0 bytes) .completing
    let s := { s with command := { s.command with transfer := some ⟨300, 0, 128, 128, 8, true, bytes⟩ } }
    let t := after (exec .writeDataCompletion s)
    t.frame 300 = bound 1 0 false 9 (some 3) ∧ (t.engine 3).currentPage = some ⟨2, 300⟩ ∧
      t.link.replies = [⟨0xB1, 0x21, [0, 0x2C, 0x01, 8, 0, 128, 0]⟩] := by decide +kernel

/-- R140: a newly sealed frame, and one that has a writer. -/
theorem test_seal :
    (after (exec (.sealPage 3 2) (claimed open300 (.sealPage 3 2) 0x32))).link.replies =
      [⟨0xB2, 0x21, [0, 0x2C, 0x01, 0, 0, 0]⟩] ∧
    (after (exec (.sealPage 0 5) (claimed tap (.sealPage 0 5) 0x32))).link.replies = [⟨0xB2, 0x21, [0x09]⟩] := by
  decide +kernel

/-! ### The command unit and the link: 09, 10 and 12 -/

/-- A command waiting at the head of the queue. -/
def waiting (s : State) (kind tag : Byte) (payload : List Byte) : State :=
  { s with
    command := { s.command with queue := [⟨kind, tag, payload⟩] }
    link := { s.link with reservations := 1 } }

/-- The MAP of the example of 12, read into its fields and handed to the map unit. -/
theorem test_command_take_reads_the_map :
    let t := after (exec .commandTake (waiting live 0x10 0x37 [0x02, 0x00, 0x2C, 0x01, 0xFF, 0xFF]))
    t.command.current = some ⟨.map 2 .readWrite 300 none, .handed⟩ ∧ t.mapUnit.claims = [.host] := by decide +kernel

/-- The same command with payload length 7: BAD_LENGTH; with access byte 02h: BAD_FIELD (12). -/
theorem test_command_take_refuses :
    (after (exec .commandTake (waiting live 0x10 0x37 [2, 0, 0x2C, 1, 0xFF, 0xFF, 0]))).link.replies =
      [⟨0x90, 0x37, [0x03]⟩] ∧
    (after (exec .commandTake (waiting live 0x10 0x37 [2, 2, 0x2C, 1, 0xFF, 0xFF]))).link.replies =
      [⟨0x90, 0x37, [0x04]⟩] := by decide +kernel

/-- R163, 12.4: 22 bytes, the family code first. -/
theorem test_hello_bytes :
    let r := ((after (exec .hello (given live .hello 0x01))).link.replies.map fun r => r.payload).flatten
    r.length = 22 ∧ r.take 4 = [0x00, 0x16, 0x84, 0x01] := by decide +kernel

/-- CS_N low, in a transaction state. -/
def clocked (s : State) (t : TransactionState) : State :=
  s.setLink { s.link with csHigh := false, transaction := t }

theorem test_cs_n_fall : (after (exec .csNFall live)).link.transaction = .start := by decide +kernel

theorem test_write_transaction_start :
    (after (exec .writeTransactionStart (clocked live .start))).link.transaction = .write := by decide +kernel

/-- R142. -/
theorem test_bad_start :
    let t := after (exec (.badStart 0x00) (clocked live .start))
    t.link.transaction = .ignore ∧ t.link.notices = [⟨none, 1, .linkError .badStart⟩] := by decide +kernel

/-- R145: length 265. -/
theorem test_oversize :
    let t := after (exec (.oversize 0x31 0x01 265) (clocked live .write))
    t.link.transaction = .writeIgnore ∧ t.link.notices = [⟨none, 1, .linkError .oversize⟩] := by decide +kernel

/-- The check value of R144. -/
theorem test_crc_of_nine_bytes :
    crc16 [0x31, 0x32, 0x33, 0x34, 0x35, 0x36, 0x37, 0x38, 0x39] = 0x29B1 := by decide +kernel

/-- An intact POOL_STATUS: its CRC is that of kind, tag and length (R144). -/
def poolStatusCrc : Word := crc16 [0x19, 0x21, 0x00, 0x00]

/-- The start of the admission example of 09: 4 commands, 3 replies. -/
def limit : State :=
  clocked { live with
    command := { live.command with queue := List.replicate 4 (message 0x11) }
    link := { live.link with replies := List.replicate 3 ⟨0x90, 0, [0]⟩, reservations := 4 } } .write

theorem test_inbound_full :
    let t := after (exec (.inboundMessage 0x19 0x21 [] poolStatusCrc) limit)
    t.link.replies.drop 3 = [⟨0x99, 0x21, [0x01]⟩] ∧ t.command.queue.length = 4 ∧ t.link.reservations = 4 ∧
      t.link.transaction = .writeIgnore := by decide +kernel

/-- The second message of the example: discarded. A wrong CRC posts LINK_ERROR with reason CRC (R145). -/
theorem test_inbound_discarded_and_crc :
    let full := limit.setLink { limit.link with replies := List.replicate 4 ⟨0x90, 0, [0]⟩ }
    (after (exec (.inboundMessage 0x19 0x21 [] poolStatusCrc) full)).link.notices =
      [⟨none, 1, .linkError .discarded⟩] ∧
    (after (exec (.inboundMessage 0x19 0x21 [] (poolStatusCrc + 1)) limit)).link.notices =
      [⟨none, 1, .linkError .crc⟩] := by decide +kernel

/-- Stream 2 of the FLOW example of 09: FLOW (3, 3), then STREAM_END of stream 5. -/
def flowing : State :=
  clocked (live.setLink { live.link with
    notices := [⟨some 2, 3, .flow 3⟩, ⟨some 5, 1, .streamEnd .completed ⟨0, 0⟩ none⟩] }) .start

/-- R150, 12.6: kind 4Bh, tag 00h, length 6, stream 2, occurrences 3, word count 3, and two bytes of CRC. -/
theorem test_read_select_bytes :
    let t := after (exec .readSelect flowing)
    t.misoBytes.take 10 = [0x4B, 0, 6, 0, 2, 3, 3, 0, 0, 0] ∧ t.misoBytes.length = 12 ∧
      t.link.transaction = .read ∧ t.misoByte 0 = some 0x00 ∧ t.misoByte 1 = some 0x4B ∧ t.misoByte 13 = some 0x00 := by
  decide +kernel

/-- FLOW of the example, frozen, with the shadow record given. -/
def frozen (occurrences : Nat) (words : Count32) : State :=
  let s := after (exec .readSelect flowing)
  s.setLink { s.link with shadow := some ⟨occurrences, .flow words⟩ }

/-- The second half of the example: a complete send puts FLOW (2, 2) behind STREAM_END. -/
theorem test_send_complete_with_a_shadow :
    let t := after (exec .sendComplete (frozen 2 2))
    t.link.notices = [⟨some 5, 1, .streamEnd .completed ⟨0, 0⟩ none⟩, ⟨some 2, 2, .flow 2⟩] ∧
      t.link.shadow = none ∧ t.link.sending = none ∧ t.misoByte 40 = some 0x00 := by decide +kernel

/-- The first half: cut short, FLOW becomes (7, 7) at its place. -/
theorem test_cs_n_rise_merges_the_shadow :
    (after (exec .csNRise (frozen 4 4))).link.notices =
      [⟨some 2, 7, .flow 7⟩, ⟨some 5, 1, .streamEnd .completed ⟨0, 0⟩ none⟩] := by decide +kernel

/-- R145: a write transaction that ends early. -/
theorem test_cs_n_rise_truncated :
    let t := after (exec .csNRise (clocked live .write))
    t.link.notices = [⟨none, 1, .linkError .truncated⟩] ∧ t.link.transaction = .idle := by decide +kernel

/-! ### Resets and the pool: R13, R128, R164, R165 -/

theorem test_power_on_loses_the_store :
    let t := after (exec .powerOn { draining with store := [(5, 0xAA)] })
    t.store = [] ∧ t.heldInReset = some .powerOn ∧ (t.engine 3).state = .idle := by decide +kernel

/-- A granted capture burst completes in the store; everything else is at its reset value. -/
theorem test_pin_reset_lands_the_burst :
    let s := draining.setArbiter { draining.arbiter with inFlight := some ⟨3, 1, 2, 2, true, [0x34, 0x12]⟩ }
    let t := after (exec .pinReset s)
    t.store = [(4098, 0x34), (4099, 0x12)] ∧ t.arbiter.inFlight = none ∧ t.mapUnit.lowMark = 64 ∧
      t.mapUnit.initReason = .pinReset := by decide +kernel

/-- R157: CS_N low at the end of the reset. -/
theorem test_reset_end_ignores_an_open_transaction :
    let s := State.reset.setLink { State.reset.link with csHigh := false }
    let t := after (exec .resetEnd s)
    t.link.transaction = .ignore ∧ t.mapUnit.initInProgress = true ∧ t.heldInReset = none := by decide +kernel

theorem test_pool_init_append :
    let s := { (after (exec .resetEnd State.reset)) with
      mapUnit := { (after (exec .resetEnd State.reset)).mapUnit with freeQueue := [0, 1], initNext := 2 } }
    let t := after (exec .poolInitAppend s)
    t.mapUnit.freeQueue = [0, 1, 2] ∧ t.mapUnit.initNext = 3 := by decide +kernel

/-- READY with reason POWER_ON; the command unit becomes ready in the same step. -/
theorem test_pool_init_complete :
    let s := after (exec .resetEnd State.reset)
    let t := after (exec .poolInitComplete (s.setMapUnit { s.mapUnit with initNext := 4096 }))
    t.link.notices = [⟨none, 1, .ready .powerOn⟩] ∧ t.command.execution = .ready ∧ t.mapUnit.lowArmed = true ∧
      t.mapUnit.initInProgress = false := by decide +kernel

/-- From the start of a start-up, nothing completes before frame 4095 has been appended. -/
theorem test_pool_init_not_complete :
    (after (exec .poolInitComplete (after (exec .resetEnd State.reset)))).mapUnit.initInProgress = true := by
  decide +kernel

/-! ### Lanes -/

/-- R91: the 257th word is dropped, counted, and posts FLOW. -/
theorem test_capture_strobe_overflow :
    let s := draining.setPort 1 (openPort 3 .capture (words 256))
    let t := after (exec (.captureStrobe 1 0xABCD) s)
    (t.port 1).fifo.length = 256 ∧ (t.engine 3).counters.wordsDropped = 1 ∧
      t.link.notices = [⟨some 3, 1, .flow 1⟩] := by decide +kernel

theorem test_capture_strobe_appends :
    ((after (exec (.captureStrobe 1 0xABCD) draining)).port 1).fifo.drop 100 = [0xABCD] := by decide +kernel

/-- Stream 6 of the tap STOP of 07, on port 2: vpage 0 names frame 220, at an offset, with the fill and the seal. -/
def tapped (offset fill : Nat) (isSealed : Bool) (fifo : List Word) : State :=
  let e := { running .replay 2 .skip ⟨0, 2, .once, false, 0⟩ ⟨0, 220⟩ offset with releasePolicy := some .release }
  (((live.setEngine 6 e).setPort 2 (openPort 6 .replay fifo)).setEntry 6 0 (some ⟨220, .readOnly⟩)).setFrame 220
    (bound 2 fill isSealed 1 none)

/-- R122: the head word is given and held on the data pins. -/
theorem test_replay_strobe_gives :
    let t := after (exec (.replayStrobe 2) (tapped 0 1024 false [7, 8]))
    (t.port 2).fifo = [8] ∧ (t.port 2).driven = some 7 := by decide +kernel

/-- After the pass-over of the example of 07: STOPPING with slot A armed; the last word takes it to DONE. -/
theorem test_replay_strobe_ends_the_stream :
    let s := tapped 0 1024 true [7]
    let s := s.setEngine 6 { s.engine 6 with
      state := .stopping, endReason := some .completed, position := ⟨1, 0⟩, currentPage := none }
    let t := after (exec (.replayStrobe 2) s)
    (t.engine 6).state = .done ∧ (t.engine 6).slotA = none ∧ (t.engine 6).activeSlot = none ∧
      t.link.notices = [⟨some 6, 1, .streamEnd .completed ⟨1, 0⟩ none⟩] := by decide +kernel

/-! ### Bursts -/

/-- The first burst of the drain of 04 asks for 32 words, a hit. -/
theorem test_capture_burst_request :
    let t := after (exec (.captureBurstRequest 3) draining)
    t.arbiter.requests[(3 : Requester)] = some ⟨40, 4000, 64, true⟩ ∧ (t.engine 3).counters.cacheHits = 1 := by
  decide +kernel

/-- The second burst of the drain: 16 words are left in the page, of 68 in the FIFO. -/
theorem test_capture_grant_at_the_end_of_a_page :
    let s := ((draining.setEngine 3 { draining.engine 3 with
      state := .stopping, endReason := some .stopped, position := ⟨2, 4064⟩ }).setPort 1
        (openPort 3 .capture (words 68))).request 3 ⟨40, 4064, 32, true⟩
    let t := after (exec .arbiterGrant s)
    (t.port 1).fifo.length = 52 ∧ t.arbiter.lastGranted = 3 ∧
      t.arbiter.inFlight.map (fun b => (b.length, b.data.take 2)) = some (32, [0x34, 0x12]) := by decide +kernel

/-- The completion at 4096: the leave seal claim carries the offset in place of the fill report (R96, R98). -/
theorem test_capture_burst_complete_at_4096 :
    let b : Burst := ⟨3, 40, 4064, 32, true, List.replicate 32 0x11⟩
    let s := (draining.setEngine 3 { draining.engine 3 with
      state := .stopping, endReason := some .stopped, position := ⟨2, 4064⟩ }).setArbiter
        { draining.arbiter with inFlight := some b }
    let t := after (exec (.captureBurstComplete 3) s)
    t.mapUnit.claims = [.engine 3 (.leaveSeal 40 (some 4096))] ∧ (t.engine 3).counters.bytesMoved = 32 ∧
      t.store.length = 32 ∧ t.storeByte (4096 * 40 + 4095) = 0x11 := by decide +kernel

/-- R96: a waiting report takes the new offset at its place. -/
theorem test_fill_reports_merge :
    let b : Burst := ⟨3, 40, 4000, 64, true, List.replicate 64 0x11⟩
    let s := (draining.setArbiter { draining.arbiter with inFlight := some b }).setClaims
      [.engine 3 (.fillReport 40 4000), .host]
    (after (exec (.captureBurstComplete 3) s)).mapUnit.claims = [.engine 3 (.fillReport 40 4064), .host] := by
  decide +kernel

/-- R131: after requester 8 comes 0; after 3 comes 4, and 2 waits. -/
theorem test_grant_order :
    let q : BurstRequest := ⟨0, 0, 2, false⟩
    let r := ((Arbiter.reset.requests.set 2 (some q)).set 5 (some q))
    ({ Arbiter.reset with requests := r } : Arbiter).nextGrant = some 2 ∧
      ({ Arbiter.reset with requests := r, lastGranted := 3 } : Arbiter).nextGrant = some 5 ∧
      ({ Arbiter.reset with requests := r, lastGranted := 5 } : Arbiter).nextGrant = some 2 := by decide +kernel

/-- R112, R114: a request below the fill of the last look, and a grant that finds the fill risen. -/
theorem test_replay_request_and_grant :
    let s := tapped 1024 1088 false []
    let s := s.setEngine 6 { s.engine 6 with lookFill := some 1040 }
    let asked := after (exec (.replayBurstRequest 6) s)
    asked.arbiter.requests[(6 : Requester)] = some ⟨220, 1024, 16, false⟩ ∧
      (after (exec .arbiterGrant asked)).arbiter.inFlight.map (fun b => b.length) = some 64 := by decide +kernel

/-- Event 1 of the tap STOP of 07: the burst brings the offset to the fill of an unsealed frame. -/
theorem test_replay_burst_complete_waits :
    let s := tapped 960 1024 false []
    let s := s.setArbiter { s.arbiter with inFlight := some ⟨6, 220, 960, 64, false, []⟩ }
    let t := after (exec (.replayBurstComplete 6) s)
    (t.engine 6).state = .waitData ∧ (t.engine 6).position = ⟨0, 1024⟩ ∧ (t.port 2).fifo.length = 32 := by
  decide +kernel

/-- Event 5: at the fill of the sealed frame the page is left by a release claim. -/
theorem test_replay_burst_complete_leaves :
    let s := tapped 1088 1104 true []
    let s := s.setArbiter { s.arbiter with inFlight := some ⟨6, 220, 1088, 16, false, []⟩ }
    let t := after (exec (.replayBurstComplete 6) s)
    t.mapUnit.claims = [.engine 6 (.release 0)] ∧ (t.engine 6).counters.pagesCompleted = 1 ∧
      (t.engine 6).activationPages = 1 := by decide +kernel

/-! ### Claims of the stream engines -/

/-- Event 2 of the tap STOP: the fill rises to 1088, and stream 6 in WAIT_DATA is signalled. -/
theorem test_fill_report_signals :
    let s := tapped 1024 1024 false []
    let s := s.setEngine 6 { s.engine 6 with state := .waitData }
    let t := after (exec (.fillReport 1) (claiming s 1 (.fillReport 220 1088)))
    (t.frame 220).fill = 1088 ∧ (t.engine 6).signals = [220] ∧ (t.engine 1).signals = [] := by decide +kernel

theorem test_wait_data_signal :
    let s := tapped 1024 1088 false []
    let s := s.setEngine 6 { s.engine 6 with state := .waitData, signals := [220] }
    let t := after (exec (.waitDataSignal 6) s)
    (t.engine 6).state = .running ∧ (t.engine 6).lookFill = some 1088 ∧ (t.engine 6).signals = [] := by decide +kernel

/-- Event 2 of the STOP example of 04: frame 40 is sealed, and vpage 3 is entered by a write claim. -/
theorem test_leave_seal_in_a_drain :
    let s := (draining.setEngine 3 { draining.engine 3 with
      state := .stopping, endReason := some .stopped, position := ⟨2, 4096⟩ }).setPort 1 (openPort 3 .capture (words 52))
    let t := after (exec (.leaveSealClaim 3) (claiming s 3 (.leaveSeal 40 (some 4096))))
    t.frame 40 = bound 1 4096 true 1 none ∧ (t.engine 3).counters.pagesCompleted = 1 ∧
      t.mapUnit.claims = [.engine 3 (.write 3)] ∧ (t.engine 3).currentPage = none := by decide +kernel

/-- The last line of the trigger example of 05: the leave of vpage 22 completes the segment. -/
theorem test_leave_seal_completes_the_ring :
    let s := ring.setEngine 5 { ring.engine 5 with
      position := ⟨22, 4096⟩, currentPage := some ⟨22, 7⟩, triggerRecord := some ⟨20, 336⟩, pagesToGo := some 1
      activationPages := 9 }
    let t := after (exec (.leaveSealClaim 5) (claiming s 5 (.leaveSeal 7 (some 4096))))
    (t.engine 5).state = .done ∧ (t.engine 5).slotA = none ∧ (t.engine 5).counters.wordsDropped = 200 ∧
      t.link.notices = [⟨some 5, 1, .segmentDone .a 10⟩, ⟨some 5, 1, .streamEnd .completed ⟨22, 0⟩ none⟩] := by
  decide +kernel

/-- The trigger example: the leave of vpage 23 is not counted. -/
theorem test_leave_before_the_trigger_page :
    let s := ring.setEngine 5 { ring.engine 5 with
      position := ⟨23, 4096⟩, triggerRecord := some ⟨20, 336⟩, pagesToGo := some 3 }
    let t := after (exec (.leaveSealClaim 5) (claiming s 5 (.leaveSeal 7 (some 4096))))
    (t.engine 5).pagesToGo = some 3 ∧ t.mapUnit.claims = [.engine 5 (.write 20)] := by decide +kernel

/-- Event 4 of the STOP example: frame 41 is sealed at 104, slot A keeps its descriptor. -/
theorem test_ending_seal :
    let e := { draining.engine 3 with
      state := .stopping, endReason := some .stopped, position := ⟨3, 104⟩, currentPage := some ⟨3, 41⟩ }
    let s := (draining.setEngine 3 e).setFrame 41 (bound 1 64 false 2 (some 3))
    let t := after (exec (.endingSealClaim 3) (claiming s 3 (.endingSeal (some 104))))
    t.frame 41 = bound 1 104 true 2 none ∧ (t.engine 3).state = .done ∧
      (t.engine 3).slotA = some ⟨0, 8, .once, false, 0⟩ ∧
      t.link.notices = [⟨some 3, 1, .streamEnd .stopped ⟨3, 104⟩ none⟩] := by decide +kernel

/-- Event 3 of the STOP example: an allocation, with the free count below the mark. -/
theorem test_write_claim_allocates :
    let s := (draining.setEngine 3 { draining.engine 3 with
      state := .stopping, endReason := some .stopped, currentPage := none, position := ⟨3, 0⟩ }).setFreeQueue [41, 42]
    let t := after (exec (.writeClaim 3) (claiming s 3 (.write 3)))
    t.frame 41 = bound 1 0 false 1 (some 3) ∧ t.mapUnit.freeQueue = [42] ∧ t.entry 3 3 = some ⟨41, .readWrite⟩ ∧
      (t.engine 3).currentPage = some ⟨3, 41⟩ ∧ (t.engine 3).state = .stopping := by decide +kernel

/-- The tapped ring of 06: stream 0 owns vpage 0 and 1, stream 4 shares both frames. -/
def shared (queue : List FrameId) : State :=
  let e := { running .capture 0 .allocate ⟨0, 2, .loop, false, 0⟩ ⟨1, 11⟩ 0 with currentPage := none }
  let s := ((live.setFreeQueue queue).setEngine 0 e).setPort 0 (openPort 0 .capture (words 20))
  let s := (s.setEntry 0 0 (some ⟨10, .readWrite⟩)).setEntry 0 1 (some ⟨11, .readWrite⟩)
  let s := (s.setEntry 4 0 (some ⟨10, .readOnly⟩)).setEntry 4 1 (some ⟨11, .readOnly⟩)
  (s.setFrame 10 (bound 2 4096 true 5 none)).setFrame 11 (bound 2 4096 true 6 none)

/-- Event 1: the detach onto frame 500; frame 10 keeps its data for stream 4. -/
theorem test_write_claim_detaches :
    let t := after (exec (.writeClaim 0) (claiming (shared [500]) 0 (.write 0)))
    t.entry 0 0 = some ⟨500, .readWrite⟩ ∧ t.frame 10 = bound 1 4096 true 5 none ∧
      t.frame 500 = bound 1 0 false 1 (some 0) ∧ t.mapUnit.freeQueue = [] ∧ t.link.notices = [] := by decide +kernel

/-- Event 4: the release of frame 10 hands it off to stream 0, which detaches from frame 11 onto it. -/
theorem test_release_claim_hands_off :
    let s := (shared []).setFrame 10 (bound 1 4096 true 5 none)
    let s := s.setEngine 0 { s.engine 0 with
      state := .waitFault, position := ⟨1, 0⟩, faultRecord := some ⟨1, .poolEmpty⟩ }
    let r := { running .replay 1 .host ⟨0, 2, .once, false, 0⟩ ⟨0, 10⟩ 4096 with releasePolicy := some .release }
    let s := ((s.setEngine 4 r).setPort 1 (openPort 4 .replay [])).setWaiters [0]
    let t := after (exec (.releaseClaim 4) (claiming s 4 (.release 0)))
    t.entry 4 0 = none ∧ t.entry 0 1 = some ⟨10, .readWrite⟩ ∧ t.frame 10 = bound 1 0 false 6 (some 0) ∧
      t.frame 11 = bound 1 4096 true 6 none ∧ (t.engine 0).state = .running ∧ t.mapUnit.waiters = [] ∧
      t.mapUnit.claims = [] ∧ (t.engine 4).due = .entering := by decide +kernel

/-- R25 note 2: between the leave of page 0 and the lookup of page 1, an UNMAP of both is answered CLEARED, and page 1
is then entered through a claim. -/
theorem test_purge_between_leave_and_lookup :
    let e := { running .replay 2 .host ⟨0, 2, .once, false, 0⟩ ⟨0, 220⟩ 1024 with
      cache := #v[some ⟨0, 220, .readOnly, 0⟩, some ⟨1, 221, .readOnly, 1⟩, none, none]
      state := .waitData, signals := [220] }
    let s := (((live.setEngine 6 e).setPort 2 (openPort 6 .replay [7])).setEntry 6 1 (some ⟨221, .readOnly⟩)).setFrame 220
      (bound 1 1024 true 1 none)
    let left := after (exec (.waitDataSignal 6) s)
    let purged := after (exec (.unmap 6 0 2) (claimed (left.setFrame 221 (bound 2 64 true 1 none)) (.unmap 6 0 2) 0x11))
    (left.engine 6).currentPage = none ∧ (left.engine 6).due = .entering ∧
      purged.link.replies = [⟨0x91, 0x21, [0, 1, 0, 0, 0]⟩] ∧
      (after (exec (.readClaim 6) purged)).mapUnit.claims = [.engine 6 (.read 1)] ∧
      ((after (exec (.readClaim 6) left)).engine 6).currentPage = some ⟨1, 221⟩ := by decide +kernel

/-- R53, R115: a LOOP over one page whose frame is sealed at fill 0 takes a STOP between two of its page changes. -/
theorem test_stop_of_an_empty_loop :
    let e := { running .replay 2 .host ⟨0, 1, .loop, false, 0⟩ ⟨0, 220⟩ 0 with due := .leave }
    let s := ((live.setEngine 6 e).setPort 2 (openPort 6 .replay [])).setFrame 220 (bound 1 0 true 1 none)
    let left := after (exec (.readClaim 6) s)
    let again := after (exec (.readClaim 6) left)
    (left.engine 6).due = .entering ∧ (again.engine 6).due = .leave ∧
      (again.engine 6).currentPage = some ⟨0, 220⟩ ∧
      ((after (exec (.stop 6) (given again (.stop 6) 0x26))).engine 6).state = .done := by decide +kernel

/-- R32 note 2, R60: the UNMAP of pages 0 and 1 hands frame 10 off to its own stream, which waits at page 1; page 1 is
then current, and stays present and cached. -/
theorem test_unmap_hands_off_to_its_own_stream :
    let e := { running .capture 0 .allocate ⟨0, 2, .loop, false, 0⟩ ⟨1, 11⟩ 0 with
      state := .waitFault, currentPage := none, faultRecord := some ⟨1, .poolEmpty⟩, cache := emptyCache }
    let s := ((live.setEngine 0 e).setPort 0 (openPort 0 .capture [])).setEntry 0 0 (some ⟨10, .readWrite⟩)
    let s := (s.setFrame 10 (bound 1 4096 true 5 none)).setWaiters [0]
    let t := after (exec (.unmap 0 0 2) (claimed s (.unmap 0 0 2) 0x11))
    t.entry 0 0 = none ∧ t.entry 0 1 = some ⟨10, .readWrite⟩ ∧ t.frame 10 = bound 1 0 false 6 (some 0) ∧
      (t.engine 0).currentPage = some ⟨1, 10⟩ ∧ (cacheLookup (t.engine 0).cache 1).isSome = true ∧
      t.link.replies = [⟨0x91, 0x21, [0, 1, 0, 1, 0]⟩] := by decide +kernel

/-- Event 6 of the tap STOP: the pass-over of the last page completes the segment. -/
theorem test_read_claim_passes_over :
    let s := tapped 1104 1104 true [7]
    let s := s.setEngine 6 { s.engine 6 with position := ⟨1, 0⟩, currentPage := none, activationPages := 1 }
    let t := after (exec (.readClaim 6) (claiming s 6 (.read 1)))
    (t.engine 6).state = .stopping ∧ (t.engine 6).counters.pagesSkipped = 1 ∧ (t.engine 6).position = ⟨1, 0⟩ ∧
      t.link.notices = [⟨some 6, 1, .segmentDone .a 1⟩] := by decide +kernel

/-- The cache example of 03: vpage 14 replaces vpage 10, the entry of rank 3. -/
theorem test_read_claim_replaces_rank_3 :
    let c : Cache := #v[some ⟨10, 300, .readOnly, 3⟩, some ⟨11, 301, .readOnly, 2⟩, some ⟨12, 302, .readOnly, 1⟩,
      some ⟨13, 303, .readOnly, 0⟩]
    let e := { running .replay 0 .host ⟨10, 5, .loop, false, 0⟩ ⟨13, 303⟩ 0 with
      currentPage := none, position := ⟨14, 0⟩, cache := c }
    let s := ((live.setEngine 2 e).setEntry 2 14 (some ⟨304, .readOnly⟩)).setFrame 304 (bound 1 4096 true 1 none)
    let t := after (exec (.readClaim 2) (claiming s 2 (.read 14)))
    (t.engine 2).cache.toList.map (fun e => e.map fun e => (e.vpage, e.rank)) =
      [some (14, 0), some (11, 3), some (12, 2), some (13, 1)] ∧ (t.engine 2).currentPage = some ⟨14, 304⟩ := by
  decide +kernel

/-- The purge of the cache example: the drops of vpage 12 and 13 close the ranks up. -/
theorem test_purge_closes_the_ranks_up :
    let c : Cache := #v[some ⟨14, 304, .readOnly, 1⟩, some ⟨10, 300, .readOnly, 0⟩, some ⟨12, 302, .readOnly, 3⟩,
      some ⟨13, 303, .readOnly, 2⟩]
    (cacheDrop c 12 2).toList.map (fun e => e.map fun e => (e.vpage, e.rank)) =
      [some (14, 1), some (10, 0), none, none] := by decide +kernel

/-! ### RESTART: the example of 10 -/

/-- RESTART STREAMS handed, with streams 0 and 2 of the example. -/
def restarting : State :=
  let e := running .capture 0 .allocate ⟨3, 2, .once, false, 0⟩ ⟨3, 50⟩ 2048
  let s := ((live.setEngine 0 e).setPort 0 (openPort 0 .capture (words 5))).setFrame 50 (bound 2 1984 false 4 (some 0))
  let s := s.setEngine 2 { e with
    port := some 2, state := .waitFault, currentPage := none, faultRecord := some ⟨9, .poolEmpty⟩ }
  given (s.setClaims [.engine 0 (.fillReport 50 2048)]) (.restart .streams) 0x02

theorem test_restart_streams_counts :
    let t := after (exec .restartStreams restarting)
    t.command.current = some ⟨.restart .streams, .stoppingEngines 2⟩ ∧ (t.engine 7).restart = .sent := by decide +kernel

theorem test_restart_all_is_sent :
    let t := after (exec .restartAll (given restarting (.restart .all) 0x02))
    t.command.current = some ⟨.restart .all, .stoppingEngines 2⟩ := by decide +kernel

/-- Stage 1: stream 0 withdraws its report, discards its FIFO, and answers with frame 50, offset 2048. -/
theorem test_engine_restart_answers :
    let t := after (exec (.engineRestart 0) (after (exec .restartStreams restarting)))
    (t.engine 0).restart = .answered (some (50, 2048)) ∧ t.mapUnit.claims = [] ∧ (t.port 0).fifo = [] ∧
      (t.port 0).gateOpen = false := by decide +kernel

/-- Every engine has taken the restart of a scope; the notice queue holds FAULT of stream 2, then POOL_LOW. -/
def answered (scope : RestartScope) : State :=
  let s := (restarting.setClaims []).setStage (.restart scope) (.stoppingEngines 2)
  let s : State := { s with engines := s.engines.map fun e => { e with restart := .answered none } }
  let s := s.setEngine 0 { s.engine 0 with restart := .answered (some (50, 2048)) }
  (s.setWaiters [2]).setLink { s.link with notices := [⟨some 2, 1, .fault 9 .poolEmpty⟩, ⟨none, 1, .poolLow 3 64⟩] }

/-- Stages 2 to 4: frame 50 sealed at 2048, the waiter list empty, FAULT removed, POOL_LOW kept. -/
theorem test_restart_claim_streams :
    let t := after (exec .restartClaim (answered .streams))
    t.frame 50 = bound 2 2048 true 4 none ∧ t.mapUnit.waiters = [] ∧ t.link.notices = [⟨none, 1, .poolLow 3 64⟩] ∧
      t.link.replies = [⟨0x82, 0x21, [0, 0, 2]⟩] ∧ (t.engine 0).state = .idle := by decide +kernel

/-- R169: the pool begins anew, and the command waits for initialisation. -/
theorem test_restart_claim_all :
    let t := after (exec .restartClaim (answered .all))
    t.mapUnit.initInProgress = true ∧ t.mapUnit.freeQueue = [] ∧
      t.command.current = some ⟨.restart .all, .initialising 2⟩ ∧ t.link.replies = [] := by decide +kernel

/-- R169: every frame record is reset with its generation incremented. -/
theorem test_restart_all_frame :
    (FrameRecord.restarted (bound 2 2048 true 4 none)) = { FrameRecord.reset with generation := 5 } := by decide

/-! ### For every statement with hypotheses, states that meet them, clause by clause -/

/-- A stream in a state, with a direction, on port 0. -/
def inState (state : StreamState) (direction : Direction) (ending : Option EndReason) (fifo : List Word) : State :=
  let e := { running direction 0 .host ⟨0, 2, .once, false, 0⟩ ⟨1, 9⟩ 64 with state := state, endReason := ending }
  (live.setEngine 0 e).setPort 0 (openPort 0 direction fifo)

theorem claimed_at {s : State} {c : HostCommand} {k : Byte} (h : s.heldInReset = none)
    (i : s.mapUnit.initInProgress = false) : (claimed s c k).AtMapUnit c (message k) [] :=
  ⟨⟨rfl, rfl⟩, h, i, rfl⟩

theorem asked_at {s : State} {c : HostCommand} {k : Byte} {i : StreamId}
    (h : (asked s c k).engineFree i = true) : (asked s c k).AtEngine i c (message k) [] :=
  ⟨⟨rfl, rfl⟩, h⟩

theorem claiming_next {s : State} {i : StreamId} {c : EngineClaim} (h : s.heldInReset = none)
    (k : s.mapUnit.initInProgress = false) : (claiming s i c).ClaimNext i c [] :=
  ⟨h, k, rfl⟩

/-- The empty queue; a MAP offered while nothing is current. -/
theorem witness_EveryStepGoesOnAndKeepsTheQueue :
    live.pending = [] ∧ (Instr.map 7 .readOnly 511 (some 4095)).command? = some (.map 7 .readOnly 511 (some 4095)) ∧
      live.command.current = none := by decide +kernel

theorem witness_StoreStaysCanonical :
    let s := { draining with store := [(0, 0xAA), (16777215, 1)], pending := [.readSelect] }
    s.StoreOk ∧ step s = .next { s with pending := [] } := ⟨rfl, rfl⟩

/-- At the bound of R147: 4 commands, 4 reservations, 4 replies, and an inbound message. -/
theorem witness_AdmissionStaysWithinBounds :
    let full := limit.setLink { limit.link with replies := List.replicate 4 ⟨0x90, 0, [0]⟩ }
    let s := { full with pending := [.inboundMessage 0x19 0x21 [] poolStatusCrc] }
    s.AdmissionOk ∧ ∃ t, step s = .next t := ⟨⟨rfl, by decide, by decide⟩, _, rfl⟩

theorem witness_CurrentCommandStaysQueued :
    let s := { given live .hello 0x01 with pending := [.hello] }
    s.ExecutionOk ∧ ∃ t, step s = .next t :=
  ⟨⟨fun c h => by
      have h : c = ⟨.hello, .handed⟩ := (Option.some.inj h).symm
      subst h
      exact ⟨rfl, _, _, rfl, rfl⟩,
    fun h => absurd h (by decide)⟩, _, rfl⟩

/-- A frozen FLOW with a shadow record, and the end of its send. -/
theorem witness_NoticesStayApart :
    let s := { frozen 255 4 with pending := [.sendComplete] }
    s.LinkOk ∧ ∃ t, step s = .next t :=
  ⟨⟨⟨by unfold NoticeEntry.Apart; decide +kernel, by decide +kernel, by decide +kernel,
      fun sh h => by
        have h : sh = ⟨255, .flow 4⟩ := (Option.some.inj h).symm
        subst h
        decide +kernel, by decide +kernel, by decide +kernel⟩,
    fun h => absurd h (by decide +kernel)⟩, _, rfl⟩

/-- A burst of 64 bytes in flight. -/
theorem witness_BurstsStayShort :
    let s := { ring with pending := [.arbiterGrant] }
    s.BurstsOk ∧ ∃ t, step s = .next t :=
  ⟨⟨fun b h => by
      have h : b = ⟨5, 7, 3968, 64, true, []⟩ := (Option.some.inj h).symm
      subst h
      decide,
    fun r q h => by
      have none_waits : ∀ r : Requester, ring.arbiter.requests[r] = none := by decide +kernel
      have h : ring.arbiter.requests[r] = some q := h
      rw [none_waits r] at h
      cases h⟩, _, rfl⟩

theorem witness_CachesStayRanked :
    let s := { tap with pending := [.captureBurstRequest 0] }
    s.CachesOk ∧ ∃ t, step s = .next t :=
  ⟨fun i => ⟨by revert i; decide +kernel, by revert i; decide +kernel⟩, _, rfl⟩

theorem reset_maps_are_empty (i : StreamId) (v : VPage) : State.reset.entry i v = none := by
  simp [State.entry, State.reset, MapUnit.reset]

/-- Initialisation in progress, with two frames in the queue and the third offered. -/
theorem witness_PoolStaysWhole :
    let s := { live.setMapUnit { live.mapUnit with initInProgress := true, initNext := 2, freeQueue := [0, 1] } with
      pending := [.poolInitAppend] }
    s.PoolOk ∧ ∃ t, step s = .next t := by
  have frames : ∀ f : FrameId, State.reset.frame f = FrameRecord.reset := fun f => by
    simp [State.frame, State.reset, MapUnit.reset]
  have maps : State.reset.mapUnit.maps = Vector.replicate 8 (Vector.replicate 512 none) := rfl
  have named : ∀ f : FrameId, State.reset.entriesNaming f = 0 := fun f => by
    unfold State.entriesNaming
    rw [maps, Vector.toList_replicate, List.map_replicate, Vector.toList_replicate, List.countP_replicate]
    rfl
  refine ⟨⟨fun f => ?_, fun f => ?_, fun i v w x y h => ?_, by decide, fun _ h => absurd h (by decide), fun _ f => ?_,
    fun _ => rfl, fun _ => ⟨rfl, fun f => ?_⟩⟩, _, rfl⟩
  · exact (congrArg FrameRecord.refcount (frames f)).trans (named f).symm
  · show (State.reset.frame f).state = .bound ↔ 1 ≤ (State.reset.frame f).refcount
    rw [frames f]
    decide
  · exact absurd ((reset_maps_are_empty i v).symm.trans h) (by simp)
  · show f ∈ [0, 1] ↔ f.val < 2
    simp only [List.mem_cons, List.not_mem_nil, or_false, Fin.ext_iff]
    show f.val = 0 ∨ f.val = 1 ↔ f.val < 2
    omega
  · exact congrArg FrameRecord.refcount (frames f)

theorem witness_OnlyBurstsChangeTheStore :
    (∃ t, exec .readSelect draining = .next t) ∧ (∀ j, Instr.readSelect ≠ .captureBurstComplete j) ∧
      Instr.readSelect ≠ .hostBurstComplete ∧ Instr.readSelect ≠ .pinReset ∧ Instr.readSelect ≠ .powerOn :=
  ⟨⟨_, rfl⟩, by simp⟩

theorem witness_HeldPartIgnoresOtherSteps :
    State.reset.heldInReset.isSome = true ∧ State.reset.ExecutionOk ∧ Instr.badStart 0 ≠ .powerOn ∧
      Instr.badStart 0 ≠ .pinReset ∧ Instr.badStart 0 ≠ .resetEnd ∧ Instr.badStart 0 ≠ .csNFall ∧
      Instr.badStart 0 ≠ .csNRise :=
  ⟨rfl, ⟨fun c h => absurd (show (none : Option CurrentCommand) = some c from h) (by simp), fun _ => rfl⟩, by simp⟩

/-- PIN_RESET with a write burst and with a read burst in flight; RESET_END at power-on. -/
theorem witness_ResetsAndStartUp :
    (∃ b, ring.arbiter.inFlight = some b ∧ b.isWrite = true) ∧
    (∃ b, (ring.setArbiter { ring.arbiter with inFlight := some ⟨8, 0, 0, 64, false, []⟩ }).arbiter.inFlight = some b ∧
      b.isWrite = false) ∧
    State.reset.heldInReset.isSome = true := ⟨⟨_, rfl, rfl⟩, ⟨_, rfl, rfl⟩, rfl⟩

/-- Initialisation at its first and its last frame, and at its end after power-on and after RESTART ALL. -/
def initialising (next : Nat) (current : Option CurrentCommand) : State :=
  let s := live.setMapUnit { live.mapUnit with initInProgress := true, initNext := next }
  { s with
    command := { queue := [message 0x02], current := current
                 execution := if current.isSome then .executing else .waitingForInit, transfer := none } }

theorem witness_PoolInitialisationFillsTheQueue :
    (initialising 0 none).mapUnit.initNext = (0 : FrameId).val ∧
    (initialising 4095 none).mapUnit.initNext = (4095 : FrameId).val ∧
    (initialising 4096 none).command.execution = .waitingForInit ∧ (initialising 4096 none).command.current = none ∧
    (∀ n ∈ [0, 4095, 4096], (initialising n none).heldInReset = none ∧
      (initialising n none).mapUnit.initInProgress = true) ∧
    let s := initialising 4096 (some ⟨.restart .all, .initialising 8⟩)
    s.heldInReset = none ∧ s.mapUnit.initInProgress = true ∧ s.mapUnit.initNext = 4096 ∧
      s.command.current = some ⟨.restart .all, .initialising 8⟩ ∧ s.command.queue = [message 0x02] := by decide +kernel

/-- A read transaction that sends a message, with the notices and the shadow record given. -/
def sending (m : Option Sending) (notices : List NoticeEntry) (shadow : Option Shadow) : State :=
  let s := clocked live .read
  s.setLink { s.link with sending := m, notices := notices, shadow := shadow }

/-- CS_N high; the start of a transaction with a reply, with a notice alone, and with neither; MISO with CS_N high, while
held in reset, in a write transaction, and at the last byte of each kind of message and past it. -/
theorem witness_TransactionBegins :
    (live.heldInReset = none ∧ live.link.csHigh = true ∧
    (clocked live .start).link.transaction = .start ∧ (clocked live .start).link.replies = [] ∧
      (clocked live .start).link.notices = [] ∧
    flowing.link.transaction = .start ∧ flowing.link.replies = [] ∧ flowing.link.notices ≠ [] ∧
    (clocked limit .start).link.transaction = .start ∧ (clocked limit .start).link.replies ≠ [] ∧
    State.reset.heldInReset.isSome = true) ∧
    (let s := clocked live .write
     s.LinkOk ∧ s.link.csHigh = false ∧ s.heldInReset = none ∧ s.link.sending = none ∧ s.link.transaction ≠ .read) ∧
    ∀ m ∈ [Sending.reply [1, 2], .notice [1, 2] false, .notice [1, 2] true, .empty [1, 2]],
      let s := sending (some m) [] none
      s.link.csHigh = false ∧ s.heldInReset = none ∧ s.link.sending = some m ∧ 1 < [(1 : Byte), 2].length ∧
        [(1 : Byte), 2].length ≤ 2 :=
  ⟨by decide +kernel,
    ⟨⟨⟨by simp [clocked, live, State.reset, Link.reset], by decide, by decide, fun sh h => absurd h (by simp [clocked, live,
      State.reset, Link.reset]), by decide, by decide⟩, fun h => absurd h (by decide)⟩, by decide⟩, by decide⟩

theorem witness_BadStartIsIgnored :
    (clocked live .start).heldInReset = none ∧ (clocked live .start).link.transaction = .start ∧
      (0x00 : Byte) ≠ 0xA5 ∧ (0x00 : Byte) ≠ 0x5A ∧ (clocked live .ignore).link.transaction = .ignore := by
  decide +kernel

/-- Intact with room; intact with the command queue full; intact with no reply place; a wrong CRC; length 265. -/
theorem witness_InboundMessageIsAdmittedOrRefused :
    let room := clocked live .write
    let none_left := limit.setLink { limit.link with replies := List.replicate 4 ⟨0x90, 0, [0]⟩ }
    room.heldInReset = none ∧ room.link.transaction = .write ∧ room.command.queue.length < 4 ∧
      room.link.replies.length + room.link.reservations < 8 ∧
      crc16 [0x19, 0x21, byteOf 0, byteOf 0] = poolStatusCrc ∧
      crc16 [0x19, 0x21, byteOf 0, byteOf 0] ≠ poolStatusCrc + 1 ∧
      4 ≤ limit.command.queue.length ∧ limit.link.replies.length + limit.link.reservations < 8 ∧
      limit.link.transaction = .write ∧ 8 ≤ none_left.link.replies.length + none_left.link.reservations ∧
      none_left.link.transaction = .write ∧ 264 < (265 : Word).toNat ∧ room.link.csHigh = false := by decide +kernel

/-- A reply; a notice without and with a shadow record (FLOW and another kind); a marked notice without and with one; the
empty message; a read transaction whose message has been sent; and the two other kinds of open transaction. -/
theorem witness_EndOfASendSettlesTheMessage :
    let low : NoticeEntry := ⟨none, 1, .poolLow 3 4⟩
    let flow : NoticeEntry := ⟨some 2, 255, .flow 3⟩
    (∀ s ∈ [sending (some (.reply [0])) [] none, sending (some (.notice [0] false)) [low] none,
        sending (some (.notice [0] false)) [low] (some ⟨255, .poolLow 2 4⟩), sending (some (.notice [0] true)) [flow] none,
        sending (some (.notice [0] true)) [flow] (some ⟨255, .flow 1⟩),
        sending (some (.notice [0] false)) [flow] (some ⟨1, .flow 0xFFFFFFFF⟩), sending (some (.empty [0])) [] none,
        sending none [low] none],
      s.heldInReset = none ∧ s.link.transaction = .read ∧ s.link.csHigh = false) ∧
    (∀ x, low.fields ≠ .flow x) ∧
    (clocked live .write).link.transaction = .write ∧ (clocked live .ignore).link.transaction ≠ .write ∧
      (clocked live .ignore).link.transaction ≠ .read ∧ (clocked live .write).link.csHigh = false :=
  ⟨by decide +kernel, by simp, by decide +kernel⟩

/-- The FLOW of stream 2 behind a frozen head, at 255 occurrences; and POOL_LOW, whose fields are not FLOW's. -/
theorem witness_MatchingOccurrenceCoalesces :
    let head : NoticeEntry := ⟨none, 1, .poolLow 3 4⟩
    let held : NoticeEntry := ⟨some 2, 255, .flow 3⟩
    let l : Link := { live.link with notices := [head, held], sending := some (.notice [] false) }
    let m : Link := { live.link with notices := [head] }
    (l.notices = [head] ++ held :: [] ∧ (l.noticeFrozen = true → [head] ≠ []) ∧
      (∀ x ∈ [head], ¬ (x.stream = some 2 ∧ x.fields.kind = (NoticeFields.flow 5).kind)) ∧
      held.stream = some 2 ∧ held.fields.kind = (NoticeFields.flow 5).kind) ∧
    (m.notices = [] ++ head :: [] ∧ m.noticeFrozen = false ∧ head.stream = none ∧
      head.fields.kind = (NoticeFields.poolLow 2 4).kind) := by decide +kernel

/-- No entry of the kind and stream; a frozen match without a shadow record, and with one, of FLOW and of another kind. -/
theorem witness_OtherOccurrencesAppendOrShadow :
    let head : NoticeEntry := ⟨none, 1, .poolLow 3 4⟩
    let l : Link := { live.link with notices := [head], sending := some (.notice [] false) }
    (∀ x ∈ l.notices, ¬ (x.stream = some 2 ∧ x.fields.kind = (NoticeFields.flow 1).kind)) ∧
      (head.stream = none ∧ head.fields.kind = (NoticeFields.poolLow 2 4).kind ∧ l.shadow = none ∧
        ({ l with shadow := some ⟨255, .poolLow 2 4⟩ } : Link).shadow = some ⟨255, .poolLow 2 4⟩) ∧
    (∀ x, NoticeFields.poolLow 2 4 ≠ .flow x) ∧
    let f := (frozen 255 0xFFFFFFFF).link
    f.sending.isSome = true ∧ f.notices.head? = some ⟨some 2, 3, .flow 3⟩ ∧ f.shadow = some ⟨255, .flow 0xFFFFFFFF⟩ :=
  ⟨by decide +kernel, by decide, by simp, by decide +kernel⟩

/-- A command that passes, and one refused for each of the three reasons; WRITE_DATA with no byte and with an odd number. -/
theorem witness_CommandTakeChecksTheHead :
    let good := waiting live 0x10 0x37 [0x02, 0x00, 0x2C, 0x01, 0xFF, 0xFF]
    let bad := waiting live 0x10 0x37 [0x02, 0x02, 0x2C, 0x01, 0xFF, 0xFF]
    good.heldInReset = none ∧ good.command.execution = .ready ∧ bad.command.execution = .ready ∧
      readCommand ⟨0x10, 0x37, [0x02, 0x00, 0x2C, 0x01, 0xFF, 0xFF]⟩ = .ok (.map 2 .readWrite 300 none) ∧
      readCommand ⟨0x10, 0x37, [0x02, 0x02, 0x2C, 0x01, 0xFF, 0xFF]⟩ = .error .badField ∧
      readCommand ⟨0x33, 0x37, []⟩ = .error .badKind ∧ readCommand ⟨0x10, 0x37, []⟩ = .error .badLength ∧
      readCommand ⟨0x31, 0x37, [0, 0, 0, 0, 0, 0]⟩ = .error .badLength ∧
      readCommand ⟨0x31, 0x37, [0, 0, 0, 0, 0, 0, 1, 2, 3]⟩ = .error .badLength :=
  ⟨rfl, by decide +kernel⟩

theorem witness_QueriesOnlyAnswer :
    (given live .hello 0x01).Handed .hello (message 0x01) [] ∧
    (claimed tap (.queryMap 7 511 1) 0x14).AtMapUnit (.queryMap 7 511 1) (message 0x14) [] ∧
    (511 : VPage).val + 1 ≤ 512 ∧
    (claimed tap (.queryFrame 4095) 0x18).AtMapUnit (.queryFrame 4095) (message 0x18) [] ∧
    (claimed tap .poolStatus 0x19).AtMapUnit .poolStatus (message 0x19) [] ∧
    (asked draining (.queryStream 3) 0x29).AtEngine 3 (.queryStream 3) (message 0x29) [] :=
  ⟨⟨rfl, rfl⟩, claimed_at rfl rfl, by decide, claimed_at rfl rfl, claimed_at rfl rfl, asked_at (by decide +kernel)⟩

/-- Both scopes; an IDLE stream, a stream without and a stream with a burst in flight; and the end of such a burst, of each
direction. -/
theorem witness_EveryEngineTakesTheRestart :
    (given live (.restart .streams) 0x02).Handed (.restart .streams) (message 0x02) [] ∧
    (given live (.restart .all) 0x02).Handed (.restart .all) (message 0x02) [] ∧
    (∀ direction ∈ [Direction.capture, .replay],
      let b : Burst := ⟨0, 9, 64, 64, direction = .capture, List.replicate 64 7⟩
      let s := inState .running direction none [7]
      let s := (s.setEngine 0 { s.engine 0 with restart := .waitingBurst }).setArbiter
        { s.arbiter with inFlight := some b }
      s.heldInReset = none ∧ s.arbiter.inFlight = some b ∧ b.requester = requesterOf 0 ∧
        (s.engine 0).restart = .waitingBurst ∧ (s.engine 0).port = some 0 ∧ (s.engine 0).direction = some direction) ∧
    let s := after (exec .restartStreams restarting)
    let b := s.setArbiter { s.arbiter with inFlight := some ⟨0, 50, 2048, 64, true, []⟩ }
    s.heldInReset = none ∧ (s.engine 7).restart = .sent ∧ (s.engine 7).state = .idle ∧
      (s.engine 0).restart = .sent ∧ (s.engine 0).state ≠ .idle ∧ (s.engine 0).port = some 0 ∧
      s.burstInFlight (requesterOf 0) = false ∧ b.burstInFlight (requesterOf 0) = true ∧
      (b.engine 0).restart = .sent :=
  ⟨⟨rfl, rfl⟩, ⟨rfl, rfl⟩, by decide +kernel, by decide +kernel⟩

/-- The answers of the example, one of which names a frame; a frozen stream notice and a frozen global one. -/
theorem witness_RestartClearsByItsScope :
    (∀ scope ∈ [RestartScope.streams, RestartScope.all],
      let s := answered scope
      s.command.current = some ⟨.restart scope, .stoppingEngines 2⟩ ∧ s.command.queue = [message 0x02] ∧
        s.heldInReset = none ∧ s.mapUnit.initInProgress = false ∧
        ((s.engine 0).restart = .answered (some (50, 2048)) ∧
          ∀ i : StreamId, i ≠ 0 → (s.engine i).restart = .answered none)) ∧
    live.link.noticeFrozen = false ∧
    (frozen 2 2).link.sending.isSome = true ∧ (frozen 2 2).link.notices.map (fun e => e.fields.kind.isGlobal) =
      [false, false] ∧
    (sending (some (.notice [0] false)) [⟨none, 1, .poolLow 3 4⟩] none).link.notices.map
      (fun e => e.fields.kind.isGlobal) = [true] := by decide +kernel

/-- The command; a mark of 4097; a free count that the issue brings below the mark. -/
theorem witness_SetPoolMarkReplacesTheMark :
    (claimed live (.setPoolMark 4096) 0x1A).AtMapUnit (.setPoolMark 4096) (message 0x1A) [] ∧
    (waiting live 0x1A 0x21 [0x01, 0x10]).command.execution = .ready ∧
      (waiting live 0x1A 0x21 [0x01, 0x10]).heldInReset = none ∧
      4096 < (0x01 : Byte).toNat + 256 * (0x10 : Byte).toNat ∧
    (pool [17, 18, 19, 20]).mapUnit.lowArmed = true ∧
      ((pool [17, 18, 19, 20]).mapUnit.freeQueue.erase 17).length < (pool [17, 18, 19, 20]).mapUnit.lowMark :=
  ⟨claimed_at rfl rfl, by decide +kernel⟩

/-- An unnamed and a named frame; an entry that exists, an empty queue, a BOUND frame. -/
theorem witness_MapIssuesTheFrameOrIsRefused :
    let named : HostCommand := .map 0 .readOnly 511 (some 19)
    let bad : HostCommand := .map 0 .readOnly 511 (some 100)
    let s := pool [17, 18, 19]
    ((claimed s mapAny 0x10).AtMapUnit mapAny (message 0x10) [] ∧
      (claimed s named 0x10).AtMapUnit named (message 0x10) [] ∧
      (claimed tap bad 0x10).AtMapUnit bad (message 0x10) []) ∧
    s.entry 0 0 = none ∧ s.mapUnit.freeQueue.head? = some 17 ∧ (s.frame 19).state = .free ∧
      (s.engine 0).state ≠ .waitFault ∧ tap.entry 0 5 = some ⟨100, .readWrite⟩ ∧ tap.mapUnit.freeQueue = [] ∧
      tap.entry 0 511 = none ∧ (tap.frame 100).state = .bound :=
  ⟨⟨claimed_at rfl rfl, claimed_at rfl rfl, claimed_at rfl rfl⟩, by decide +kernel⟩

/-- A stream that waits with reason ABSENT. -/
def faulted (i : StreamId) (direction : Direction) (v : VPage) (reason : FaultReason) (s : State) : State :=
  let e := { running direction 0 .host ⟨0, 512, .once, false, 0⟩ ⟨v, 0⟩ 0 with
    state := .waitFault, currentPage := none, faultRecord := some ⟨v, reason⟩, cache := emptyCache }
  (s.setEngine i e).setPort 0 (openPort i direction [])

/-- A MAP whose stream waits at another page, or waits for a frame at the page mapped. -/
theorem witness_MapIssuesTheFrameOrIsRefused_waiting :
    ∀ x ∈ [((5 : VPage), FaultReason.absent), (0, .poolEmpty)],
      let s := faulted 0 .capture x.1 x.2 (pool [17])
      (claimed s mapAny 0x10).AtMapUnit mapAny (message 0x10) [] ∧ s.entry 0 0 = none ∧
        (s.engine 0).state = .waitFault ∧ (s.engine 0).faultRecord ≠ some ⟨0, .absent⟩ ∧
        s.mapUnit.freeQueue.head? = some 17 :=
  fun x h => ⟨claimed_at rfl rfl, by revert x; decide +kernel⟩

/-- A frame from the head of the queue, and a named one that stands behind it. -/
theorem witness_MapRetriesTheFaultedStream :
    ∀ direction ∈ [Direction.capture, Direction.replay], ∀ access ∈ [Access.readWrite, Access.readOnly],
      ∀ x ∈ [(none, (4095 : FrameId)), (some 17, 17)],
      let s := faulted 1 direction 511 .absent (pool [4095, 17])
      ((claimed s (.map 1 access 511 x.1) 0x10).AtMapUnit (.map 1 access 511 x.1) (message 0x10) []) ∧
      s.entry 1 511 = none ∧
        (x.1 = none ∧ s.mapUnit.freeQueue.head? = some x.2 ∨ x.1 = some x.2 ∧ (s.frame x.2).state = .free) ∧
        (s.frame x.2).hostHold = false ∧ (s.engine 1).state = .waitFault ∧
        (s.engine 1).faultRecord = some ⟨511, .absent⟩ ∧ (s.engine 1).endReason = none ∧
        (s.engine 1).direction = some direction :=
  fun d h a _ x k => ⟨claimed_at rfl rfl, by
    have free : ((pool [4095, 17]).frame 17).state = .free := by decide +kernel
    have source :
        x.1 = none ∧ some 4095 = some x.2 ∨ x.1 = some x.2 ∧ ((pool [4095, 17]).frame x.2).state = .free := by
      rcases List.mem_pair.mp k with rfl | rfl
      · exact .inl ⟨rfl, rfl⟩
      · exact .inr ⟨rfl, free⟩
    have unheld : ((pool [4095, 17]).frame x.2).hostHold = false := by
      rcases List.mem_pair.mp k with rfl | rfl <;> decide +kernel
    have absent : (pool [4095, 17]).entry 1 511 = none := by decide +kernel
    exact ⟨absent, source, unheld, rfl, rfl, rfl, rfl⟩⟩

theorem witness_UnmapIsRefusedForACurrentPage :
    (∀ count, (claimed tap (.unmap 0 4 count) 0x11).AtMapUnit (.unmap 0 4 count) (message 0x11) []) ∧
    (claimed live (.unmap 0 0 512) 0x11).AtMapUnit (.unmap 0 0 512) (message 0x11) [] ∧
    (tap.engine 0).currentPage = some ⟨5, 100⟩ ∧ (tap.engine 0).state ∈ [.running, .paused, .waitData, .stopping] ∧
    (4 : VPage).val + 1 ≤ (5 : VPage).val ∧ (5 : VPage).val < (4 : VPage).val + 2 ∧
    (live.engine 0).state ∉ [.running, .paused, .waitData, .stopping] :=
  ⟨fun _ => claimed_at rfl rfl, claimed_at rfl rfl, by decide +kernel⟩

/-- An absent entry, a frame of refcount 2 and a frame of refcount 1; a range that ends before the current page, with
absent and present pages, and the last page of the map. -/
theorem witness_UnmapReleasesThePage :
    (∀ first count, (claimed tap (.unmap 0 first count) 0x11).AtMapUnit (.unmap 0 first count) (message 0x11) []) ∧
    (∀ v ∈ [(4 : VPage), 6, 511], (tap.engine 0).purgeInUse v 1 = false) ∧
    tap.entry 0 511 = none ∧ tap.entry 0 4 = some ⟨99, .readWrite⟩ ∧ (tap.frame 99).refcount = 2 ∧
    ((tap.setFrame 99 (bound 1 4096 true 1 none)).frame 99).refcount = 1 ∧ tap.mapUnit.waiters = [] ∧
    ((tap.engine 0).purgeInUse 0 5 = false ∧ (0 : VPage).val + 5 ≤ 512 ∧
      (pagesFrom 0 5).filterMap (fun v => (tap.entry 0 v).map fun e => e.frame) = [99] ∧ 1 ≤ (tap.frame 99).refcount) ∧
    (tap.engine 0).purgeInUse 511 1 = false ∧ (511 : VPage).val + 1 ≤ 512 ∧
      (pagesFrom 511 1).filterMap (fun v => (tap.entry 0 v).map fun e => e.frame) = [] :=
  ⟨fun _ _ => claimed_at rfl rfl, by decide +kernel⟩

/-- Stream 1 waits for a frame, and stream 0 unmaps a page whose frame has refcount 1. -/
def handing : State :=
  let s := faulted 1 .capture 7 .poolEmpty (tap.setFrame 99 (bound 1 4096 true 1 none))
  (s.setEngine 1 { s.engine 1 with faultPolicy := some .allocate }).setWaiters [1]

/-- Stream 0 waits for a frame at page 511, and its page 510 is unmapped with it. -/
def handingToItself : State :=
  let s := faulted 0 .capture 511 .poolEmpty (live.setFrame 99 (bound 1 4096 true 1 none))
  ((s.setEngine 0 { s.engine 0 with faultPolicy := some .allocate }).setWaiters [0]).setEntry 0 510
    (some ⟨99, .readWrite⟩)

theorem witness_HandOffServesTheOldestWaiter :
    ((claimed handing (.unmap 0 4 1) 0x11).AtMapUnit (.unmap 0 4 1) (message 0x11) [] ∧
      (claimed handingToItself (.unmap 0 510 2) 0x11).AtMapUnit (.unmap 0 510 2) (message 0x11) [] ∧
      (handingToItself.engine 0).CacheOk) ∧
    (let s := handing
     (s.engine 0).purgeInUse 4 1 = false ∧ s.entry 0 4 = some ⟨99, .readWrite⟩ ∧ (s.frame 99).refcount = 1 ∧
      s.mapUnit.waiters = [1] ∧ (s.engine 1).restart = .none ∧ (s.engine 1).state = .waitFault ∧
      (s.engine 1).endReason = none ∧ (s.engine 1).faultRecord = some ⟨7, .poolEmpty⟩ ∧
      (s.engine 1).faultPolicy = some .allocate ∧ s.entry 1 7 = none) ∧
    let s := handingToItself
    s.entry 0 510 = some ⟨99, .readWrite⟩ ∧ (s.frame 99).refcount = 1 ∧ s.mapUnit.waiters = [0] ∧
      (s.engine 0).restart = .none ∧ (s.engine 0).state = .waitFault ∧ (s.engine 0).endReason = none ∧
      (s.engine 0).faultRecord = some ⟨511, .poolEmpty⟩ ∧ (s.engine 0).faultPolicy = some .allocate ∧
      s.entry 0 511 = none ∧ (511 : VPage).val = (510 : VPage).val + 1 :=
  ⟨⟨claimed_at rfl rfl, claimed_at rfl rfl, ⟨by decide +kernel, by decide +kernel⟩⟩, by decide +kernel⟩

/-- Stream 1 waits for a frame at page 7, with an entry, a record for frame 60, a fault policy and a STOP taken or not. -/
def handingAt (entry : Option MapEntry) (r : FrameRecord) (fault : FaultPolicy) (ending : Option EndReason) : State :=
  let s := (handing.setEntry 1 7 entry).setFrame 60 r
  (s.setEngine 1 { s.engine 1 with faultPolicy := some fault, endReason := ending, port := some 1 }).setPort 1
    { openPort 1 .capture (if ending.isSome then [] else words 3) with gateOpen := ending.isNone }

/-- A waiter that allocates or detaches, with an end reason and without; one whose decision issues no frame: an absent
page under HOST, a READ_ONLY page, a fresh frame, a frame that the stream holds alone, a frame under host hold. -/
theorem witness_HandOffServesTheOldestWaiter_decisions :
    ∀ ending ∈ [none, some EndReason.stopped, some .aborted],
      ∀ x ∈ [(none, bound 1 2 false 1 none, FaultPolicy.allocate), (none, bound 1 2 false 1 none, .host),
        (some ⟨60, .readWrite⟩, bound 2 4096 true 1 none, .allocate),
        (some ⟨60, .readOnly⟩, bound 2 4096 true 1 none, .allocate),
        (some ⟨60, .readWrite⟩, bound 1 0 false 1 none, .host),
        (some ⟨60, .readWrite⟩, bound 1 4096 true 1 none, .allocate),
        (some ⟨60, .readOnly⟩, { bound 1 4096 true 1 none with hostHold := true }, .host)],
      let s := handingAt x.1 x.2.1 x.2.2 ending
      (claimed s (.unmap 0 4 1) 0x11).AtMapUnit (.unmap 0 4 1) (message 0x11) [] ∧
        (s.engine 0).purgeInUse 4 1 = false ∧ s.entry 0 4 = some ⟨99, .readWrite⟩ ∧ (s.frame 99).refcount = 1 ∧
        s.mapUnit.waiters = [1] ∧ (s.engine 1).port = some 1 ∧ (s.engine 1).restart = .none ∧
        (s.engine 1).state = .waitFault ∧ (s.engine 1).faultRecord = some ⟨7, .poolEmpty⟩ ∧
        (s.engine 1).endReason = ending ∧ s.entry 1 7 = x.1 ∧ (s.engine 1).faultPolicy = some x.2.2 ∧
        s.frame 60 = x.2.1 ∧ (60 : FrameId) ≠ 99 :=
  fun e h x k => ⟨claimed_at rfl rfl, by revert e x; decide +kernel⟩

/-- A waiter that has stopped for a RESTART. -/
theorem witness_HandOffServesTheOldestWaiter_restart :
    let s := handing.setEngine 1 { handing.engine 1 with restart := .answered none }
    (claimed s (.unmap 0 4 1) 0x11).AtMapUnit (.unmap 0 4 1) (message 0x11) [] ∧
      (s.engine 0).purgeInUse 4 1 = false ∧ s.entry 0 4 = some ⟨99, .readWrite⟩ ∧ (s.frame 99).refcount = 1 ∧
      s.mapUnit.waiters = [1] ∧ (s.engine 1).port = some 0 ∧ (s.engine 1).restart = .answered none :=
  ⟨claimed_at rfl rfl, by decide +kernel⟩

/-- An absent page of the range; a range that holds the current page; a range that does not. -/
theorem witness_ProtectSetsTheAccess :
    (∀ first count, (claimed tap (.protect 0 .readOnly first count) 0x12).AtMapUnit (.protect 0 .readOnly first count)
      (message 0x12) []) ∧
    tap.entry 0 511 = none ∧ (511 : VPage).val + 1 ≤ 512 ∧ (4 : VPage).val + 2 ≤ 512 ∧
    (tap.engine 0).purgeInUse 4 2 = true ∧ (tap.engine 0).purgeInUse 4 1 = false ∧
    ∀ v : VPage, 4 ≤ v → v.val < 4 + 2 → tap.entry 0 v ≠ none :=
  ⟨fun _ _ => claimed_at rfl rfl, by decide +kernel⟩

theorem live_maps_are_empty (i : StreamId) (v : VPage) : live.entry i v = none := reset_maps_are_empty i v

theorem tap_names_nothing_for_stream_1 (u : VPage) : tap.entry 1 u = none := by
  have other : (0 : StreamId) ≠ 1 := by decide
  simp [tap, live_maps_are_empty, entry_setEntry_other_stream _ _ _ _ _ _ other]

/-- The same stream; an absent source; a present destination; a destination map that names the frame; a SHARE of one page
and of two, up to the end of the map, to an IDLE stream and to one that waits at another page or with the other reason. -/
theorem witness_ShareNamesTheFrame :
    (∀ s i j v w n, s.heldInReset = none → s.mapUnit.initInProgress = false →
      (claimed s (.share i j .readOnly v w n) 0x13).AtMapUnit (.share i j .readOnly v w n) (message 0x13) []) ∧
    (tap.entry 0 511 = none ∧ tap.entry 0 5 = some ⟨100, .readWrite⟩ ∧
      (tap.setEntry 1 0 (some ⟨7, .readOnly⟩)).entry 1 0 = some ⟨7, .readOnly⟩ ∧
      (tap.setEntry 1 511 (some ⟨100, .readOnly⟩)).entry 1 511 = some ⟨100, .readOnly⟩) ∧
    (∀ u, tap.entry 1 u = none) ∧ (∀ direction v reason u, (faulted 1 direction v reason tap).entry 1 u = none) ∧
    (∀ s ∈ [tap, faulted 1 .replay 509 .absent tap, faulted 1 .capture 511 .poolEmpty tap],
      s.heldInReset = none ∧ s.mapUnit.initInProgress = false ∧
        ∀ u ∈ pagesFrom 510 2, (s.engine 1).faultRecord ≠ some ⟨u, .absent⟩) ∧
    (∀ u ∈ pagesFrom 4 2, tap.entry 0 u ≠ none) ∧ (4 : VPage).val + 2 ≤ 512 ∧ (510 : VPage).val + 2 ≤ 512 ∧
    (pagesFrom 4 2).filterMap (fun u => (tap.entry 0 u).map fun e => e.frame) = [99, 100] :=
  ⟨fun _ _ _ _ _ _ h k => claimed_at h k, by decide +kernel, tap_names_nothing_for_stream_1,
    fun _ _ _ u => tap_names_nothing_for_stream_1 u, by decide +kernel⟩

/-- A destination that waits with reason ABSENT at the page: a replay stream; and a capture stream, with words in its FIFO
or none, under both accesses, with a frame in the pool or none, where the frame shared is held, fresh, or written. -/
theorem witness_ShareNamesTheFrame_retry :
    ∀ direction ∈ [Direction.capture, .replay], ∀ access ∈ [Access.readWrite, .readOnly],
      ∀ queue ∈ [[], [(4095 : FrameId)]], ∀ fifo ∈ [[], [(7 : Word)]],
      ∀ r ∈ [{ bound 2 2048 false 1 (some 0) with hostHold := true }, bound 1 0 false 1 none,
        bound 2 2048 false 1 (some 0)],
      let s := (((faulted 1 direction 511 .absent tap).setPort 0 (openPort 1 direction fifo)).setFrame 100 r).setFreeQueue
        queue
      (claimed s (.share 0 1 access 5 511 1) 0x13).AtMapUnit (.share 0 1 access 5 511 1) (message 0x13) [] ∧
        (∀ u, s.entry 1 u = none) ∧ s.entry 0 5 = some ⟨100, .readWrite⟩ ∧ (s.engine 1).state = .waitFault ∧
        (s.engine 1).faultRecord = some ⟨511, .absent⟩ ∧ (s.engine 1).endReason = none ∧
        (s.engine 1).direction = some direction ∧ (s.engine 1).port = some 0 ∧ (s.port 0).fifo = fifo ∧
        s.frame 100 = r ∧ 1 ≤ r.refcount ∧ s.mapUnit.freeQueue = queue ∧ (4095 : FrameId) ≠ 100 := by
  intro direction hd access ha queue hq fifo hf r hr
  refine ⟨claimed_at rfl rfl, fun u => tap_names_nothing_for_stream_1 u, ?_⟩
  revert direction queue fifo r
  decide +kernel

/-- A stream in READY with slot A armed. -/
def readyStream (direction : Direction) : State :=
  let s := inState .ready direction none []
  s.setEngine 0 { s.engine 0 with activeSlot := none, currentPage := none, cache := emptyCache }

/-- An open stream; a bad combination; a bound port; an OPEN. -/
theorem witness_OpenBindsThePort :
    (∀ p ∈ [(0 : PortId), 3], ∀ f ∈ [FaultPolicy.allocate, .host],
      (asked draining (.openStream 7 .capture p f .keep) 0x20).AtEngine 7 (.openStream 7 .capture p f .keep)
        (message 0x20) []) ∧
    (asked draining (.openStream 7 .replay 1 .allocate .keep) 0x20).AtEngine 7 (.openStream 7 .replay 1 .allocate .keep)
      (message 0x20) [] ∧
    (asked draining (.openStream 7 .capture 1 .host .keep) 0x20).AtEngine 7 (.openStream 7 .capture 1 .host .keep)
      (message 0x20) [] ∧
    (asked draining (.openStream 3 .capture 0 .host .keep) 0x20).AtEngine 3 (.openStream 3 .capture 0 .host .keep)
      (message 0x20) [] ∧
    (draining.engine 3).state ≠ .idle ∧ (draining.engine 7).state = .idle ∧ (draining.port 1).bound.isSome = true ∧
      (draining.port 3).bound = none :=
  ⟨fun p h f g => asked_at (by revert p f; decide +kernel), asked_at (by decide +kernel), asked_at (by decide +kernel),
    asked_at (by decide +kernel), by decide +kernel⟩

/-- Stream 0 of the tap, closed, whose map is about to be released. -/
def closing : State :=
  let s := (given (tap.setEngine 0 Engine.reset) (.closeStream 0 true) 0x21).setFrame 99 (bound 1 4096 true 1 none)
  (s.setStage (.closeStream 0 true) .releasingMap).setClaims [.host]

/-- Not closable; closable, without and with release; the release at the map unit. -/
theorem witness_CloseReturnsToIdleAndReleases :
    (asked draining (.closeStream 3 false) 0x21).AtEngine 3 (.closeStream 3 false) (message 0x21) [] ∧
    (∀ release ∈ [true, false], (asked (readyStream .capture) (.closeStream 0 release) 0x21).AtEngine 0
      (.closeStream 0 release) (message 0x21) []) ∧
    (draining.engine 3).state ∉ [.ready, .done, .failed] ∧
    ((readyStream .capture).engine 0).state ∈ [.ready, .done, .failed] ∧
    ((readyStream .capture).engine 0).port = some 0 ∧
    let s := closing
    s.command.current = some ⟨.closeStream 0 true, .releasingMap⟩ ∧ s.command.queue = [message 0x21] ∧
      s.heldInReset = none ∧ s.mapUnit.initInProgress = false ∧ s.mapUnit.claims.head? = some .host ∧
      s.mapUnit.waiters = [] ∧ (s.engine 0).state = .idle :=
  ⟨asked_at (by decide +kernel), fun r h => asked_at (by revert r; decide +kernel), by decide +kernel⟩

theorem closing_names : (pagesFrom 0 512).filterMap (fun v => (closing.entry 0 v).map fun e => e.frame) = [99, 100] := by
  have entries : ∀ v : VPage, (closing.entry 0 v).map (fun e => e.frame) =
      if v = 4 then some 99 else if v = 5 then some 100 else none := fun v => by
    show (tap.entry 0 v).map (fun e => e.frame) = _
    by_cases five : 5 = v
    · subst five
      simp [tap]
    · by_cases four : 4 = v
      · subst four
        simp [tap, entry_setEntry_other_page]
      · simp [tap, live_maps_are_empty, Ne.symm five, Ne.symm four, entry_setEntry_other_page _ _ _ _ _ five,
          entry_setEntry_other_page _ _ _ _ _ four]
  simp only [entries]
  decide +kernel

/-- The map that is released names two frames, one of which no other map names. -/
theorem witness_CloseReturnsToIdleAndReleases_counts :
    let s := closing
    let named := (pagesFrom 0 512).filterMap fun v => (s.entry 0 v).map fun e => e.frame
    named.Nodup ∧ (∀ f ∈ named, 1 ≤ (s.frame f).refcount) ∧ 99 ∈ named ∧ (s.frame 99).refcount = 1 ∧ 100 ∈ named ∧
      (s.frame 100).refcount = 2 := by
  have frames : (closing.frame 99).refcount = 1 ∧ (closing.frame 100).refcount = 2 := by decide +kernel
  dsimp only
  rw [closing_names]
  refine ⟨by decide, ?_, by decide, frames.1, by decide, frames.2⟩
  simp [frames]

/-- Stream 1 waits for a frame at page 511 while the map of stream 0 is released, and stream 2 behind it or not. -/
def closingToWaiter (refcount : Nat) (waiters : List StreamId) : State :=
  let s := (faulted 1 .capture 511 .poolEmpty closing).setFrame 100 (bound refcount 2048 false 1 none)
  (s.setEngine 1 { s.engine 1 with faultPolicy := some .allocate }).setWaiters waiters

theorem closingToWaiter_frames (refcount : Nat) (waiters : List StreamId) :
    ((closingToWaiter refcount waiters).frame 99).refcount = 1 ∧
      ((closingToWaiter refcount waiters).frame 100).refcount = refcount := by
  refine ⟨?_, ?_⟩
  · show ((closing.setFrame 100 _).frame 99).refcount = 1
    rw [frame_setFrame_other _ _ _ _ (by decide)]
    show ((State.setFrame _ 99 _).frame 99).refcount = 1
    rw [frame_setFrame_self]
    rfl
  · show ((closing.setFrame 100 _).frame 100).refcount = refcount
    rw [frame_setFrame_self]
    rfl

/-- One frame is brought to 0 with two streams waiting; one frame, and two, with one stream waiting. -/
theorem witness_CloseReturnsToIdleAndReleases_handOff :
    ∀ x ∈ [(2, [(1 : StreamId), 2], []), (2, [1], []), (1, [1], [(100 : FrameId)])],
      let s := closingToWaiter x.1 x.2.1
      let named := (pagesFrom 0 512).filterMap fun v => (s.entry 0 v).map fun e => e.frame
      (named.Nodup ∧ (∀ g ∈ named, 1 ≤ (s.frame g).refcount) ∧
        named.filter (fun g => (s.frame g).refcount == 1) = 99 :: x.2.2 ∧ (x.2.2 = [] ∨ x.2.1.tail = [])) ∧
      s.command.current = some ⟨.closeStream 0 true, .releasingMap⟩ ∧ s.command.queue = [message 0x21] ∧
      s.heldInReset = none ∧ s.mapUnit.initInProgress = false ∧ s.mapUnit.claims.head? = some .host ∧
      (s.engine 0).state = .idle ∧ s.mapUnit.waiters = 1 :: x.2.1.tail ∧ (s.engine 1).restart = .none ∧
      (s.engine 1).state = .waitFault ∧ (s.engine 1).endReason = none ∧
      (s.engine 1).faultRecord = some ⟨511, .poolEmpty⟩ ∧ (s.engine 1).faultPolicy = some .allocate ∧
      s.entry 1 511 = none ∧ (s.engine 1).port = some 0 := by
  intro x hx
  have names : (pagesFrom 0 512).filterMap (fun v => ((closingToWaiter x.1 x.2.1).entry 0 v).map fun e => e.frame) =
      [99, 100] := closing_names
  have frames := closingToWaiter_frames x.1 x.2.1
  dsimp only
  rw [names]
  refine ⟨⟨by decide, fun g hg => ?_, ?_, ?_⟩, ?_⟩
  · rcases List.mem_pair.mp hg with rfl | rfl
    · rw [frames.1]
    · rw [frames.2]
      clear names frames hg
      revert x
      decide
  · simp only [List.filter_cons, List.filter_nil, frames]
    clear names frames
    revert x
    decide
  all_goals
    clear names frames
    revert x
    decide +kernel

/-- IDLE; the active slot; an emptying; post-trigger pages one too many; a descriptor that fits, at both bounds. -/
theorem witness_ArmFillsTheSlot :
    (∀ d ∈ [(⟨0, 0, .once, false, 0⟩ : Descriptor), ⟨0, 4, .loop, true, 4⟩, ⟨0, 4, .loop, true, 3⟩,
        ⟨511, 1, .once, false, 0⟩],
      (asked draining (.arm 3 .b d) 0x22).AtEngine 3 (.arm 3 .b d) (message 0x22) []) ∧
    (asked draining (.arm 3 .a ⟨511, 1, .once, false, 0⟩) 0x22).AtEngine 3 (.arm 3 .a ⟨511, 1, .once, false, 0⟩)
      (message 0x22) [] ∧
    (asked live (.arm 7 .a ⟨511, 1, .once, false, 0⟩) 0x22).AtEngine 7 (.arm 7 .a ⟨511, 1, .once, false, 0⟩)
      (message 0x22) [] ∧
    (live.engine 7).state = .idle ∧ (draining.engine 3).state ≠ .idle ∧ (draining.engine 3).state ≠ .failed ∧
      (draining.engine 3).activeSlot = some .a ∧ (draining.engine 3).activeSlot ≠ some .b ∧
      (draining.engine 3).direction ≠ some .replay :=
  ⟨fun d h => asked_at (by revert d; decide +kernel), asked_at (by decide +kernel), asked_at (by decide +kernel),
    by decide +kernel⟩

/-- A replay stream without a current page, in a state, whose page 0 is in its cache or not. -/
def facing (state : StreamState) (entry : Option CacheEntry) (fill : Nat) (isSealed : Bool) : State :=
  let s := (readyStream .replay).setFrame 9 (bound 1 fill isSealed 1 none)
  s.setEngine 0 { s.engine 0 with state := state, position := ⟨0, 0⟩, cache := emptyCache.set 0 entry }

/-- A stream that runs; a capture stream in READY; a replay stream whose first page is in its cache, with data and without,
sealed or not, and one whose first page is not. -/
theorem witness_StartEntersTheFirstPage :
    (asked draining (.start 3 .a) 0x23).AtEngine 3 (.start 3 .a) (message 0x23) [] ∧
    (asked (readyStream .capture) (.start 0 .a) 0x23).AtEngine 0 (.start 0 .a) (message 0x23) [] ∧
    (draining.engine 3).state ∉ [.ready, .done] ∧
    (let e := (readyStream .capture).engine 0
     e.state ∈ [.ready, .done] ∧ e.slot .a = some ⟨0, 2, .once, false, 0⟩ ∧ e.port = some 0 ∧
      e.direction = some .capture) ∧
    ∀ state ∈ [StreamState.ready, .done], ∀ entry ∈ [none, some (⟨0, 9, .readOnly, 0⟩ : CacheEntry)],
      ∀ fill ∈ [0, 2], ∀ isSealed ∈ [true, false],
      let s := facing state entry fill isSealed
      (asked s (.start 0 .a) 0x23).AtEngine 0 (.start 0 .a) (message 0x23) [] ∧
        (s.engine 0).state ∈ [.ready, .done] ∧ (s.engine 0).slot .a = some ⟨0, 2, .once, false, 0⟩ ∧
        (s.engine 0).port = some 0 ∧ (s.engine 0).direction = some .replay ∧
        cacheLookup (s.engine 0).cache 0 = entry ∧ (s.frame 9).fill = fill ∧ (s.frame 9).isSealed = isSealed :=
  ⟨asked_at (by decide +kernel), asked_at (by decide +kernel), by decide +kernel, by decide +kernel,
    fun a h b k f m c n => ⟨asked_at (by revert a b f c; decide +kernel), by revert a b f c; decide +kernel⟩⟩

/-- PAUSE of a stream in DONE and in RUNNING; RESUME in RUNNING, of a capture stream, and of a replay stream below and
at the fill of its current frame. -/
theorem witness_PauseHoldsAndResumeGoesOn :
    (∀ state ∈ [StreamState.done, .running, .waitData],
      (asked (inState state .replay none []) (.pause 0) 0x24).AtEngine 0 (.pause 0) (message 0x24) []) ∧
    (∀ state ∈ [StreamState.running, .paused], ∀ direction ∈ [Direction.capture, .replay],
      (asked (inState state direction none []) (.resume 0) 0x25).AtEngine 0 (.resume 0) (message 0x25) []) ∧
    (∀ direction ∈ [Direction.capture, .replay], let s := inState .paused direction none []
      (s.engine 0).state = .paused ∧ (s.engine 0).port = some 0 ∧ (s.engine 0).direction = some direction ∧
        (s.engine 0).currentPage = some ⟨1, 9⟩ ∧ (s.engine 0).position.offset = 64) ∧
    ((inState .paused .replay none []).setFrame 9 (bound 1 66 false 1 none)).frame 9 = bound 1 66 false 1 none ∧
    ((inState .paused .replay none []).setFrame 9 (bound 1 64 false 1 none)).frame 9 = bound 1 64 false 1 none :=
  ⟨fun d h => asked_at (by revert d; decide +kernel), fun d h e g => asked_at (by revert d e; decide +kernel),
    by decide +kernel⟩

/-- RESUME of a replay stream at the fill of a sealed frame, under both policies, in a page within a ONCE segment and in the
last page of a LOOP. -/
theorem witness_PauseHoldsAndResumeGoesOn_leave :
    ∀ policy ∈ [ReleasePolicy.keep, .release], ∀ d ∈ [(⟨0, 3, .once, false, 0⟩ : Descriptor), ⟨0, 2, .loop, false, 0⟩],
      let s := (inState .paused .replay none []).setFrame 9 (bound 1 64 true 1 none)
      let s := s.setEngine 0 { s.engine 0 with releasePolicy := some policy, slotA := some d }
      (asked s (.resume 0) 0x25).AtEngine 0 (.resume 0) (message 0x25) [] ∧ (s.engine 0).state = .paused ∧
        (s.engine 0).port = some 0 ∧ (s.engine 0).direction = some .replay ∧
        (s.engine 0).currentPage = some ⟨1, 9⟩ ∧ (s.frame 9).fill ≤ (s.engine 0).position.offset ∧
        (s.frame 9).isSealed = true ∧ (s.engine 0).pagesToGo = none ∧ (s.engine 0).releasePolicy = some policy ∧
        (s.engine 0).activeDescriptor = some d ∧
        (d.mode = .loop ∨ (1 : VPage).val + 1 ≠ d.first.val + d.count) :=
  fun p h d k => ⟨asked_at (by revert p d; decide +kernel), by revert p d; decide +kernel⟩

/-- RESUME of a replay stream that was paused without a current page, whose next page is in its cache, with data and
without, sealed or not, or is not in it. -/
theorem witness_PauseHoldsAndResumeGoesOn_lookup :
    ∀ entry ∈ [none, some (⟨0, 9, .readOnly, 0⟩ : CacheEntry)], ∀ fill ∈ [0, 2], ∀ isSealed ∈ [true, false],
      let s := facing .paused entry fill isSealed
      (asked s (.resume 0) 0x25).AtEngine 0 (.resume 0) (message 0x25) [] ∧ (s.engine 0).state = .paused ∧
        (s.engine 0).port = some 0 ∧ (s.engine 0).direction = some .replay ∧ (s.engine 0).currentPage = none ∧
        (s.engine 0).position = ⟨0, 0⟩ ∧ cacheLookup (s.engine 0).cache 0 = entry ∧ (s.frame 9).fill = fill ∧
        (s.frame 9).isSealed = isSealed :=
  fun b k f m c n => ⟨asked_at (by revert b f c; decide +kernel), by revert b f c; decide +kernel⟩

/-- The states of the clauses, with and without words. -/
theorem witness_StopAndAbortOfACaptureStream :
    (∀ state ∈ [StreamState.ready, .running, .paused, .waitFault], ∀ fifo ∈ [[], [(7 : Word)]],
      (asked (inState state .capture none fifo) (.stop 0) 0x26).AtEngine 0 (.stop 0) (message 0x26) [] ∧
      (asked (inState state .capture none fifo) (.abort 0) 0x27).AtEngine 0 (.abort 0) (message 0x27) []) ∧
    (asked (inState .stopping .capture (some .aborted) []) (.abort 0) 0x27).AtEngine 0 (.abort 0) (message 0x27) [] ∧
    (asked (inState .stopping .capture (some .stopped) []) (.abort 0) 0x27).AtEngine 0 (.abort 0) (message 0x27) [] ∧
    (∀ reason ∈ [FaultReason.absent, .poolEmpty],
      let s := faulted 0 .capture 511 reason live
      (asked s (.stop 0) 0x26).AtEngine 0 (.stop 0) (message 0x26) [] ∧
      (asked s (.abort 0) 0x27).AtEngine 0 (.abort 0) (message 0x27) [] ∧ (s.engine 0).direction = some .capture ∧
        (s.engine 0).port = some 0 ∧ (s.engine 0).state = .waitFault ∧
        (s.engine 0).faultRecord = some ⟨511, reason⟩) ∧
    let s := inState .running .capture none []
    let b := s.setArbiter { s.arbiter with inFlight := some ⟨0, 9, 64, 64, true, []⟩ }
    (s.engine 0).direction = some .capture ∧ (s.engine 0).port = some 0 ∧ s.burstInFlight (requesterOf 0) = false ∧
      b.burstInFlight (requesterOf 0) = true ∧ (asked b (.abort 0) 0x27).engineFree 0 = true :=
  ⟨fun d h f g => ⟨asked_at (by revert d f; decide +kernel), asked_at (by revert d f; decide +kernel)⟩,
    asked_at (by decide +kernel), asked_at (by decide +kernel),
    fun r h => ⟨asked_at (by revert r; decide +kernel), asked_at (by revert r; decide +kernel), by revert r; decide +kernel⟩,
    by decide +kernel⟩

/-- Each state of the clauses, each reason to stop, with and without a burst in flight. -/
theorem witness_StopAndAbortOfAReplayStream :
    (∀ state ∈ [StreamState.ready, .running, .paused, .waitData, .waitFault],
      (asked (inState state .replay none []) (.stop 0) 0x26).AtEngine 0 (.stop 0) (message 0x26) [] ∧
      (asked (inState state .replay none []) (.abort 0) 0x27).AtEngine 0 (.abort 0) (message 0x27) [] ∧
      (inState state .replay none []).burstInFlight (requesterOf 0) = false) ∧
    (∀ ending ∈ [EndReason.aborted, .stopped, .completed, .starved],
      (asked (inState .stopping .replay (some ending) [7]) (.abort 0) 0x27).AtEngine 0 (.abort 0) (message 0x27) []) ∧
    let s := inState .running .replay none [7]
    let b := s.setArbiter { s.arbiter with inFlight := some ⟨0, 9, 64, 64, false, []⟩ }
    (s.engine 0).direction = some .replay ∧ (s.engine 0).port = some 0 ∧ s.burstInFlight (requesterOf 0) = false ∧
      b.burstInFlight (requesterOf 0) = true ∧ (asked b (.abort 0) 0x27).engineFree 0 = true :=
  ⟨fun d h => ⟨asked_at (by revert d; decide +kernel), asked_at (by revert d; decide +kernel), by revert d; decide +kernel⟩,
    fun d h => asked_at (by revert d; decide +kernel), by decide +kernel⟩

/-- The stream of the trigger example; a ONCE segment; a stream without a direction. -/
theorem witness_TriggerMarksThePositionOrChangesNothing :
    (asked ring (.trigger 5) 0x28).AtEngine 5 (.trigger 5) (message 0x28) [] ∧
    ((ring.engine 5).direction = some .capture ∧ (ring.engine 5).state = .running ∧ (ring.engine 5).endReason = none ∧
      (ring.engine 5).triggerRecord = none ∧ (ring.engine 5).port = some 2 ∧
      (ring.engine 5).activeDescriptor = some ⟨20, 4, .loop, false, 2⟩ ∧ ring.engineFree 5 = true ∧
      (ring.port 2).edgePending = true) ∧
    (asked draining (.trigger 3) 0x28).AtEngine 3 (.trigger 3) (message 0x28) [] ∧
    (draining.engine 3).activeDescriptor = some ⟨0, 8, .once, false, 0⟩ ∧
    (asked live (.trigger 7) 0x28).AtEngine 7 (.trigger 7) (message 0x28) [] ∧ (live.engine 7).direction = none ∧
    let edge := draining.setPort 1 { draining.port 1 with edgePending := true }
    edge.engineFree 3 = true ∧ (edge.engine 3).port = some 1 ∧ (edge.port 1).edgePending = true :=
  ⟨asked_at (by decide +kernel), by decide +kernel, asked_at (by decide +kernel), by decide +kernel,
    asked_at (by decide +kernel), by decide +kernel⟩

/-- An absent page; the offset at the fill; the offset one word below it. -/
theorem witness_ReadDataTakesASnapshot :
    (∀ v o n, (claimed tap (.readData 0 v o n) 0x30).AtMapUnit (.readData 0 v o n) (message 0x30) []) ∧
    tap.entry 0 511 = none ∧ tap.entry 0 5 = some ⟨100, .readWrite⟩ ∧ (tap.frame 100).fill ≤ 2048 ∧
      2046 < (tap.frame 100).fill :=
  ⟨fun _ _ _ => claimed_at rfl rfl, by decide +kernel⟩

/-- Absent; READ_ONLY; sealed; written; a gap; past the end of the page; and the two ends of what is written. -/
theorem witness_WriteDataChecksAndHolds :
    (∀ (s : State) i v o bytes, s.heldInReset = none → s.mapUnit.initInProgress = false →
      (claimed s (.writeData i v o bytes) 0x31).AtMapUnit (.writeData i v o bytes) (message 0x31) []) ∧
    tap.entry 0 511 = none ∧ (tap.setEntry 0 0 (some ⟨7, .readOnly⟩)).entry 0 0 = some ⟨7, .readOnly⟩ ∧
    tap.entry 0 4 = some ⟨99, .readWrite⟩ ∧ (tap.frame 99).isSealed = true ∧
    tap.entry 0 5 = some ⟨100, .readWrite⟩ ∧ (tap.frame 100).isSealed = false ∧ (tap.frame 100).writer ≠ none ∧
    open300.entry 3 2 = some ⟨300, .readWrite⟩ ∧ (open300.frame 300).writer = none ∧ (open300.frame 300).fill < 2 ∧
    let full := open300.setFrame 300 (bound 1 4094 false 8 none)
    (full.frame 300).writer = none ∧ 4094 ≤ (full.frame 300).fill ∧ 4094 + [(0 : Byte), 0].length ≤ 4096 ∧
      4096 < 4094 + [(0 : Byte), 0, 0, 0].length :=
  ⟨fun _ _ _ _ _ h k => claimed_at h k, by decide +kernel⟩

/-- A read at its first and its last burst, and a write at its first and its last. -/
def hostBurst (isWrite : Bool) (moved : Nat) : State :=
  let s := (given full (.readData 2 5 0 128) 0x30).setStage (.readData 2 5 0 128) .transferring
  { s with
    command := { s.command with transfer := some ⟨77, 0, 128, moved, 6, isWrite, List.replicate 128 0xAA⟩ }
    arbiter := { s.arbiter with inFlight := some ⟨8, 77, moved, 64, isWrite, List.replicate 64 0xAA⟩ } }

theorem witness_HostBurstMovesItsBytes :
    ∀ isWrite ∈ [true, false], ∀ moved ∈ [0, 64], let s := hostBurst isWrite moved
      s.heldInReset = none ∧ s.arbiter.inFlight = some ⟨8, 77, moved, 64, isWrite, List.replicate 64 0xAA⟩ ∧
        s.command.transfer = some ⟨77, 0, 128, moved, 6, isWrite, List.replicate 128 0xAA⟩ ∧
        (moved = 0 → moved + 64 < 128) ∧ (moved = 64 → 128 ≤ moved + 64) ∧ s.command.queue = [message 0x30] ∧
        s.command.current = some ⟨.readData 2 5 0 128, .transferring⟩ := by decide +kernel

/-- A completion claim of a write of frame 300, which has a refcount, with claims set aside. Stream 3 names the frame at
page 2, and so does stream 5. -/
def completing (refcount : Nat) (deferred : List DeferredClaim) : State :=
  let e := { running .capture 0 .host ⟨2, 2, .once, false, 0⟩ ⟨2, 300⟩ 0 with currentPage := none }
  let s := (open300.setEngine 3 e).setEntry 5 2 (some ⟨300, .readWrite⟩)
  let s := (s.setFrame 300 { bound refcount 0 false 8 none with hostHold := true }).setDeferred deferred
  let s := (claimed (s.setFreeQueue [4095]) (.writeData 3 2 0 [1, 2]) 0x31).setStage (.writeData 3 2 0 [1, 2]) .completing
  { s with command := { s.command with transfer := some ⟨300, 0, 2, 2, 8, true, [1, 2]⟩ } }

/-- Nothing set aside; one write claim, as in the example of 08; one release claim; two write claims. -/
theorem witness_WriteCompletionClearsTheHold :
    ∀ x ∈ [(1, []), (1, [⟨3, PageClaim.write 2⟩]), (1, [⟨3, .release 2⟩]), (2, [⟨3, .write 2⟩, ⟨5, .write 2⟩])],
      let s := completing x.1 x.2
      s.command.current = some ⟨.writeData 3 2 0 [1, 2], .completing⟩ ∧ s.command.queue = [message 0x31] ∧
        s.command.transfer = some ⟨300, 0, 2, 2, 8, true, [1, 2]⟩ ∧ s.heldInReset = none ∧
        s.mapUnit.initInProgress = false ∧ s.mapUnit.claims.head? = some .host ∧ s.mapUnit.deferred = x.2 ∧
        s.entry 3 2 = some ⟨300, .readWrite⟩ ∧ s.entry 5 2 = some ⟨300, .readWrite⟩ ∧
        0 < max (s.frame 300).fill (0 + 2) ∧ (s.frame 300).refcount = x.1 ∧ (s.engine 3).state = .running ∧
        s.mapUnit.waiters = [] ∧ (s.engine 3).activeDescriptor = some ⟨2, 2, .once, false, 0⟩ ∧
        (2 : VPage).val + 1 ≠ 2 + 2 ∧ (s.engine 3).pagesToGo = none ∧ s.mapUnit.freeQueue = [4095] := by
  decide +kernel

/-- R8, R101: the older write claim detaches onto frame 4095, and the younger then reuses frame 300. -/
theorem test_write_completion_decides_oldest_first :
    let t := after (exec .writeDataCompletion (completing 2 [⟨3, .write 2⟩, ⟨5, .write 2⟩]))
    t.frame 4095 = bound 1 0 false 1 (some 3) ∧ t.frame 300 = bound 1 0 false 9 (some 5) ∧
      t.entry 3 2 = some ⟨4095, .readWrite⟩ ∧ (t.engine 5).currentPage = some ⟨2, 300⟩ ∧
      t.mapUnit.deferred = [] := by decide +kernel

/-- Absent; written by a stream; sealed; unsealed. -/
theorem witness_SealClosesTheFrame :
    (∀ (s : State) i v, s.heldInReset = none → s.mapUnit.initInProgress = false →
      (claimed s (.sealPage i v) 0x32).AtMapUnit (.sealPage i v) (message 0x32) []) ∧
    tap.entry 0 511 = none ∧ tap.entry 0 5 = some ⟨100, .readWrite⟩ ∧ (tap.frame 100).writer ≠ none ∧
    tap.entry 0 4 = some ⟨99, .readWrite⟩ ∧ (tap.frame 99).writer = none ∧ (tap.frame 99).isSealed = true ∧
    open300.entry 3 2 = some ⟨300, .readWrite⟩ ∧ (open300.frame 300).writer = none ∧
      (open300.frame 300).isSealed = false :=
  ⟨fun _ _ _ h k => claimed_at h k, by decide +kernel⟩

/-- An unbound port; 255 words and 256 words in the FIFO. -/
theorem witness_CaptureStrobeTakesTheWord :
    (live.port 3).bound = none ∧ ∀ n ∈ [255, 256],
      let s := draining.setPort 1 (openPort 3 .capture (words n))
      s.heldInReset = none ∧ (s.port 1).bound = some 3 ∧ (s.port 1).gateOpen = true ∧
        (s.port 1).direction = some .capture ∧ (s.port 1).fifo.length = n := by decide +kernel

/-- An unbound port; a word given; the last word in STOPPING; an empty FIFO in RUNNING; pins that are outputs. -/
theorem witness_ReplayStrobeGivesTheWord :
    (live.port 3).bound = none ∧
    (∀ fifo ∈ [[], [(7 : Word)]], ∀ state ∈ [StreamState.running, .stopping],
      let s := inState state .replay (some .completed) fifo
      s.heldInReset = none ∧ (s.port 0).bound = some 0 ∧ (s.engine 0).port = some 0 ∧ (s.port 0).gateOpen = true ∧
        (s.port 0).direction = some .replay ∧ (s.port 0).fifo = fifo ∧ (s.engine 0).state = state ∧
        (s.engine 0).endReason = some .completed) ∧
    (openPort 0 .replay []).bound.isSome = true ∧ (openPort 0 .replay []).direction = some .replay := by decide +kernel

/-- Capture with 31 and 32 words, in a drain with one and with none, below 4096 and at it; replay with 224 and 225 words,
one word below the fill of its look, at it, and without a look; a stream with a request, with a burst and with no page. -/
theorem witness_BurstRequestsNameTheFrameLookedUp :
    (∀ state ∈ [StreamState.running, .paused, .stopping], ∀ n ∈ [0, 1, 31, 32],
      ∀ direction ∈ [Direction.capture, .replay], ∀ offset ∈ [64, 4096],
      let s := inState state direction (some .stopped) (words n)
      let s := s.setEngine 0 { s.engine 0 with position := ⟨1, offset⟩ }
      s.heldInReset = none ∧ (s.engine 0).restart = .none ∧ s.arbiter.requests[requesterOf 0] = none ∧
        s.burstInFlight (requesterOf 0) = false ∧ (s.engine 0).port = some 0 ∧
        (s.engine 0).currentPage = some ⟨1, 9⟩ ∧ (s.engine 0).direction = some direction ∧
        cacheLookup (s.engine 0).cache 1 = some ⟨1, 9, .readWrite, 0⟩ ∧ (s.engine 0).position.offset = offset ∧
        (s.port 0).fifo.length = n) ∧
    (∀ n ∈ [224, 225], ∀ look ∈ [none, some 64, some 66],
      let s := inState .running .replay none (words n)
      let s := s.setEngine 0 { s.engine 0 with lookFill := look }
      (s.engine 0).lookFill = look ∧ (s.engine 0).position.offset = 64 ∧ (s.port 0).fifo.length = n) ∧
    (let s := inState .running .capture none (words 32)
     (s.request 0 ⟨9, 64, 64, true⟩).arbiter.requests[requesterOf 0] ≠ none ∧
       (s.setArbiter { s.arbiter with inFlight := some ⟨0, 9, 64, 64, true, List.replicate 64 7⟩
         }).burstInFlight (requesterOf 0) = true ∧
       ((s.setEngine 0 { s.engine 0 with currentPage := none }).engine 0).currentPage = none) := by
  decide +kernel

/-- A burst in flight; requests of a capture stream, of a replay stream, of a host write, and of a host read whose
generation stands or has changed. -/
theorem witness_ArbiterGrantsInTurn :
    ring.arbiter.inFlight ≠ none ∧ (∀ r : Requester, live.arbiter.requests[r] = none) ∧
    (let s := draining.request 3 ⟨40, 4000, 64, true⟩
     s.heldInReset = none ∧ s.arbiter.inFlight = none ∧ (3 : Requester) = requesterOf 3 ∧ (s.engine 3).port = some 1 ∧
      s.arbiter.requests.toList = [none, none, none, some ⟨40, 4000, 64, true⟩, none, none, none, none, none]) ∧
    (let s := (inState .running .replay none []).request 0 ⟨9, 64, 2, false⟩
     s.arbiter.inFlight = none ∧ s.arbiter.requests[(0 : Requester)] = some ⟨9, 64, 2, false⟩) :=
  by decide +kernel

/-- The host access port asks for a burst; the frame has the generation given, the snapshot has 6. -/
def hostAsking (isWrite : Bool) (generation : BitVec 16) : State :=
  let s := given (full.setFrame 77 (bound 1 4096 true generation none)) (.readData 2 5 0 128) 0x30
  ({ s with command := { s.command with transfer := some ⟨77, 0, 128, 64, 6, isWrite, []⟩ } } : State).request 8
    ⟨77, 64, 64, isWrite⟩

theorem witness_ArbiterGrantsInTurn_host :
    ∀ isWrite ∈ [true, false], ∀ g ∈ [6, 7], let s := hostAsking isWrite (BitVec.ofNat 16 g)
      s.arbiter.inFlight = none ∧
        s.arbiter.requests.toList = [none, none, none, none, none, none, none, none, some ⟨77, 64, 64, isWrite⟩] ∧
        s.command.transfer = some ⟨77, 0, 128, 64, 6, isWrite, []⟩ ∧ (s.frame 77).generation = BitVec.ofNat 16 g ∧
        s.command.queue = [message 0x30] := by decide +kernel

/-- A capture burst in flight that ends below 4096 and at 4096; with a report waiting; in a drain and in an ABORT. -/
def capturing (state : StreamState) (ending : Option EndReason) (offset : Nat) (fifo : List Word) : State :=
  let s := inState state .capture ending fifo
  let s := s.setEngine 0 { s.engine 0 with position := ⟨1, offset⟩ }
  s.setArbiter { s.arbiter with inFlight := some ⟨0, 9, offset, 64, true, List.replicate 64 7⟩ }

theorem witness_CaptureBurstAdvancesTheStream :
    (∀ state ∈ [StreamState.running, .paused, .stopping], ∀ ending ∈ [none, some EndReason.aborted],
      ∀ offset ∈ [3968, 4032], ∀ fifo ∈ [[], [(7 : Word)]],
      let s := capturing state ending offset fifo
      s.heldInReset = none ∧ s.arbiter.inFlight = some ⟨0, 9, offset, 64, true, List.replicate 64 7⟩ ∧
        (0 : Requester) = requesterOf 0 ∧ (s.engine 0).restart = .none ∧ (s.engine 0).port = some 0 ∧
        (s.engine 0).currentPage = some ⟨1, 9⟩ ∧ (s.engine 0).position.offset = offset ∧ s.waitingReport 0 = none ∧
        (s.port 0).fifo = fifo ∧ (s.engine 0).endReason = ending) ∧
    ∀ state ∈ [StreamState.running, .paused, .stopping], ∀ ending ∈ [none, some EndReason.stopped, some .aborted],
      ∀ offset ∈ [3968, 4032], ∀ fifo ∈ [[], [(7 : Word)]],
      let s := (capturing state ending offset fifo).setClaims
        [.engine 1 (.write 0), .engine 0 (.fillReport 9 offset), .host]
      s.mapUnit.claims = [.engine 1 (.write 0)] ++ .engine 0 (.fillReport 9 offset) :: [.host] ∧
        (∀ x ∈ [Claim.engine 1 (.write 0)] ++ [.host], x.reportOf 0 = none) ∧ (s.engine 0).state = state ∧
        (s.engine 0).endReason = ending ∧ (s.engine 0).position.offset = offset ∧ (s.port 0).fifo = fifo ∧
        s.heldInReset = none ∧ s.arbiter.inFlight = some ⟨0, 9, offset, 64, true, List.replicate 64 7⟩ ∧
        (s.engine 0).restart = .none ∧ (s.engine 0).port = some 0 ∧ (s.engine 0).currentPage = some ⟨1, 9⟩ := by
  decide +kernel

/-- A replay burst of a stream in each of the three states, with the fill above and at the offset it reaches, in a page
within a ONCE segment and in the last page of a LOOP. -/
theorem witness_ReplayBurstAdvancesTheStream :
    ∀ state ∈ [StreamState.running, .paused, .stopping], ∀ fill ∈ [128, 130], ∀ isSealed ∈ [true, false],
      ∀ policy ∈ [ReleasePolicy.keep, .release],
      ∀ d ∈ [(⟨0, 3, .once, false, 0⟩ : Descriptor), ⟨0, 2, .loop, false, 0⟩],
      let s := (inState state .replay (some .stopped) []).setFrame 9 (bound 1 fill isSealed 1 none)
      let s := s.setArbiter { s.arbiter with inFlight := some ⟨0, 9, 64, 64, false, []⟩ }
      let s := s.setEngine 0
        { s.engine 0 with releasePolicy := some policy, slotA := some d }
      s.heldInReset = none ∧ s.arbiter.inFlight = some ⟨0, 9, 64, 64, false, []⟩ ∧ (0 : Requester) = requesterOf 0 ∧
        (s.engine 0).restart = .none ∧ (s.engine 0).port = some 0 ∧ (s.engine 0).currentPage = some ⟨1, 9⟩ ∧
        (s.engine 0).position.offset + 64 = 128 ∧ (s.frame 9).fill = fill ∧ (s.frame 9).isSealed = isSealed ∧
        (s.engine 0).pagesToGo = none ∧ (s.engine 0).releasePolicy = some policy ∧
        (s.engine 0).activeDescriptor = some d ∧ (d.mode = .loop ∨ (1 : VPage).val + 1 ≠ d.first.val + d.count) ∧
        (s.engine 0).endReason = some .stopped := by decide +kernel

/-- A report that raises the fill and one that does not. -/
theorem witness_FillReportSignalsTheReaders :
    (claiming tap 0 (.fillReport 100 2050)).ClaimNext 0 (.fillReport 100 2050) [] ∧ (tap.frame 100).fill < 2050 ∧
    (claiming tap 0 (.fillReport 100 2048)).ClaimNext 0 (.fillReport 100 2048) [] ∧ 2048 ≤ (tap.frame 100).fill :=
  ⟨claiming_next rfl rfl, by decide +kernel, claiming_next rfl rfl, by decide +kernel⟩

/-- A capture stream at 4096 of page `v` of two, triggered or not. -/
def leaving (state : StreamState) (v : VPage) (d : Descriptor) (toGo : Option Nat) (other : Option Descriptor)
    (fifo : List Word) : State :=
  let e := { running .capture 0 .host d ⟨v, 9⟩ 4096 with
    state := state, endReason := if state = .stopping then some .stopped else none
    pagesToGo := toGo, triggerRecord := toGo.map fun _ => ⟨0, 4094⟩, slotB := other }
  claiming (((live.setEngine 0 e).setPort 0 (openPort 0 .capture fifo)).setFrame 9 (bound 1 4032 false 1 (some 0))) 0
    (.leaveSeal 9 (some 4096))

/-- The last page or not; ONCE, or LOOP before its trigger, before the last page to go and at it; linked to an armed slot,
to an empty one or to none; with and without words left. -/
theorem witness_LeaveSealEndsThePage :
    ∀ state ∈ [StreamState.running, .paused, .stopping], ∀ v ∈ [(0 : VPage), 1], ∀ link ∈ [true, false],
      ∀ x ∈ [(SegmentMode.once, 0, none), (.loop, 0, none), (.loop, 1, some 2), (.loop, 1, some 1)],
      ∀ other ∈ [none, some (⟨511, 1, .once, false, 0⟩ : Descriptor)], ∀ fifo ∈ [[], [(7 : Word)]],
      let d : Descriptor := ⟨0, 2, x.1, link, x.2.1⟩
      let s := leaving state v d x.2.2 other fifo
      s.ClaimNext 0 (.leaveSeal 9 (some 4096)) [] ∧ (s.frame 9).isSealed = false ∧
        (s.engine 0).direction = some .capture ∧ (s.engine 0).port = some 0 ∧ (s.engine 0).activeSlot = some .a ∧
        (s.engine 0).slot .a = some d ∧ (s.engine 0).pagesToGo = x.2.2 ∧ (s.engine 0).position.vpage = v ∧
        (s.port 0).fifo = fifo ∧ (s.engine 0).slot (otherSlot .a) = other ∧ (s.engine 0).state = state ∧
        (state = .stopping → (s.engine 0).endReason = some .stopped) :=
  fun st h v g l j x k o n f m => ⟨claiming_next rfl rfl, by revert st v l x o f; decide +kernel⟩

/-- A drain that is over; a STOP or ABORT that waits in WAIT_FAULT for its ending seal claim, and one whose stream a
hand-off has left FAILED. -/
theorem witness_EndingSealTakesTheStreamToDone :
    (let s := claiming (inState .stopping .capture (some .stopped) []) 0 (.endingSeal (some 64))
     s.ClaimNext 0 (.endingSeal (some 64)) [] ∧ (s.engine 0).port = some 0 ∧
      (s.engine 0).endReason = some .stopped ∧ (s.engine 0).state ≠ .failed ∧
      (s.engine 0).currentPage = some ⟨1, 9⟩ ∧ (s.frame 9).isSealed = false ∧ s.command.current = none) ∧
    ∀ x ∈ [(StreamState.waitFault, EndReason.stopped, HostCommand.stop 0, (0x26 : Byte)),
        (.waitFault, .aborted, .abort 0, 0x27), (.failed, .failed, .stop 0, 0x26), (.failed, .failed, .abort 0, 0x27)],
      let e := inState x.1 .capture (some x.2.1) []
      let s := e.setEngine 0 { e.engine 0 with currentPage := none }
      let s := claiming ((given s x.2.2.1 x.2.2.2).setStage x.2.2.1 .awaitingEndingSeal) 0 (.endingSeal none)
      s.ClaimNext 0 (.endingSeal none) [] ∧ (s.engine 0).port = some 0 ∧ (s.engine 0).endReason = some x.2.1 ∧
        (s.engine 0).state = x.1 ∧ (s.engine 0).currentPage = none ∧ x.2.2.1 ∈ [HostCommand.stop 0, .abort 0] ∧
        s.command.current = some ⟨x.2.2.1, .awaitingEndingSeal⟩ ∧ s.command.queue = [message x.2.2.2] :=
  ⟨⟨claiming_next rfl rfl, by decide +kernel⟩, fun x h => ⟨claiming_next rfl rfl, by revert x; decide +kernel⟩⟩

/-- A write claim of stream 0 for page 511, with an entry, a frame record, a fault policy and a free-frame queue: of a
STOP drain, or of a stream in RUNNING. -/
def entering (drain : Bool) (fault : FaultPolicy) (queue : List FrameId) (entry : Option MapEntry) (r : FrameRecord) :
    State :=
  let s := if drain then inState .stopping .capture (some .stopped) (words 3) else inState .running .capture none []
  let s := s.setEngine 0
    { s.engine 0 with faultPolicy := some fault, currentPage := none, position := ⟨511, 0⟩, cache := emptyCache }
  claiming (((s.setFreeQueue queue).setEntry 0 511 entry).setFrame 9 r) 0 (.write 511)

/-- Each line of the table of R101, in RUNNING and in a STOP drain. -/
theorem witness_WriteClaimFollowsItsTable :
    ∀ drain ∈ [true, false], ∀ fault ∈ [FaultPolicy.allocate, .host], ∀ queue ∈ [[], [(4095 : FrameId)]],
      ∀ access ∈ [Access.readWrite, .readOnly],
      ∀ r ∈ [bound 1 0 false 1 none, bound 1 2 false 1 none, bound 2 4096 true 1 none,
        { bound 1 0 false 1 none with hostHold := true }],
      ∀ entry ∈ [none, some ⟨9, access⟩], let s := entering drain fault queue entry r
      s.ClaimNext 0 (.write 511) [] ∧ (s.engine 0).port = some 0 ∧
        (s.engine 0).state = (if drain then .stopping else .running) ∧
        (s.engine 0).endReason = (if drain then some .stopped else none) ∧
        s.entry 0 511 = entry ∧ (s.engine 0).faultPolicy = some fault ∧ s.mapUnit.freeQueue = queue ∧ s.frame 9 = r ∧ (4095 : FrameId) ≠ 9 :=
  fun d l f h q g a k r j e i => ⟨claiming_next (by cases d <;> rfl) (by cases d <;> rfl), by
    revert d f q a r e; decide +kernel⟩

/-- A replay stream whose read claim is for page 0 (present) or 511 (absent). -/
def reading (fault : FaultPolicy) (fill : Nat) (isSealed : Bool) (v : VPage) : State :=
  let s := (inState .running .replay none []).setFrame 9 (bound 1 fill isSealed 1 none)
  let s := s.setEngine 0 { s.engine 0 with faultPolicy := some fault, currentPage := none, cache := emptyCache }
  claiming (s.setEntry 0 0 (some ⟨9, .readOnly⟩)) 0 (.read v)

/-- A replay stream without a current page that is about to look page 1 up, with the cache given. -/
def lookingUp (due : PageChangeDue) (cache : Cache) (fill : Nat) (isSealed : Bool) : State :=
  let s := (inState .running .replay none []).setFrame 9 (bound 1 fill isSealed 1 none)
  s.setEngine 0 { s.engine 0 with due := due, currentPage := none, position := ⟨1, 0⟩, cache := cache }

/-- A read claim of a present page with data, and without, sealed or not; of an absent page under HOST and under SKIP; a
lookup due, which hits and which misses. -/
theorem witness_ReadClaimEntersThePage :
    (∀ fault ∈ [FaultPolicy.host, .skip], ∀ fill ∈ [0, 2], ∀ isSealed ∈ [true, false], ∀ v ∈ [(0 : VPage), 511],
      let s := reading fault fill isSealed v
      s.ClaimNext 0 (.read v) [] ∧ (s.engine 0).port = some 0 ∧ s.entry 0 0 = some ⟨9, .readOnly⟩ ∧
        (s.frame 9).fill = fill ∧ (s.frame 9).isSealed = isSealed ∧ s.entry 0 511 = none ∧
        (s.engine 0).faultPolicy = some fault ∧ (s.engine 0).endReason = none ∧ (s.engine 0).state ≠ .stopping ∧
        (s.engine 0).activeDescriptor = some ⟨0, 2, .once, false, 0⟩ ∧ (511 : VPage).val + 1 ≠ 0 + 2 ∧
        (s.engine 0).pagesToGo = none) ∧
    ∀ due ∈ [PageChangeDue.enter, .entering], ∀ entry ∈ [none, some (⟨1, 9, .readWrite, 0⟩ : CacheEntry)],
      ∀ fill ∈ [0, 2], ∀ isSealed ∈ [true, false],
      let s := lookingUp due (emptyCache.set 0 entry) fill isSealed
      s.heldInReset = none ∧ s.claimOf 0 = none ∧ (s.engine 0).restart = .none ∧ (s.engine 0).due = due ∧
        (s.engine 0).port = some 0 ∧ (s.engine 0).position = ⟨1, 0⟩ ∧ cacheLookup (s.engine 0).cache 1 = entry ∧
        (s.frame 9).fill = fill ∧ (s.frame 9).isSealed = isSealed :=
  ⟨fun f h n g b l v k => ⟨claiming_next rfl rfl, by revert f n b v; decide +kernel⟩, by decide +kernel⟩

/-- A replay stream that releases page 1, whose frame has the record given. -/
def releasing (r : FrameRecord) : State :=
  let s := (inState .running .replay none []).setFrame 9 r
  let s := s.setEngine 0 { s.engine 0 with slotA := some ⟨0, 3, .once, false, 0⟩ }
  claiming (s.setEntry 0 1 (some ⟨9, .readOnly⟩)) 0 (.release 1)

/-- A held frame of refcount 1; a frame of refcount 2; a frame of refcount 1 without a hold. -/
theorem witness_ReleaseClaimGivesThePageUp :
    ∀ r ∈ [{ bound 1 2 true 1 none with hostHold := true }, bound 2 2 true 1 none, bound 1 2 true 1 none],
      let s := releasing r
      s.ClaimNext 0 (.release 1) [] ∧ s.entry 0 1 = some ⟨9, .readOnly⟩ ∧
        (s.engine 0).activeDescriptor = some ⟨0, 3, .once, false, 0⟩ ∧ s.frame 9 = r ∧
        (1 : VPage).val + 1 ≠ 0 + 3 ∧ (s.engine 0).pagesToGo = none ∧ s.mapUnit.waiters = [] :=
  fun r h => ⟨claiming_next rfl rfl, by revert r; decide +kernel⟩

/-- A frame of refcount 1 that is released while stream 1 waits for a frame at page 511. -/
def releasingToWaiter : State :=
  let s := faulted 1 .capture 511 .poolEmpty (releasing (bound 1 2 true 1 none))
  let s := (s.setPort 0 (openPort 0 .replay [])).setPort 1 (openPort 1 .capture [])
  (s.setEngine 1 { s.engine 1 with faultPolicy := some .allocate, port := some 1 }).setWaiters [1]

theorem witness_ReleaseClaimGivesThePageUp_handOff :
    let s := releasingToWaiter
    s.ClaimNext 0 (.release 1) [] ∧ s.entry 0 1 = some ⟨9, .readOnly⟩ ∧
      (s.engine 0).activeDescriptor = some ⟨0, 3, .once, false, 0⟩ ∧ (1 : VPage).val + 1 ≠ 0 + 3 ∧
      (s.engine 0).pagesToGo = none ∧ (s.frame 9).hostHold = false ∧ (s.frame 9).refcount = 1 ∧
      s.mapUnit.waiters = [1] ∧ (s.engine 1).restart = .none ∧ (s.engine 1).state = .waitFault ∧
      (s.engine 1).endReason = none ∧ (s.engine 1).faultRecord = some ⟨511, .poolEmpty⟩ ∧
      (s.engine 1).faultPolicy = some .allocate ∧ s.entry 1 511 = none :=
  ⟨⟨rfl, rfl, rfl⟩, by decide +kernel⟩

/-- The page for which stream 1 waits names a frame under host hold. -/
theorem witness_ReleaseClaimGivesThePageUp_heldWaiter :
    let s := (releasingToWaiter.setEntry 1 511 (some ⟨60, .readWrite⟩)).setFrame 60
      { bound 2 4096 true 1 none with hostHold := true }
    s.ClaimNext 0 (.release 1) [] ∧ s.entry 0 1 = some ⟨9, .readOnly⟩ ∧ (s.frame 9).hostHold = false ∧
      (s.frame 9).refcount = 1 ∧ s.mapUnit.waiters = [1] ∧ (s.engine 1).restart = .none ∧
      (s.engine 1).state = .waitFault ∧ (s.engine 1).faultRecord = some ⟨511, .poolEmpty⟩ ∧
      s.entry 1 511 = some ⟨60, .readWrite⟩ ∧ (s.frame 60).hostHold = true :=
  ⟨⟨rfl, rfl, rfl⟩, by decide +kernel⟩

/-- A signal in WAIT_DATA with the fill raised, with the fill as it was, and sealed, under both policies, inside a segment
and at the last page of a LOOP; a signal in RUNNING. -/
theorem witness_SignalWakesTheReader :
    ∀ state ∈ [StreamState.waitData, .running], ∀ fill ∈ [64, 66], ∀ isSealed ∈ [true, false],
      ∀ policy ∈ [ReleasePolicy.keep, .release],
      ∀ d ∈ [(⟨0, 3, .once, false, 0⟩ : Descriptor), ⟨0, 3, .loop, false, 0⟩, ⟨0, 2, .loop, false, 0⟩],
      let s := (inState state .replay none []).setFrame 9 (bound 1 fill isSealed 1 none)
      let s := s.setEngine 0 { s.engine 0 with signals := [9], releasePolicy := some policy, slotA := some d }
      s.engineFree 0 = true ∧ (s.engine 0).signals = [9] ∧ (s.engine 0).state = state ∧
        (s.engine 0).currentPage = some ⟨1, 9⟩ ∧ (s.engine 0).position.offset = 64 ∧ (s.frame 9).fill = fill ∧
        (s.frame 9).isSealed = isSealed ∧ (s.engine 0).releasePolicy = some policy ∧
        (s.engine 0).activeDescriptor = some d ∧ (d.mode = .loop ∨ (1 : VPage).val + 1 ≠ d.first.val + d.count) ∧
        (s.engine 0).pagesToGo = none := by decide +kernel

/-- A replay stream at page 1, the last of a ONCE segment, with its current frame sealed at the offset. -/
def finishing (link : Bool) (other : Option Descriptor) (fifo : List Word) (refcount : Nat) : State :=
  let s := (inState .running .replay none fifo).setFrame 9 (bound refcount 64 true 1 none)
  s.setEngine 0
    { s.engine 0 with slotA := some ⟨0, 2, .once, link, 0⟩, slotB := other, due := .leave, faultPolicy := some .skip }

/-- The leave under KEEP, the release claim and the pass-over, each linked to an armed slot, to an empty one and to none,
with and without words in the FIFO. -/
theorem witness_ReplaySegmentEndsOrChains :
    ∀ link ∈ [true, false], ∀ other ∈ [none, some (⟨511, 1, .once, false, 0⟩ : Descriptor)],
      ∀ fifo ∈ [[], [(7 : Word)]],
      let s := finishing link other fifo 2
      let released := claiming (s.setEntry 0 1 (some ⟨9, .readOnly⟩)) 0 (.release 1)
      let absent := claiming s 0 (.read 1)
      released.ClaimNext 0 (.release 1) [] ∧ absent.ClaimNext 0 (.read 1) [] ∧
        (∀ t ∈ [s, released, absent], (t.engine 0).direction = some .replay ∧ (t.engine 0).port = some 0 ∧
          (t.engine 0).activeSlot = some .a ∧ (t.engine 0).slot .a = some ⟨0, 2, .once, link, 0⟩ ∧
          (t.engine 0).slot (otherSlot .a) = other ∧ (t.port 0).fifo = fifo) ∧
        (1 : VPage).val + 1 = 0 + 2 ∧
        s.heldInReset = none ∧ s.claimOf 0 = none ∧ (s.engine 0).restart = .none ∧ (s.engine 0).due = .leave ∧
        (s.engine 0).currentPage = some ⟨1, 9⟩ ∧ (s.engine 0).releasePolicy = some .keep ∧
        (s.frame 9).fill ≤ (s.engine 0).position.offset ∧ (s.frame 9).isSealed = true ∧
        released.entry 0 1 = some ⟨9, .readOnly⟩ ∧ (released.frame 9).refcount = 0 + 2 ∧
        absent.entry 0 1 = none ∧ (absent.engine 0).faultPolicy = some .skip :=
  fun l h o g f k => ⟨claiming_next rfl rfl, claiming_next rfl rfl, by revert l o f; decide +kernel⟩

/-- The leave under KEEP is found by a burst completion that reaches the fill, by a signal, and by RESUME. -/
theorem witness_ReplaySegmentEndsOrChains_leaves :
    let s := finishing true none [7] 2
    let reading := (s.setEngine 0 { s.engine 0 with position := ⟨1, 0⟩, due := .none }).setArbiter
      { s.arbiter with inFlight := some ⟨0, 9, 0, 64, false, []⟩ }
    let signalled := s.setEngine 0 { s.engine 0 with state := .waitData, signals := [9, 9], due := .none }
    let paused := s.setEngine 0 { s.engine 0 with state := .paused, due := .none }
    (asked paused (.resume 0) 0x25).AtEngine 0 (.resume 0) (message 0x25) [] ∧
    (∀ t ∈ [reading, signalled, paused], (t.engine 0).direction = some .replay ∧ (t.engine 0).port = some 0 ∧
      (t.engine 0).activeSlot = some .a ∧ (t.engine 0).slot .a = some ⟨0, 2, .once, true, 0⟩ ∧
      (t.engine 0).currentPage = some ⟨1, 9⟩ ∧ (t.engine 0).releasePolicy = some .keep ∧
      (t.frame 9).isSealed = true ∧ (t.frame 9).fill = 64) ∧
    reading.heldInReset = none ∧ reading.arbiter.inFlight = some ⟨requesterOf 0, 9, 0, 64, false, []⟩ ∧
      (reading.engine 0).restart = .none ∧ (reading.engine 0).state = .running ∧
      64 ≤ (reading.engine 0).position.offset + 64 ∧
    signalled.engineFree 0 = true ∧ (signalled.engine 0).signals = [9, 9] ∧ (signalled.engine 0).state = .waitData ∧
      64 ≤ (signalled.engine 0).position.offset ∧
    (paused.engine 0).state = .paused ∧ 64 ≤ (paused.engine 0).position.offset :=
  ⟨asked_at (by decide +kernel), by decide +kernel⟩

/-- The completing release claim of a frame of refcount 1: with no waiter, and with stream 1 waiting. -/
theorem witness_ReplaySegmentEndsOrChains_release :
    ∀ waits ∈ [true, false],
      let s := releasingToWaiter.setWaiters (if waits then [1] else [])
      let s := s.setEngine 0 { s.engine 0 with slotA := some ⟨0, 2, .once, true, 0⟩ }
      s.ClaimNext 0 (.release 1) [] ∧ (s.engine 0).direction = some .replay ∧ (s.engine 0).port = some 0 ∧
        (s.engine 0).activeSlot = some .a ∧ (s.engine 0).slot .a = some ⟨0, 2, .once, true, 0⟩ ∧
        (1 : VPage).val + 1 = 0 + 2 ∧ s.entry 0 1 = some ⟨9, .readOnly⟩ ∧ (s.frame 9).hostHold = false ∧
        (s.frame 9).refcount = 1 ∧ s.mapUnit.waiters = (if waits then [1] else []) ∧
        (s.engine 1).restart = .none ∧ (s.engine 1).state = .waitFault ∧ (s.engine 1).endReason = none ∧
        (s.engine 1).faultRecord = some ⟨511, .poolEmpty⟩ ∧ (s.engine 1).faultPolicy = some .allocate ∧
        s.entry 1 511 = none ∧ (s.engine 1).port = some 1 :=
  fun w h => ⟨⟨rfl, rfl, rfl⟩, by revert w; decide +kernel⟩

end Sys2Proof.Tests
end

namespace Sys2Proof.Proofs

open Sys2Proof.Machine Sys2Proof.Laws

/-! ### What a step on its occasion answers -/

section Occasions

variable {s t : State}

theorem takeStep_next {occasion : Bool} {effect : State → State} (h : takeStep occasion s effect = .next t) :
    t = s ∨ occasion = true ∧ t = effect s := by
  cases occasion with
  | false => exact .inl (Host.Outcome.next.inj h).symm
  | true => exact .inr ⟨rfl, (Host.Outcome.next.inj h).symm⟩

/-- The map unit has taken the claim of the command unit: it is out of reset, and no initialisation is in progress. -/
theorem claimDue_takes {command : HostCommand} {stage : CommandStage} (h : s.claimDue command stage = true) :
    s.mapUnitTakes = true := by
  by_contra off
  simp [State.claimDue, State.oldestClaim, off] at h

theorem takeHostClaim_next {command : HostCommand} {effect : State → State}
    (h : takeHostClaim command s effect = .next t) :
    t = s ∨ s.mapUnitTakes = true ∧ t = effect s.dropOldestClaim :=
  (takeStep_next h).imp_right fun ⟨due, ht⟩ => ⟨claimDue_takes due, ht⟩

theorem claimOf_takes {i : StreamId} {c : EngineClaim} (h : s.claimOf i = some c) : s.mapUnitTakes = true := by
  by_contra off
  simp [State.claimOf, State.oldestClaim, off] at h

theorem takeEngineClaim_next_cases {i : StreamId} {effect : EngineClaim → State → Option State}
    (h : takeEngineClaim i s effect = .next t) :
    t = s ∨ ∃ c, s.mapUnitTakes = true ∧ effect c s.dropOldestClaim = some t := by
  have ht := Host.Outcome.next.inj h
  split at ht
  · exact .inl ht.symm
  · rename_i c claim
    cases answer : effect c s.dropOldestClaim with
    | none => exact .inl (by rw [← ht, answer]; rfl)
    | some u => exact .inr ⟨c, claimOf_takes claim, by rw [← ht, answer]; rfl⟩

end Occasions

/-! ### What the law of the pool reads -/

/-- The part of the state that the law of the pool reads, with the access of an entry left out. -/
@[ext] structure PoolView where
  held : Bool
  initialising : Bool
  next : Nat
  queue : List FrameId
  waiters : List StreamId
  names : StreamId × VPage → Option FrameId
  state : FrameId → FrameState
  refcount : FrameId → Nat

def poolView (s : State) : PoolView where
  held := s.heldInReset.isSome
  initialising := s.mapUnit.initInProgress
  next := s.mapUnit.initNext
  queue := s.mapUnit.freeQueue
  waiters := s.mapUnit.waiters
  names := fun p => (s.entry p.1 p.2).map fun e => e.frame
  state := fun f => (s.frame f).state
  refcount := fun f => (s.frame f).refcount

/-- The number of entries that name a frame. -/
def PoolView.count (p : PoolView) (f : FrameId) : Nat := (Finset.univ.filter fun x => p.names x = some f).card

theorem vector_toList_eq_map {α : Type} {n : Nat} (xs : Vector α n) :
    xs.toList = (List.finRange n).map fun k => xs[k] :=
  List.ext_getElem (by simp) (by simp)

theorem countP_finRange {n : Nat} (p : Fin n → Bool) :
    (List.finRange n).countP p = (Finset.univ.filter fun k => p k = true).card := by
  rw [List.countP_eq_length_filter, Fin.univ_def, Finset.card_def]
  simp

theorem entriesNaming_eq_count (s : State) (f : FrameId) : s.entriesNaming f = (poolView s).count f := by
  have one_map : ∀ i : StreamId,
      ((s.mapUnit.maps[i]).toList.countP fun entry => entry.any fun e => e.frame == f) =
        (Finset.univ.filter fun v => (poolView s).names (i, v) = some f).card := by
    intro i
    rw [vector_toList_eq_map, List.countP_map, countP_finRange]
    refine congrArg Finset.card (Finset.filter_congr fun v _ => ?_)
    simp only [Function.comp_apply, poolView, State.entry]
    cases (s.mapUnit.maps[i])[v] <;> simp
  unfold State.entriesNaming PoolView.count
  rw [vector_toList_eq_map, List.map_map, ← Fin.sum_univ_def]
  simp only [Function.comp_def, one_map, Finset.card_filter, ← Finset.univ_product_univ, Finset.sum_product]

/-- One value rewritten: its old image is met once less, its new image once more. -/
theorem card_filter_update {α β : Type} [Fintype α] [DecidableEq α] [DecidableEq β] (g : α → β) (x : α) (y b : β) :
    (Finset.univ.filter fun z => Function.update g x y z = b).card + (if g x = b then 1 else 0) =
      (Finset.univ.filter fun z => g z = b).card + (if y = b then 1 else 0) := by
  have others : ∀ z ∈ Finset.univ.erase x,
      (if Function.update g x y z = b then 1 else 0) = if g z = b then 1 else 0 :=
    fun z hz => by rw [Function.update_of_ne (Finset.ne_of_mem_erase hz)]
  have after := Finset.add_sum_erase Finset.univ (fun z => if Function.update g x y z = b then 1 else 0)
    (Finset.mem_univ x)
  have before := Finset.add_sum_erase Finset.univ (fun z => if g z = b then 1 else 0) (Finset.mem_univ x)
  simp only [Function.update_self, Finset.sum_congr rfl others] at after before
  simp only [Finset.card_filter]
  omega

theorem PoolView.count_update (p : PoolView) (x : StreamId × VPage) (y : Option FrameId) (f : FrameId) :
    ({ p with names := Function.update p.names x y } : PoolView).count f + (if p.names x = some f then 1 else 0) =
      p.count f + (if y = some f then 1 else 0) :=
  card_filter_update ..

/-- The law of the pool, read off its view. -/
structure PoolView.Ok (p : PoolView) : Prop where
  counted : ∀ f, p.refcount f = p.count f
  bound : ∀ f, p.state f = .bound ↔ 1 ≤ p.refcount f
  apart : ∀ i v w f, p.names (i, v) = some f → p.names (i, w) = some f → v = w
  once : p.queue.Nodup
  queued : p.held = false → p.initialising = false → ∀ f, f ∈ p.queue ↔ p.state f = .free
  adding : p.initialising = true → ∀ f, f ∈ p.queue ↔ f.val < p.next
  waiting : p.queue ≠ [] → p.waiters = []
  unused : p.held = true ∨ p.initialising = true → p.waiters = [] ∧ ∀ f, p.refcount f = 0

theorem poolOk_iff (s : State) : s.PoolOk ↔ (poolView s).Ok := by
  constructor
  · intro ok
    refine ⟨fun f => (ok.counted f).trans (entriesNaming_eq_count s f), ok.bound, fun i v w f hv hw => ?_, ok.once,
      fun out => ok.queued (by simpa [poolView] using out), ok.adding, ok.waiting, ok.unused⟩
    obtain ⟨x, hx, rfl⟩ := Option.map_eq_some_iff.mp hv
    obtain ⟨y, hy, same⟩ := Option.map_eq_some_iff.mp hw
    exact ok.apart i v w x y hx hy same.symm
  · intro ok
    refine ⟨fun f => (ok.counted f).trans (entriesNaming_eq_count s f).symm, ok.bound, fun i v w x y hx hy same => ?_,
      ok.once, fun out => ok.queued (by simp [poolView, out]), ok.adding, ok.waiting, ok.unused⟩
    exact ok.apart i v w x.frame (by simp [poolView, hx]) (by simp [poolView, hy, same])

/-- The law while the map unit takes claims. The frame in hand, if there is one, has been taken out of the queue or
brought to refcount 0: no entry names it, it stands in no queue, and its state is not yet written. -/
structure PoolView.Agrees (p : PoolView) (inHand : Option FrameId) : Prop where
  out : p.held = false
  ready : p.initialising = false
  counted : ∀ f, p.refcount f = p.count f
  bound : ∀ f, inHand ≠ some f → (p.state f = .bound ↔ 1 ≤ p.refcount f)
  apart : ∀ i v w f, p.names (i, v) = some f → p.names (i, w) = some f → v = w
  once : p.queue.Nodup
  queued : ∀ f, inHand ≠ some f → (f ∈ p.queue ↔ p.state f = .free)
  waiting : p.queue ≠ [] → p.waiters = []
  unnamed : ∀ f, inHand = some f → p.refcount f = 0 ∧ f ∉ p.queue

namespace PoolView

variable {p : PoolView} {f : FrameId} {x : StreamId × VPage}

theorem Ok.agrees (ok : p.Ok) (out : p.held = false) (ready : p.initialising = false) : p.Agrees none :=
  ⟨out, ready, ok.counted, fun f _ => ok.bound f, ok.apart, ok.once, fun f _ => ok.queued out ready f, ok.waiting,
    nofun⟩

theorem Agrees.ok (h : p.Agrees none) : p.Ok :=
  ⟨h.counted, fun f => h.bound f nofun, h.apart, h.once, fun _ _ f => h.queued f nofun,
    fun adding => by simp [h.ready] at adding, h.waiting,
    fun off => by simp [h.out, h.ready] at off⟩

/-- A frame that an entry names has a reference. -/
theorem count_pos (named : p.names x = some f) : 1 ≤ p.count f :=
  Finset.card_pos.mpr ⟨x, by simp [named]⟩

theorem Agrees.refcount_pos {inHand : Option FrameId} (h : p.Agrees inHand) (named : p.names x = some f) :
    1 ≤ p.refcount f :=
  h.counted f ▸ count_pos named

/-- A frame without a reference is named by no entry. -/
theorem Agrees.not_named {inHand : Option FrameId} (h : p.Agrees inHand) (zero : p.refcount f = 0) :
    p.names x ≠ some f := fun named => by
  have := h.refcount_pos named
  omega

/-- The pages of one map stay apart when an entry takes a frame that no other page of its map names. -/
theorem apart_update {y : Option FrameId} (apart : ∀ i v w f, p.names (i, v) = some f → p.names (i, w) = some f → v = w)
    (fresh : ∀ g, y = some g → ∀ u, p.names (x.1, u) ≠ some g) (i : StreamId) (v w : VPage) (g : FrameId)
    (hv : Function.update p.names x y (i, v) = some g) (hw : Function.update p.names x y (i, w) = some g) : v = w := by
  by_cases v_is : (i, v) = x <;> by_cases w_is : (i, w) = x
  · exact congrArg Prod.snd (v_is.trans w_is.symm)
  · subst v_is
    rw [Function.update_self] at hv
    rw [Function.update_of_ne w_is] at hw
    exact absurd hw (fresh g hv w)
  · subst w_is
    rw [Function.update_self] at hw
    rw [Function.update_of_ne v_is] at hv
    exact absurd hv (fresh g hw v)
  · rw [Function.update_of_ne v_is] at hv
    rw [Function.update_of_ne w_is] at hw
    exact apart i v w g hv hw

/-- A frame of the queue taken out of it is in hand (R12). -/
theorem Agrees.taken (h : p.Agrees none) (queued : f ∈ p.queue) :
    ({ p with queue := p.queue.erase f } : PoolView).Agrees (some f) := by
  have free : p.state f = .free := (h.queued f nofun).mp queued
  refine ⟨h.out, h.ready, h.counted, fun g _ => h.bound g nofun, h.apart, h.once.erase f, fun g other => ?_,
    fun more => h.waiting fun empty => more (by simp [empty]), fun g same => ?_⟩
  · have : g ≠ f := fun e => other (congrArg some e.symm)
    simpa [List.mem_erase_of_ne this] using h.queued g nofun
  · cases same
    have unbound := (h.bound f nofun).not.mp (by simp [free])
    exact ⟨by simpa using unbound, h.once.not_mem_erase⟩

/-- The frame in hand is issued to an entry; the frame that the entry named, if any, is named elsewhere too (R9, R104,
R105). -/
theorem Agrees.issued (h : p.Agrees (some f)) (more : ∀ g, p.names x = some g → 2 ≤ p.refcount g) (q : PoolView)
    (q_names : q.names = Function.update p.names x (some f))
    (q_state : q.state = Function.update p.state f .bound) (q_self : q.refcount f = 1)
    (q_old : ∀ g, p.names x = some g → q.refcount g = p.refcount g - 1)
    (q_other : ∀ g, g ≠ f → p.names x ≠ some g → q.refcount g = p.refcount g)
    (q_rest : q.held = p.held ∧ q.initialising = p.initialising ∧ q.queue = p.queue ∧ q.waiters = p.waiters) :
    q.Agrees none := by
  obtain ⟨held, init, queue, waiters⟩ := q_rest
  obtain ⟨zero, unqueued⟩ := h.unnamed f rfl
  have not_old : p.names x ≠ some f := h.not_named zero
  have counts : ∀ g, q.count g + (if p.names x = some g then 1 else 0) = p.count g + if f = g then 1 else 0 := by
    intro g
    have := p.count_update x (some f) g
    simp only [Option.some.injEq] at this
    rw [← this, PoolView.count, PoolView.count, q_names]
  refine ⟨held.trans h.out, init.trans h.ready, fun g => ?_, fun g _ => ?_, ?_, queue ▸ h.once, fun g _ => ?_,
    fun some_queued => waiters.trans (h.waiting (queue ▸ some_queued)), nofun⟩
  · have same := counts g
    rw [← h.counted g] at same
    by_cases own : f = g
    · subst own
      rw [q_self]
      rw [if_neg not_old, if_pos rfl, zero] at same
      omega
    · by_cases old : p.names x = some g
      · rw [q_old g old]
        rw [if_pos old, if_neg own] at same
        omega
      · rw [q_other g (Ne.symm own) old]
        rw [if_neg old, if_neg own] at same
        omega
  · rw [q_state]
    by_cases own : g = f
    · subst own
      simp [q_self]
    · rw [Function.update_of_ne own, h.bound g (by simpa using Ne.symm own)]
      by_cases old : p.names x = some g
      · have := more g old
        rw [q_old g old]
        omega
      · rw [q_other g own old]
  · rw [q_names]
    exact apart_update h.apart fun g hg u => by
      cases hg
      exact h.not_named zero
  · rw [queue, q_state]
    by_cases own : g = f
    · subst own
      simp [unqueued]
    · rw [Function.update_of_ne own]
      exact h.queued g (by simpa using Ne.symm own)

/-- The frame in hand goes to the tail of the queue, when no stream waits (R11, R14). -/
theorem Agrees.returned (h : p.Agrees (some f)) (nobody : p.waiters = []) :
    ({ p with state := Function.update p.state f .free, queue := p.queue ++ [f] } : PoolView).Agrees none := by
  obtain ⟨zero, unqueued⟩ := h.unnamed f rfl
  refine ⟨h.out, h.ready, h.counted, fun g _ => ?_, h.apart, ?_, fun g _ => ?_, fun _ => nobody, nofun⟩
  · by_cases own : g = f
    · subst own
      simp [zero]
    · simpa [Function.update_of_ne own] using h.bound g (by simpa using Ne.symm own)
  · simpa [List.nodup_append, h.once] using fun g hg => ne_of_mem_of_not_mem hg unqueued
  · by_cases own : g = f
    · subst own
      simp
    · simpa [Function.update_of_ne own, own] using h.queued g (by simpa using Ne.symm own)

/-- A shorter or other list of waiters, when there were waiters already (R14). -/
theorem Agrees.setWaiters {inHand : Option FrameId} (h : p.Agrees inHand) {ws : List StreamId}
    (allowed : p.queue ≠ [] → ws = []) : ({ p with waiters := ws } : PoolView).Agrees inHand :=
  ⟨h.out, h.ready, h.counted, h.bound, h.apart, h.once, h.queued, allowed, h.unnamed⟩

/-- An entry stops naming its frame (R11): the frame is in hand when that was its last reference. -/
theorem Agrees.released (h : p.Agrees none) (named : p.names x = some f) :
    ({ p with
        names := Function.update p.names x none
        refcount := Function.update p.refcount f (p.refcount f - 1) } : PoolView).Agrees
      (if p.refcount f - 1 = 0 then some f else none) := by
  have held := h.refcount_pos named
  have is_bound : p.state f = .bound := (h.bound f nofun).mpr held
  have hand : ∀ {g}, g ≠ f → (if p.refcount f - 1 = 0 then some f else none) ≠ some g := by
    intro g other
    split <;> simp [other.symm]
  refine ⟨h.out, h.ready, fun g => ?_, fun g inHand => ?_, apart_update h.apart nofun, h.once, fun g _ => h.queued g nofun,
    h.waiting, fun g inHand => ?_⟩
  · have counts := p.count_update x none g
    simp only [reduceCtorEq, if_false, Nat.add_zero] at counts
    have before := h.counted g
    simp only [PoolView.count] at counts before ⊢
    by_cases own : g = f
    · subst own
      rw [if_pos named] at counts
      rw [Function.update_self]
      omega
    · rw [if_neg fun same => own (Option.some.inj (same.symm.trans named))] at counts
      rw [Function.update_of_ne own]
      omega
  · by_cases own : g = f
    · subst own
      split at inHand <;> simp_all
      omega
    · simpa [Function.update_of_ne own] using h.bound g nofun
  · split at inHand
    · rename_i last
      cases inHand
      exact ⟨by simpa using last, fun queued => by simp [(h.queued f nofun).mp queued] at is_bound⟩
    · cases inHand

/-- An absent entry takes a frame that its map does not name and another entry names (R36). -/
theorem Agrees.shared (h : p.Agrees none) {y : StreamId × VPage} (named : p.names y = some f)
    (absent : p.names x = none) (fresh : ∀ u, p.names (x.1, u) ≠ some f) :
    ({ p with
        names := Function.update p.names x (some f)
        refcount := Function.update p.refcount f (p.refcount f + 1) } : PoolView).Agrees none := by
  have is_bound : p.state f = .bound := (h.bound f nofun).mpr (h.refcount_pos named)
  refine ⟨h.out, h.ready, fun g => ?_, fun g _ => ?_, apart_update h.apart (fun g hg u => ?_), h.once,
    fun g _ => h.queued g nofun, h.waiting, nofun⟩
  · have counts := p.count_update x (some f) g
    have before := h.counted g
    simp only [absent, reduceCtorEq, if_false, Nat.add_zero, Option.some.injEq] at counts
    simp only [PoolView.count] at counts before ⊢
    by_cases own : g = f
    · subst own
      rw [if_pos rfl] at counts
      rw [Function.update_self]
      omega
    · rw [if_neg (Ne.symm own)] at counts
      rw [Function.update_of_ne own]
      omega
  · by_cases own : g = f
    · subst own
      simp [is_bound]
    · simpa [Function.update_of_ne own] using h.bound g nofun
  · cases hg
    exact fresh u

end PoolView

end Sys2Proof.Proofs

namespace Sys2Proof.Proofs

open Sys2Proof.Machine Sys2Proof.Laws

/-! ### What leaves the view of the pool as it is -/

section Views

variable (s : State)

@[simp] theorem view_refcount (f : FrameId) : (poolView s).refcount f = (s.frame f).refcount := rfl
@[simp] theorem view_state (f : FrameId) : (poolView s).state f = (s.frame f).state := rfl

@[simp] theorem view_setEngine (i : StreamId) (e : Engine) : poolView (s.setEngine i e) = poolView s := rfl
@[simp] theorem view_modEngine (i : StreamId) (g : Engine → Engine) : poolView (s.modEngine i g) = poolView s := rfl
@[simp] theorem view_setPort (p : PortId) (x : Port) : poolView (s.setPort p x) = poolView s := rfl
@[simp] theorem view_setDeferred (ds : List DeferredClaim) : poolView (s.setDeferred ds) = poolView s := rfl
@[simp] theorem view_setClaims (cs : List Claim) : poolView (s.setClaims cs) = poolView s := rfl
@[simp] theorem view_sendClaim (c : Claim) : poolView (s.sendClaim c) = poolView s := rfl
@[simp] theorem view_dropOldestClaim : poolView s.dropOldestClaim = poolView s := rfl
@[simp] theorem view_setLowArmed (armed : Bool) : poolView (s.setLowArmed armed) = poolView s := rfl
@[simp] theorem view_setArbiter (a : Arbiter) : poolView (s.setArbiter a) = poolView s := rfl
@[simp] theorem view_withdrawRequest (i : StreamId) : poolView (s.withdrawRequest i) = poolView s := rfl
@[simp] theorem view_request (r : Requester) (q : BurstRequest) : poolView (s.request r q) = poolView s := rfl
@[simp] theorem view_endBurst : poolView s.endBurst = poolView s := rfl
@[simp] theorem view_granted (b : Burst) : poolView (s.granted b) = poolView s := rfl
@[simp] theorem view_storeWrite (f : FrameId) (o : Nat) (bytes : List Byte) :
    poolView (s.storeWrite f o bytes) = poolView s := rfl
@[simp] theorem view_setCommand (c : CommandUnit) : poolView (s.setCommand c) = poolView s := rfl
@[simp] theorem view_setStage (c : HostCommand) (g : CommandStage) : poolView (s.setStage c g) = poolView s := rfl
@[simp] theorem view_setLink (l : Link) : poolView (s.setLink l) = poolView s := rfl
@[simp] theorem view_post (n : Option StreamId) (fields : NoticeFields) : poolView (s.post n fields) = poolView s := rfl
@[simp] theorem view_signal (f : FrameId) : poolView (s.signal f) = poolView s := rfl
@[simp] theorem view_purge (i : StreamId) (v : VPage) (n : Nat) : poolView (s.purge i v n) = poolView s := rfl
@[simp] theorem view_pending (q : List Instr) : poolView { s with pending := q } = poolView s := rfl

@[simp] theorem view_modPortOf (i : StreamId) (g : Port → Port) : poolView (s.modPortOf i g) = poolView s := by
  unfold State.modPortOf; split <;> rfl
@[simp] theorem view_setGate (i : StreamId) (b : Bool) : poolView (s.setGate i b) = poolView s := view_modPortOf ..
@[simp] theorem view_setFifo (i : StreamId) (ws : List Word) : poolView (s.setFifo i ws) = poolView s :=
  view_modPortOf ..
@[simp] theorem view_produceReply (payload : List Byte) : poolView (s.produceReply payload) = poolView s := by
  unfold State.produceReply; split <;> rfl
@[simp] theorem view_refuse (status : Status) : poolView (s.refuse status) = poolView s := view_produceReply ..
@[simp] theorem view_replyOk : poolView s.replyOk = poolView s := view_produceReply ..

/-! #### What rewrites it -/

theorem view_setFrame (f : FrameId) (r : FrameRecord) :
    poolView (s.setFrame f r) =
      { poolView s with
        state := Function.update (poolView s).state f r.state
        refcount := Function.update (poolView s).refcount f r.refcount } := by
  have record : ∀ g, (s.setFrame f r).frame g = if g = f then r else s.frame g := by
    intro g
    split
    · subst g; simp
    · rename_i other; exact frame_setFrame_other s f g r (Ne.symm other)
  ext g <;> simp only [poolView, setFrame_heldInReset, setFrame_mapUnit, entry_setFrame, record, Function.update_apply] <;>
    split <;> rfl

/-- A frame record written with its state and its refcount kept. -/
theorem view_setFrame_kept {f : FrameId} {r : FrameRecord} (state : r.state = (s.frame f).state)
    (refcount : r.refcount = (s.frame f).refcount) : poolView (s.setFrame f r) = poolView s := by
  rw [view_setFrame, state, refcount]
  simp only [← view_state, ← view_refcount, Function.update_eq_self]

theorem view_setEntry (i : StreamId) (v : VPage) (e : Option MapEntry) :
    poolView (s.setEntry i v e) =
      { poolView s with names := Function.update (poolView s).names (i, v) (e.map fun x => x.frame) } := by
  ext1
  case names =>
    funext ⟨j, u⟩
    by_cases stream : i = j
    · subst stream
      by_cases page : v = u
      · subst page
        simp [poolView]
      · simp [poolView, entry_setEntry_other_page s i v u e page, Ne.symm page]
    · simp [poolView, entry_setEntry_other_stream s i j v u e stream, Ne.symm stream]
  all_goals rfl

theorem view_setFreeQueue (q : List FrameId) : poolView (s.setFreeQueue q) = { poolView s with queue := q } := rfl
theorem view_setWaiters (ws : List StreamId) : poolView (s.setWaiters ws) = { poolView s with waiters := ws } := rfl

/-! #### Stream engines -/

@[simp] theorem view_discardCapture (i : StreamId) : poolView (s.discardCapture i) = poolView s := by
  simp [State.discardCapture]
@[simp] theorem view_enterDone (i : StreamId) (r : EndReason) : poolView (s.enterDone i r) = poolView s := by
  simp [State.enterDone]
@[simp] theorem view_enterFailed (i : StreamId) (v : VPage) : poolView (s.enterFailed i v) = poolView s := by
  simp [State.enterFailed]
@[simp] theorem view_sendSeal (i : StreamId) (c : Option Nat → EngineClaim) :
    poolView (s.sendSeal i c) = poolView s := rfl
@[simp] theorem view_reportFill (i : StreamId) (f : FrameId) (o : Nat) :
    poolView (s.reportFill i f o) = poolView s := by
  unfold State.reportFill; split <;> rfl
@[simp] theorem view_stopInFault (i : StreamId) (r : EndReason) : poolView (s.stopInFault i r) = poolView s := by
  unfold State.stopInFault; dsimp only; split <;> simp
@[simp] theorem view_enterFault (i : StreamId) (v : VPage) (r : FaultReason) :
    poolView (s.enterFault i v r) = poolView s := by
  unfold State.enterFault; dsimp only; split <;> simp
@[simp] theorem view_giveFrame (i : StreamId) (v : VPage) (f : FrameId) (a : Access) :
    poolView (s.giveFrame i v f a) = poolView s := by
  unfold State.giveFrame; dsimp only; split <;> simp

/-! #### Frames -/

@[simp] theorem view_lowMarkCheck : poolView s.lowMarkCheck = poolView s := by
  unfold State.lowMarkCheck; split <;> simp
@[simp] theorem view_setFill (f : FrameId) (n : Nat) : poolView (s.setFill f n) = poolView s := by
  unfold State.setFill
  dsimp only
  split <;> simp [view_setFrame_kept]
@[simp] theorem view_sealFrame (f : FrameId) : poolView (s.sealFrame f) = poolView s := by
  unfold State.sealFrame
  split <;> simp [view_setFrame_kept]
@[simp] theorem view_sealAt (f : FrameId) (carried : Option Nat) : poolView (s.sealAt f carried) = poolView s := by
  unfold State.sealAt; split <;> simp

/-! #### Pages -/

@[simp] theorem view_sendWrite (i : StreamId) : poolView (s.sendWrite i) = poolView s := rfl
@[simp] theorem view_goToNextPage (i : StreamId) : poolView (s.goToNextPage i) = poolView s := rfl
@[simp] theorem view_advancePage (i : StreamId) (v : VPage) : poolView (s.advancePage i v) = poolView s := rfl
@[simp] theorem view_giveReplayPage (i : StreamId) (v : VPage) (e : MapEntry) :
    poolView (s.giveReplayPage i v e) = poolView s := rfl
@[simp] theorem view_evaluateEntry (i : StreamId) : poolView (s.evaluateEntry i) = poolView s := by
  unfold State.evaluateEntry
  split
  · rfl
  · split <;> simp
@[simp] theorem view_enterReplayPage (i : StreamId) : poolView (s.enterReplayPage i) = poolView s := by
  unfold State.enterReplayPage; dsimp only; split <;> simp
@[simp] theorem view_enterChained (i : StreamId) : poolView (s.enterChained i) = poolView s := by
  unfold State.enterChained; split <;> simp
@[simp] theorem view_enterPage (i : StreamId) : poolView (s.enterPage i) = poolView s := by
  unfold State.enterPage; split <;> simp
@[simp] theorem view_finishEmptying (i : StreamId) (r : EndReason) : poolView (s.finishEmptying i r) = poolView s := by
  simp [State.finishEmptying]
@[simp] theorem view_endSegment (i : StreamId) (v : VPage) (r : EndReason) :
    poolView (s.endSegment i v r) = poolView s := by
  unfold State.endSegment
  split
  · dsimp only
    split <;> simp
  · simp
@[simp] theorem view_completeSegment (i : StreamId) (v : VPage) : poolView (s.completeSegment i v) = poolView s := by
  unfold State.completeSegment
  split
  · dsimp only
    split
    · split <;> simp
    · simp
  · rfl
@[simp] theorem view_leaveInDrain (i : StreamId) (v : VPage) : poolView (s.leaveInDrain i v) = poolView s := by
  unfold State.leaveInDrain
  dsimp only
  split
  · simp
  · split <;> simp
@[simp] theorem view_leaveCapturePage (i : StreamId) (v : VPage) : poolView (s.leaveCapturePage i v) = poolView s := by
  unfold State.leaveCapturePage
  dsimp only
  split
  · simp
  · split <;> simp
@[simp] theorem view_afterReplayLeave (i : StreamId) (v : VPage) : poolView (s.afterReplayLeave i v) = poolView s := by
  unfold State.afterReplayLeave; dsimp only; split <;> simp
@[simp] theorem view_leaveReplayPage (i : StreamId) (v : VPage) : poolView (s.leaveReplayPage i v) = poolView s := by
  unfold State.leaveReplayPage; dsimp only; split <;> simp
@[simp] theorem view_evaluatePage (i : StreamId) : poolView (s.evaluatePage i) = poolView s := by
  unfold State.evaluatePage
  split
  · rfl
  · split <;> simp
@[simp] theorem view_passOver (i : StreamId) (v : VPage) : poolView (s.passOver i v) = poolView s := by
  unfold State.passOver; dsimp only; split <;> simp
@[simp] theorem view_answerRead (i : StreamId) (v : VPage) : poolView (s.answerRead i v) = poolView s := by
  unfold State.answerRead
  split
  · simp
  · split <;> simp
@[simp] theorem view_endWhenDrained (i : StreamId) : poolView (s.endWhenDrained i) = poolView s := by
  unfold State.endWhenDrained; split <;> simp

/-! #### Bursts and transfers -/

@[simp] theorem view_requestBurst (i : StreamId) (n : Nat) (w : Bool) : poolView (s.requestBurst i n w) = poolView s := by
  unfold State.requestBurst; split <;> simp
@[simp] theorem view_grantHost (q : BurstRequest) : poolView (s.grantHost q) = poolView s := by
  unfold State.grantHost
  split
  · rfl
  · dsimp only
    split <;> simp
@[simp] theorem view_grantTo (r : Requester) : poolView (s.grantTo r) = poolView s := by
  unfold State.grantTo
  split
  · rfl
  · split
    · split <;> simp [State.grantCapture, State.grantReplay]
    · simp
@[simp] theorem view_answerRestart (i : StreamId) : poolView (s.answerRestart i) = poolView s := by
  simp [State.answerRestart]
@[simp] theorem view_afterCapture (i : StreamId) : poolView (s.afterCapture i) = poolView s := by
  unfold State.afterCapture
  split
  · rfl
  · dsimp only
    split <;> simp
@[simp] theorem view_completeCapture (i : StreamId) (b : Burst) : poolView (s.completeCapture i b) = poolView s := by
  unfold State.completeCapture State.landCapture; dsimp only; split <;> simp
@[simp] theorem view_afterReplay (i : StreamId) (ws : List Word) : poolView (s.afterReplay i ws) = poolView s := by
  unfold State.afterReplay; split <;> simp
@[simp] theorem view_completeReplay (i : StreamId) (b : Burst) : poolView (s.completeReplay i b) = poolView s := by
  unfold State.completeReplay; dsimp only; split <;> simp
@[simp] theorem view_continueTransfer (x : Transfer) : poolView (s.continueTransfer x) = poolView s := by
  unfold State.continueTransfer
  dsimp only
  split
  · simp
  · split <;> simp
@[simp] theorem view_completeHostBurst (b : Burst) : poolView (s.completeHostBurst b) = poolView s := by
  unfold State.completeHostBurst
  split
  · simp
  · split <;> simp
@[simp] theorem view_beginTransfer (c : HostCommand) (x : Transfer) : poolView (s.beginTransfer c x) = poolView s := by
  simp [State.beginTransfer]
@[simp] theorem view_readPage (i : StreamId) (v : VPage) (o n : Nat) : poolView (s.readPage i v o n) = poolView s := by
  unfold State.readPage
  split
  · simp
  · dsimp only
    split <;> simp
@[simp] theorem view_writePage (i : StreamId) (v : VPage) (o : Nat) (data : List Byte) :
    poolView (s.writePage i v o data) = poolView s := by
  unfold State.writePage
  split
  · simp
  · dsimp only
    repeat' split
    all_goals simp [view_setFrame_kept]
@[simp] theorem view_sealCommand (i : StreamId) (v : VPage) : poolView (s.sealCommand i v) = poolView s := by
  unfold State.sealCommand
  split
  · simp
  · dsimp only
    split <;> simp

/-! #### Claims, commands, lanes and the link -/

@[simp] theorem view_takeLeaveSeal (i : StreamId) (f : FrameId) (carried : Option Nat) :
    poolView (s.takeLeaveSeal i f carried) = poolView s := by
  simp [State.takeLeaveSeal]
@[simp] theorem view_endBySeal (i : StreamId) : poolView (s.endBySeal i) = poolView s := by
  unfold State.endBySeal; split <;> simp
@[simp] theorem view_answerStop (i : StreamId) : poolView (s.answerStop i) = poolView s := by
  unfold State.answerStop; split <;> simp
@[simp] theorem view_continuePageChange (i : StreamId) : poolView (s.continuePageChange i) = poolView s := by
  unfold State.continuePageChange
  split
  · split <;> simp
  · rfl
@[simp] theorem view_takeSignal (i : StreamId) : poolView (s.takeSignal i) = poolView s := by
  unfold State.takeSignal
  split
  · rfl
  · dsimp only
    split <;> simp
@[simp] theorem view_takeCommand : poolView s.takeCommand = poolView s := by
  unfold State.takeCommand
  split
  · rfl
  · split
    · simp
    · unfold State.handCommand
      dsimp only
      split <;> simp
@[simp] theorem view_sendRestart (scope : RestartScope) : poolView (s.sendRestart scope) = poolView s := rfl
@[simp] theorem view_stopEngine (i : StreamId) : poolView (s.stopEngine i) = poolView s := by
  unfold State.stopEngine
  split
  · simp
  · dsimp only
    split <;> simp
@[simp] theorem view_setTransaction (t : TransactionState) : poolView (s.setTransaction t) = poolView s := rfl
@[simp] theorem view_linkError (r : LinkErrorReason) : poolView (s.linkError r) = poolView s := rfl
@[simp] theorem view_csFall : poolView s.csFall = poolView s := by
  unfold State.csFall; dsimp only; split <;> simp
@[simp] theorem view_csRise : poolView s.csRise = poolView s := by
  unfold State.csRise State.endTransaction
  dsimp only
  split
  · split <;> simp
  · simp
@[simp] theorem view_takeForAdmission (m : Message) : poolView (s.takeForAdmission m) = poolView s := by
  unfold State.takeForAdmission
  split
  · split <;> rfl
  · rfl
@[simp] theorem view_offerWord (p : PortId) (i : StreamId) (w : Word) : poolView (s.offerWord p i w) = poolView s := by
  unfold State.offerWord; dsimp only; split <;> simp
@[simp] theorem view_askWord (p : PortId) (i : StreamId) : poolView (s.askWord p i) = poolView s := by
  unfold State.askWord State.underrun State.afterWord
  dsimp only
  split <;> split <;> simp

/-! #### Stream commands -/

@[simp] theorem view_openPort (i : StreamId) (d : Direction) (p : PortId) (f : FaultPolicy) (r : ReleasePolicy) :
    poolView (s.openPort i d p f r) = poolView s := by
  unfold State.openPort
  repeat' split
  all_goals simp
@[simp] theorem view_closeStream (i : StreamId) (r : Bool) : poolView (s.closeStream i r) = poolView s := by
  unfold State.closeStream State.closeEngine
  dsimp only
  repeat' split
  all_goals simp
@[simp] theorem view_armSlot (i : StreamId) (n : SlotName) (d : Descriptor) :
    poolView (s.armSlot i n d) = poolView s := by
  unfold State.armSlot
  dsimp only
  repeat' split
  all_goals simp
@[simp] theorem view_startSlot (i : StreamId) (n : SlotName) : poolView (s.startSlot i n) = poolView s := by
  unfold State.startSlot
  dsimp only
  repeat' split
  all_goals simp
@[simp] theorem view_pauseStream (i : StreamId) : poolView (s.pauseStream i) = poolView s := by
  unfold State.pauseStream; split <;> simp
@[simp] theorem view_resumeStream (i : StreamId) : poolView (s.resumeStream i) = poolView s := by
  unfold State.resumeStream State.resumeReplay
  dsimp only
  repeat' split
  all_goals simp
@[simp] theorem view_replyToStop (i : StreamId) (c : HostCommand) : poolView (s.replyToStop i c) = poolView s := by
  unfold State.replyToStop; split <;> simp
@[simp] theorem view_endReplay (i : StreamId) (r : EndReason) : poolView (s.endReplay i r) = poolView s := by
  unfold State.endReplay; dsimp only; split <;> simp
@[simp] theorem view_cutCapture (i : StreamId) : poolView (s.cutCapture i) = poolView s := by
  simp [State.cutCapture]
@[simp] theorem view_cutReplay (i : StreamId) : poolView (s.cutReplay i) = poolView s := by
  unfold State.cutReplay; split <;> simp
@[simp] theorem view_stopStream (i : StreamId) : poolView (s.stopStream i) = poolView s := by
  unfold State.stopStream State.stopCapture State.stopReplay
  split
  · split <;> simp
  · split <;> simp
  · simp
@[simp] theorem view_abortStream (i : StreamId) : poolView (s.abortStream i) = poolView s := by
  unfold State.abortStream State.abortCapture State.abortReplay
  repeat' split
  all_goals simp
@[simp] theorem view_takeTrigger (i : StreamId) : poolView (s.takeTrigger i) = poolView s := rfl
@[simp] theorem view_triggerStream (i : StreamId) : poolView (s.triggerStream i) = poolView s := by
  unfold State.triggerStream; dsimp only; split <;> simp
@[simp] theorem view_takeEdge (i : StreamId) : poolView (s.takeEdge i) = poolView s := by
  unfold State.takeEdge; dsimp only; split <;> simp

end Views

end Sys2Proof.Proofs

namespace Sys2Proof.Proofs

open Sys2Proof.Machine Sys2Proof.Laws

/-! ### Issue, hand-off and release keep the law of the pool -/

section Pool

variable {s t : State} {i : StreamId} {v : VPage} {f : FrameId}

/-- What a decision of R101 says of the entry and of the frame that the pool can issue. -/
def DecisionFits (s : State) (i : StreamId) (v : VPage) (next : Option FrameId) (d : WriteDecision) : Prop :=
  match d with
  | .allocate f => s.entry i v = none ∧ next = some f
  | .detach old f => next = some f ∧ (∃ access, s.entry i v = some ⟨old, access⟩) ∧ 2 ≤ (s.frame old).refcount
  | .waitPool => next = none
  | .inPlace f => ∃ access, s.entry i v = some ⟨f, access⟩
  | .reuse f => ∃ access, s.entry i v = some ⟨f, access⟩
  | .waitAbsent | .setAside | .fail => True

theorem decideWrite_fits (s : State) (i : StreamId) (v : VPage) (next : Option FrameId) :
    DecisionFits s i v next (s.decideWrite i v next) := by
  unfold State.decideWrite
  cases present : s.entry i v with
  | none =>
    dsimp only
    split
    · cases next with
      | none => rfl
      | some f => exact ⟨present, rfl⟩
    · trivial
  | some e =>
    dsimp only
    split
    · trivial
    split
    · trivial
    split
    · exact ⟨e.access, present⟩
    split
    · exact ⟨e.access, present⟩
    · rename_i more
      cases next with
      | none => rfl
      | some f => exact ⟨rfl, ⟨e.access, present⟩, by omega⟩

/-- The frame that is issued, in hand: at a hand-off it is so already, else it leaves the queue. -/
theorem view_issueFor (handed : Bool) :
    poolView (s.issueFor i f handed) =
      poolView ((if handed then s else s.setFreeQueue (s.mapUnit.freeQueue.erase f)).issue f (some i)) := by
  cases handed <;> simp [State.issueFor, State.issueFromQueue]

/-- Issue of the frame in hand to an absent entry (R102). -/
theorem agrees_allocate (h : (poolView s).Agrees (some f)) (absent : s.entry i v = none) {writer : Option StreamId}
    {access : Access} (same : poolView t = poolView (s.issue f writer)) :
    (poolView (t.setEntry i v (some ⟨f, access⟩))).Agrees none := by
  have unnamed : (poolView s).names (i, v) = none := by simp [poolView, absent]
  rw [view_setEntry, same, State.issue, view_setFrame]
  refine h.issued (x := (i, v)) (fun g hg => by simp [unnamed] at hg) _ rfl rfl (Function.update_self ..)
    (fun g hg => by simp [unnamed] at hg) (fun g other _ => Function.update_of_ne other ..) ⟨rfl, rfl, rfl, rfl⟩

/-- Issue of the frame in hand to an entry whose frame other entries name too (R104). -/
theorem agrees_detach (h : (poolView s).Agrees (some f)) {old : FrameId} {held access : Access}
    (present : s.entry i v = some ⟨old, held⟩) (more : 2 ≤ (s.frame old).refcount) {writer : Option StreamId}
    (same : poolView t = poolView (s.issue f writer)) :
    let u := t.setEntry i v (some ⟨f, access⟩)
    (poolView (u.setFrame old { u.frame old with refcount := (u.frame old).refcount - 1 })).Agrees none := by
  have named : (poolView s).names (i, v) = some old := by simp [poolView, present]
  have other : old ≠ f := by
    rintro rfl
    have := (h.unnamed old rfl).1
    rw [view_refcount] at this
    omega
  have kept_state : (t.frame old).state = (s.frame old).state := by
    have := congrFun (congrArg PoolView.state same) old
    simpa [State.issue, frame_setFrame_other s f old _ other.symm] using this
  have kept_count : (t.frame old).refcount = (s.frame old).refcount := by
    have := congrFun (congrArg PoolView.refcount same) old
    simpa [State.issue, frame_setFrame_other s f old _ other.symm] using this
  dsimp only
  rw [view_setFrame, view_setEntry, same, State.issue, view_setFrame]
  simp only [frame_setEntry, kept_state, kept_count]
  refine h.issued (x := (i, v)) (fun g hg => ?_) _ rfl ?_ ?_ (fun g hg => ?_) (fun g not_f not_old => ?_)
    ⟨rfl, rfl, rfl, rfl⟩
  · obtain rfl := Option.some.inj (named.symm.trans hg)
    exact more
  · funext g
    by_cases own : g = old
    · subst own
      simp [other]
    · simp [own]
  · simp [other.symm]
  · obtain rfl := Option.some.inj (named.symm.trans hg)
    simp
  · have : g ≠ old := by
      rintro rfl
      exact not_old named
    simp [this, not_f]

/-- A decision that issues the frame in hand makes the pool whole (R15, step 3). -/
theorem agrees_applyWrite_issues {handed : Bool} {next : Option FrameId} {d : WriteDecision}
    (h : ∀ g, next = some g →
      (poolView (if handed then s else s.setFreeQueue (s.mapUnit.freeQueue.erase g))).Agrees (some g))
    (fits : DecisionFits s i v next d) (issues : d.issues = true) :
    (poolView (s.applyWrite i v handed d)).Agrees none := by
  cases d with
  | allocate f =>
    obtain ⟨absent, issued⟩ := fits
    rw [State.applyWrite, view_giveFrame]
    refine agrees_allocate (h f issued) (by split <;> exact absent) (view_issueFor handed)
  | detach old f =>
    obtain ⟨issued, ⟨held, present⟩, more⟩ := fits
    rw [State.applyWrite, view_giveFrame]
    refine agrees_detach (h f issued) (held := held) (by split <;> exact present) (by split <;> exact more)
      (writer := some i) ?_
    rw [view_issueFor]
    cases handed <;> rfl
  | waitAbsent | setAside | fail | inPlace _ | reuse _ | waitPool => cases issues

/-- A decision that neither issues a frame nor waits for one leaves the pool as it is. -/
theorem view_applyWrite_settles {handed : Bool} {d : WriteDecision} (issues : d.issues = false) (waits : d ≠ .waitPool) :
    poolView (s.applyWrite i v handed d) = poolView s := by
  cases d with
  | allocate _ | detach _ _ => cases issues
  | waitPool => exact absurd rfl waits
  | waitAbsent | setAside | fail => simp [State.applyWrite]
  | inPlace f | reuse f => simp [State.applyWrite, view_setFrame_kept, FrameRecord.renewed]

/-- A write claim keeps the law (R101). -/
theorem agrees_writeClaim (h : (poolView s).Agrees none) (i : StreamId) (v : VPage) :
    (poolView (s.writeClaim i v)).Agrees none := by
  have fits := decideWrite_fits s i v s.mapUnit.freeQueue.head?
  unfold State.writeClaim
  generalize s.decideWrite i v s.mapUnit.freeQueue.head? = d at fits ⊢
  by_cases issues : d.issues = true
  · refine agrees_applyWrite_issues (fun g head => ?_) fits issues
    exact h.taken (List.mem_of_mem_head? head)
  · by_cases waits : d = .waitPool
    · subst waits
      have empty : s.mapUnit.freeQueue = [] := List.head?_eq_none_iff.mp fits
      rw [State.applyWrite, view_enterFault]
      exact h.setWaiters fun more => absurd empty more
    · rw [view_applyWrite_settles (by simpa using issues) waits]
      exact h

theorem view_returnToQueue (s : State) (f : FrameId) :
    poolView (s.returnToQueue f) =
      { poolView s with
        state := Function.update (poolView s).state f .free, queue := (poolView s).queue ++ [f] } := by
  unfold State.returnToQueue
  dsimp only
  split
  all_goals
    simp only [view_setLowArmed, view_setFreeQueue, view_setFrame, ← view_refcount, Function.update_eq_self]
    rfl

/-- A hand-off of the frame in hand makes the pool whole (R15). -/
theorem agrees_handOff {ws : List StreamId} (h : (poolView s).Agrees (some f)) (waiters : s.mapUnit.waiters = ws) :
    (poolView (s.handOff ws f)).Agrees none := by
  induction ws generalizing s with
  | nil =>
    rw [State.handOff, view_returnToQueue]
    exact h.returned waiters
  | cons w rest ih =>
    have empty : s.mapUnit.freeQueue = [] := by
      by_contra more
      exact absurd (waiters.symm.trans (h.waiting more)) (List.cons_ne_nil w rest)
    have next : (poolView (s.setWaiters rest)).Agrees (some f) := h.setWaiters fun more => absurd empty more
    unfold State.handOff
    dsimp only
    split
    · exact ih next rfl
    · split
      · exact ih next rfl
      · rename_i record _
        have fits := decideWrite_fits (s.setWaiters rest) w record.vpage (some f)
        generalize (s.setWaiters rest).decideWrite w record.vpage (some f) = d at fits ⊢
        split
        · rename_i issues
          exact agrees_applyWrite_issues (fun g hg => Option.some.inj hg ▸ next) fits issues
        · rename_i issues
          have same : poolView ((s.setWaiters rest).applyWrite w record.vpage true d) = poolView (s.setWaiters rest) :=
            view_applyWrite_settles (by simpa using issues) (by rintro rfl; cases fits)
          exact ih (same ▸ next) (congrArg PoolView.waiters same)

/-- An entry made absent and its frame released keep the law (R11). -/
theorem agrees_release (h : (poolView s).Agrees none) {e : MapEntry} (present : s.entry i v = some e) :
    (poolView ((s.setEntry i v none).release e.frame)).Agrees none := by
  have named : (poolView s).names (i, v) = some e.frame := by simp [poolView, present]
  have released := h.released named
  have same : poolView ((s.setEntry i v none).setFrame e.frame
      { (s.setEntry i v none).frame e.frame with refcount := ((s.setEntry i v none).frame e.frame).refcount - 1 }) =
        { poolView s with
          names := Function.update (poolView s).names (i, v) none
          refcount := Function.update (poolView s).refcount e.frame ((poolView s).refcount e.frame - 1) } := by
    rw [view_setFrame, view_setEntry]
    simp only [frame_setEntry, Option.map_none, ← view_state, ← view_refcount, Function.update_eq_self]
  rw [← same, view_refcount] at released
  unfold State.release
  simp only [frame_setFrame_self, frame_setEntry] at released ⊢
  split
  · rename_i last
    rw [if_pos last] at released
    exact agrees_handOff released rfl
  · rename_i last
    rw [if_neg last] at released
    exact released

theorem agrees_releasePages (h : (poolView s).Agrees none) (i : StreamId) (vs : List VPage) :
    (poolView (s.releasePages i vs).state).Agrees none := by
  induction vs generalizing s with
  | nil => exact h
  | cons v rest ih =>
    unfold State.releasePages
    split
    · exact ih h
    · rename_i e present
      split
      · exact ih h
      · exact ih (agrees_release h present)

theorem agrees_decideRelease (h : (poolView s).Agrees none) (i : StreamId) (v : VPage) :
    (poolView (s.decideRelease i v)).Agrees none := by
  unfold State.decideRelease
  dsimp only
  split
  · rename_i e present
    rw [view_afterReplayLeave]
    exact agrees_release (by rwa [view_purge]) present
  · rwa [view_afterReplayLeave, view_purge]

theorem agrees_decideDeferred (h : (poolView s).Agrees none) (d : DeferredClaim) :
    (poolView (s.decideDeferred d)).Agrees none := by
  unfold State.decideDeferred
  split
  · exact agrees_writeClaim h ..
  · exact agrees_decideRelease h ..

theorem agrees_foldl {α : Type} {step : State → α → State} (l : List α)
    (keeps : ∀ u, (poolView u).Agrees none → ∀ a, (poolView (step u a)).Agrees none) (h : (poolView s).Agrees none) :
    (poolView (l.foldl step s)).Agrees none := by
  induction l generalizing s with
  | nil => exact h
  | cons a rest ih => exact ih (keeps s h a)

theorem agrees_decideAllDeferred (h : (poolView s).Agrees none) : (poolView s.decideAllDeferred).Agrees none :=
  agrees_foldl _ (fun _ hu d => agrees_decideDeferred hu d) (by rwa [view_setDeferred])

theorem agrees_retry (h : (poolView s).Agrees none) (i : StreamId) (first : VPage) (count : Nat) :
    (poolView (s.retry i first count)).Agrees none := by
  unfold State.retry
  split
  · split
    · split
      · exact agrees_writeClaim h ..
      · rwa [view_evaluateEntry, view_giveReplayPage]
      · exact h
    · exact h
  · exact h

/-! ### The claims of the command unit -/

/-- MAP of an absent entry with a frame of the queue (R27). -/
theorem agrees_mapFrame (h : (poolView s).Agrees none) (absent : s.entry i v = none) (queued : f ∈ s.mapUnit.freeQueue)
    (access : Access) : (poolView (s.mapFrame i access v f)).Agrees none := by
  unfold State.mapFrame
  dsimp only
  rw [view_produceReply]
  refine agrees_retry (agrees_allocate (s := s.setFreeQueue (s.mapUnit.freeQueue.erase f)) (h.taken queued) absent
    (writer := none) ?_) ..
  simp [State.issueFromQueue]

theorem agrees_mapPage (h : (poolView s).Agrees none) (i : StreamId) (access : Access) (v : VPage)
    (frame : Option FrameId) : (poolView (s.mapPage i access v frame)).Agrees none := by
  unfold State.mapPage
  split
  · rwa [view_refuse]
  · rename_i absent
    split
    · rwa [view_refuse]
    · rename_i f _ queue
      exact agrees_mapFrame h absent (by simp [queue]) access
  · rename_i f absent
    split
    · rwa [view_refuse]
    · rename_i unbound
      have free : (s.frame f).state = .free := by
        cases state : (s.frame f).state with
        | free => rfl
        | bound => exact absurd state unbound
      exact agrees_mapFrame h absent ((h.queued f nofun).mpr free) access

theorem agrees_unmapRange (h : (poolView s).Agrees none) (i : StreamId) (first : VPage) (count : Nat) :
    (poolView (s.unmapRange i first count)).Agrees none := by
  unfold State.unmapRange
  split
  · rwa [view_refuse]
  · dsimp only
    rw [view_produceReply]
    exact agrees_releasePages (by rwa [view_purge]) ..

theorem agrees_releaseMap (h : (poolView s).Agrees none) (i : StreamId) : (poolView (s.releaseMap i)).Agrees none := by
  unfold State.releaseMap
  dsimp only
  rw [view_produceReply]
  exact agrees_releasePages (by rwa [view_purge]) ..

/-- The access of an entry is none of the pool's. -/
theorem view_setAccess (access : Access) : poolView (s.setAccess i access v) = poolView s := by
  have same : ((s.entry i v).map fun e => { e with access := access }).map (fun e => e.frame) =
      (poolView s).names (i, v) := by
    simp [poolView, Function.comp_def]
  rw [State.setAccess, view_setEntry, same, Function.update_eq_self]

theorem agrees_protectRange (h : (poolView s).Agrees none) (i : StreamId) (access : Access) (first : VPage)
    (count : Nat) : (poolView (s.protectRange i access first count)).Agrees none := by
  unfold State.protectRange
  split
  · rwa [view_refuse]
  split
  · rwa [view_refuse]
  · rw [view_produceReply]
    exact agrees_foldl _ (fun u hu a => by rwa [view_setAccess]) (by rwa [view_purge])

/-- The pages of a SHARE that are still to be made present: their destinations are absent and different, and no page of
the destination names the frames of their sources, which are different pages. -/
structure Sharable (s : State) (i j : StreamId) (pages : List (VPage × VPage)) : Prop where
  sources : (pages.map Prod.fst).Nodup
  destinations : (pages.map Prod.snd).Nodup
  absent : ∀ x ∈ pages, s.entry j x.2 = none
  fresh : ∀ x ∈ pages, ∀ e, s.entry i x.1 = some e → ∀ u, (poolView s).names (j, u) ≠ some e.frame

theorem agrees_sharePages {j : StreamId} {access : Access} (other : i ≠ j) (pages : List (VPage × VPage))
    (h : (poolView s).Agrees none) (ok : Sharable s i j pages) :
    (poolView (pages.foldl (fun (u : State) x => u.sharePage i j access x) s)).Agrees none := by
  induction pages generalizing s with
  | nil => exact h
  | cons x rest ih =>
    obtain ⟨source, sources⟩ := List.nodup_cons.mp ok.sources
    obtain ⟨destination, destinations⟩ := List.nodup_cons.mp ok.destinations
    have later : ∀ y ∈ rest, y.2 ≠ x.2 := fun y hy same => destination (same ▸ List.mem_map_of_mem hy)
    rw [List.foldl_cons]
    cases present : s.entry i x.1 with
    | none =>
      have same : s.sharePage i j access x = s := by simp [State.sharePage, present]
      rw [same]
      exact ih h ⟨sources, destinations, fun y hy => ok.absent y (List.mem_cons_of_mem _ hy),
        fun y hy => ok.fresh y (List.mem_cons_of_mem _ hy)⟩
    | some e =>
      have absent := ok.absent x (List.mem_cons_self ..)
      have fresh := ok.fresh x (List.mem_cons_self ..) e present
      have named : (poolView s).names (i, x.1) = some e.frame := by simp [poolView, present]
      have shared : s.sharePage i j access x = (s.setEntry j x.2 (some ⟨e.frame, access⟩)).setFrame e.frame
          { s.frame e.frame with refcount := (s.frame e.frame).refcount + 1 } := by
        simp [State.sharePage, present]
      have view : poolView (s.sharePage i j access x) =
          { poolView s with
            names := Function.update (poolView s).names (j, x.2) (some e.frame)
            refcount := Function.update (poolView s).refcount e.frame ((poolView s).refcount e.frame + 1) } := by
        rw [shared, view_setFrame, view_setEntry]
        simp only [Option.map_some, ← view_state, ← view_refcount, Function.update_eq_self]
      have source_kept : ∀ u, (s.sharePage i j access x).entry i u = s.entry i u := fun u => by
        rw [shared, entry_setFrame, entry_setEntry_other_stream _ _ _ _ _ _ other.symm]
      refine ih (view ▸ h.shared named (x := (j, x.2)) (by simp [poolView, absent]) fresh)
        ⟨sources, destinations, fun y hy => ?_, fun y hy e' present' u => ?_⟩
      · rw [shared, entry_setFrame, entry_setEntry_other_page _ _ _ _ _ (later y hy).symm]
        exact ok.absent y (List.mem_cons_of_mem _ hy)
      · rw [source_kept] at present'
        simp only [view]
        by_cases own : u = x.2
        · subst own
          rw [Function.update_self]
          intro same
          have named' : (poolView s).names (i, y.1) = some e.frame := by
            simp [poolView, present', Option.some.inj same]
          exact source (h.apart i y.1 x.1 e.frame named' named ▸ List.mem_map_of_mem hy)
        · rw [Function.update_of_ne fun same : (j, u) = (j, x.2) => own (congrArg Prod.snd same)]
          exact ok.fresh y (List.mem_cons_of_mem _ hy) e' present' u

/-- A map names a frame at some page (R35, check 4). -/
theorem mapNames_iff : s.mapNames i f = true ↔ ∃ u, (poolView s).names (i, u) = some f := by
  unfold State.mapNames
  rw [vector_toList_eq_map]
  simp only [List.any_map, List.any_eq_true, List.mem_finRange, true_and, Function.comp_apply, Option.any_eq_true,
    beq_iff_eq, poolView, State.entry, Option.map_eq_some_iff]

theorem map_fst_zip_sublist {α β : Type} : ∀ (l : List α) (m : List β), ((l.zip m).map Prod.fst).Sublist l
  | [], _ => by simp
  | _ :: _, [] => by simp
  | a :: l, _ :: m => (map_fst_zip_sublist l m).cons_cons a

theorem map_snd_zip_sublist {α β : Type} : ∀ (l : List α) (m : List β), ((l.zip m).map Prod.snd).Sublist m
  | [], _ => by simp
  | _ :: _, [] => by simp
  | _ :: l, b :: m => (map_snd_zip_sublist l m).cons_cons b

/-- The checks of R35 leave pages that can be shared. -/
theorem sharable_of_checks {j : StreamId} (first second : VPage) (count : Nat)
    (absent : ∀ v ∈ pagesFrom second count, s.entry j v = none)
    (fresh : ∀ v ∈ pagesFrom first count, ∀ e, s.entry i v = some e → s.mapNames j e.frame = false) :
    Sharable s i j ((pagesFrom first count).zip (pagesFrom second count)) where
  sources := (map_fst_zip_sublist ..).nodup (pagesFrom_nodup first count)
  destinations := (map_snd_zip_sublist ..).nodup (pagesFrom_nodup second count)
  absent x hx := absent x.2 (List.of_mem_zip hx).2
  fresh x hx e present u named := by
    have := mapNames_iff.mpr ⟨u, named⟩
    simp [fresh x.1 (List.of_mem_zip hx).1 e present] at this

theorem agrees_shareRange (h : (poolView s).Agrees none) (i j : StreamId) (access : Access) (first second : VPage)
    (count : Nat) : (poolView (s.shareRange i j access first second count)).Agrees none := by
  unfold State.shareRange
  dsimp only
  split
  · rwa [view_refuse]
  split
  · rwa [view_refuse]
  split
  · rwa [view_refuse]
  split
  · rwa [view_refuse]
  · rename_i other _ absent fresh
    simp only [List.any_eq_true, not_exists, not_and, Bool.not_eq_true, Option.isSome_eq_false_iff,
      Option.isNone_iff_eq_none, Option.any_eq_false] at absent fresh
    rw [view_produceReply]
    exact agrees_retry (agrees_sharePages other _ h (sharable_of_checks first second count absent fresh)) ..

theorem agrees_completeWrite (h : (poolView s).Agrees none) (x : Transfer) :
    (poolView (s.completeWrite x)).Agrees none := by
  unfold State.completeWrite
  dsimp only
  rw [view_produceReply]
  refine agrees_decideAllDeferred ?_
  rwa [view_setFrame_kept _ (by rfl) (by rfl), view_setFill]

theorem agrees_takeRelease (h : (poolView s).Agrees none) (i : StreamId) (v : VPage) :
    (poolView (s.takeRelease i v)).Agrees none := by
  unfold State.takeRelease
  dsimp only
  split
  · rwa [view_setDeferred, view_modEngine]
  · exact agrees_decideRelease (by rwa [view_modEngine]) ..

theorem agrees_giveUpPlace (h : (poolView s).Agrees none) (i : StreamId) (carried : Option Nat) :
    (poolView (s.giveUpPlace i carried)).Agrees none := by
  have filtered : ∀ u, (poolView u).Agrees none →
      (poolView (u.setWaiters (u.mapUnit.waiters.filter fun w => w != i))).Agrees none := fun u hu =>
    hu.setWaiters fun more => by
      rw [show u.mapUnit.waiters = [] from hu.waiting more]
      rfl
  unfold State.giveUpPlace
  dsimp only
  rw [view_setDeferred]
  split
  · exact filtered _ (by rwa [view_sealAt])
  · exact filtered _ h

end Pool

end Sys2Proof.Proofs

namespace Sys2Proof.Proofs

open Sys2Proof.Machine Sys2Proof.Laws

/-! ### Resets, initialisation and RESTART -/

section Resets

variable {s t : State}

/-- A pool in which nothing is named and nothing is queued, before or at the beginning of an initialisation. -/
theorem PoolView.ok_of_empty {p : PoolView} (names : ∀ x, p.names x = none) (state : ∀ f, p.state f = .free)
    (refcount : ∀ f, p.refcount f = 0) (queue : p.queue = []) (waiters : p.waiters = [])
    (off : p.held = true ∨ p.initialising = true) (next : p.initialising = true → p.next = 0) : p.Ok where
  counted f := by simp [refcount, PoolView.count, names]
  bound f := by simp [state, refcount]
  apart i v w f hv := by simp [names] at hv
  once := by simp [queue]
  queued out ready := by simp [out, ready] at off
  adding init f := by simp [queue, next init]
  waiting more := absurd queue more
  unused _ := ⟨waiters, refcount⟩

theorem poolOk_of_view (ok : s.PoolOk) (same : poolView t = poolView s) : t.PoolOk := by
  rw [poolOk_iff] at ok ⊢
  rwa [same]

theorem poolOk_held (s : State) (kind : ResetKind) (reason : ReadyReason) :
    (poolView (s.held kind reason)).Ok :=
  PoolView.ok_of_empty
    (fun x => by simp [poolView, State.held, MapUnit.reset, State.entry])
    (fun f => by simp [poolView, State.held, MapUnit.reset, State.frame, FrameRecord.reset])
    (fun f => by simp [poolView, State.held, MapUnit.reset, State.frame, FrameRecord.reset]) rfl rfl
    (.inl rfl) nofun

theorem poolOk_reset : State.reset.PoolOk :=
  (poolOk_iff _).mpr (poolOk_held State.reset .powerOn .powerOn)

/-- R165: the end of a reset begins an initialisation of an unused pool. -/
theorem poolOk_startUp (ok : s.PoolOk) (held : s.heldInReset.isSome = true) : s.startUp.PoolOk := by
  rw [poolOk_iff] at ok ⊢
  obtain ⟨nobody, zero⟩ := ok.unused (.inl held)
  exact ⟨ok.counted, ok.bound, ok.apart, List.nodup_nil, nofun, fun _ f => by simp [poolView, State.startUp],
    fun more => absurd rfl more, fun _ => ⟨nobody, zero⟩⟩

/-- R13, step 2: the frame added was not in the queue. -/
theorem poolOk_appendFrame {f : FrameId} (ok : s.PoolOk) (init : s.mapUnit.initInProgress = true)
    (next : s.mapUnit.initNext = f.val) : (s.appendFrame f).PoolOk := by
  rw [poolOk_iff] at ok ⊢
  obtain ⟨nobody, zero⟩ := ok.unused (.inr init)
  have before : ∀ g, g ∈ s.mapUnit.freeQueue ↔ g.val < f.val := next ▸ ok.adding init
  have now : (poolView (s.appendFrame f)).queue = s.mapUnit.freeQueue ++ [f] := rfl
  refine ⟨ok.counted, ok.bound, ok.apart, ?_, fun _ ready => ?_, fun _ g => ?_, fun _ => nobody, fun _ => ⟨nobody, zero⟩⟩
  · rw [now]
    have once : s.mapUnit.freeQueue.Nodup := ok.once
    have fresh : f ∉ s.mapUnit.freeQueue := fun queued => lt_irrefl _ ((before f).mp queued)
    simpa [List.nodup_append, once] using fun g hg => ne_of_mem_of_not_mem hg fresh
  · exact absurd (init.symm.trans ready) nofun
  · rw [now, show (poolView (s.appendFrame f)).next = f.val + 1 from congrArg (· + 1) next]
    simp only [List.mem_append, before, List.mem_singleton, Fin.ext_iff]
    omega

@[simp] theorem view_commandsReady (s : State) : poolView s.commandsReady = poolView s := by
  unfold State.commandsReady
  split
  · simp
  · split <;> simp

/-- R13, step 3: all frames are FREE and stand in the queue. -/
theorem poolOk_completeInit (ok : s.PoolOk) (init : s.mapUnit.initInProgress = true) (all : s.mapUnit.initNext = 4096)
    (out : s.heldInReset = none) : s.completeInit.PoolOk := by
  rw [poolOk_iff] at ok ⊢
  obtain ⟨nobody, zero⟩ := ok.unused (.inr init)
  have view : poolView s.completeInit = { poolView s with initialising := false } := by
    simp only [State.completeInit, view_commandsReady, view_post]
    rfl
  rw [view]
  refine ⟨ok.counted, ok.bound, ok.apart, ok.once, fun _ _ f => ?_, nofun, fun _ => nobody, fun off => ?_⟩
  · have queued : f ∈ (poolView s).queue := (ok.adding init f).mpr (lt_of_lt_of_eq f.isLt all.symm)
    have unbound := (ok.bound f).not.mpr (by rw [zero f]; omega)
    refine iff_of_true queued ?_
    show (poolView s).state f = .free
    cases state : (poolView s).state f with
    | free => rfl
    | bound => exact absurd state unbound
  · simp [poolView, out] at off

/-- R167: the seals of a restart claim write no state and no refcount. -/
theorem view_sealForRestart (s : State) (x : FrameId × Nat) : poolView (s.sealForRestart x) = poolView s :=
  view_setFrame_kept _ rfl rfl

theorem agrees_restartMapUnit (h : (poolView s).Agrees none) : (poolView s.restartMapUnit).Agrees none := by
  unfold State.restartMapUnit
  rw [view_setDeferred]
  exact (agrees_foldl _ (fun u hu x => by rwa [view_sealForRestart]) h).setWaiters fun _ => rfl

/-- R168, R169. -/
theorem poolOk_restart (h : (poolView s).Agrees none) (scope : RestartScope) (n : Nat) : (s.restart scope n).PoolOk := by
  rw [poolOk_iff]
  unfold State.restart
  cases scope with
  | streams =>
    dsimp only
    rw [view_produceReply, view_setLink]
    exact (agrees_restartMapUnit h).ok
  | all =>
    dsimp only
    rw [view_setStage, view_setLink]
    refine PoolView.ok_of_empty (fun x => ?_) (fun f => ?_) (fun f => ?_) rfl rfl (.inr rfl) fun _ => rfl
    · simp [poolView, State.clearStreams, State.clearMaps, State.entry]
    · simp [poolView, State.clearStreams, State.clearMaps, State.frame, FrameRecord.restarted, FrameRecord.reset]
    · simp [poolView, State.clearStreams, State.clearMaps, State.frame, FrameRecord.restarted, FrameRecord.reset]

end Resets

/-! ### Every step -/

section EveryStep

variable {s t : State}

theorem agrees_of_takes (ok : s.PoolOk) (takes : s.mapUnitTakes = true) : (poolView s).Agrees none := by
  simp only [State.mapUnitTakes, Bool.and_eq_true, Option.isNone_iff_eq_none, Bool.not_eq_true'] at takes
  exact ((poolOk_iff s).mp ok).agrees (by simp [poolView, takes.1]) takes.2

/-- The claim taken off the list leaves the pool. -/
theorem agrees_claimTaken (ok : s.PoolOk) (takes : s.mapUnitTakes = true) :
    (poolView s.dropOldestClaim).Agrees none := by
  rw [view_dropOldestClaim]
  exact agrees_of_takes ok takes

variable {occasion : Bool} {effect : State → State}

/-- A step with its occasion. -/
theorem poolOk_takeStep (ok : s.PoolOk) (h : takeStep occasion s effect = .next t)
    (keeps : occasion = true → (effect s).PoolOk) : t.PoolOk := by
  rcases takeStep_next h with rfl | ⟨due, rfl⟩
  · exact ok
  · exact keeps due

/-- A step that leaves the view of the pool. -/
theorem poolOk_takeStep_view (ok : s.PoolOk) (h : takeStep occasion s effect = .next t)
    (same : poolView (effect s) = poolView s) : t.PoolOk :=
  poolOk_takeStep ok h fun _ => poolOk_of_view ok same

/-- A claim of the command unit. -/
theorem poolOk_takeHostClaim {command : HostCommand} (ok : s.PoolOk) (h : takeHostClaim command s effect = .next t)
    (keeps : ∀ u, (poolView u).Agrees none → (poolView (effect u)).Agrees none) : t.PoolOk := by
  rcases takeHostClaim_next h with rfl | ⟨takes, rfl⟩
  · exact ok
  · exact (poolOk_iff _).mpr (keeps _ (agrees_claimTaken ok takes)).ok

/-- A claim of a stream engine. -/
theorem poolOk_takeEngineClaim {i : StreamId} {effect : EngineClaim → State → Option State} (ok : s.PoolOk)
    (h : takeEngineClaim i s effect = .next t)
    (keeps : ∀ c u u', effect c u = some u' → (poolView u).Agrees none → (poolView u').Agrees none) : t.PoolOk := by
  rcases takeEngineClaim_next_cases h with rfl | ⟨c, takes, answer⟩
  · exact ok
  · exact (poolOk_iff _).mpr (keeps c _ _ answer (agrees_claimTaken ok takes)).ok

theorem poolOk_closeStream {j : StreamId} {release : Bool} (ok : s.PoolOk)
    (h : execCloseStream j release s = .next t) : t.PoolOk := by
  unfold execCloseStream at h
  by_cases due : s.claimDue (.closeStream j release) .releasingMap = true
  · rw [if_pos due] at h
    have agrees := agrees_claimTaken ok (claimDue_takes due)
    exact Host.Outcome.next.inj h ▸ (poolOk_iff _).mpr (agrees_releaseMap agrees j).ok
  · rw [if_neg due] at h
    exact poolOk_takeStep_view ok h (view_closeStream ..)

theorem poolOk_writeDataCompletion (ok : s.PoolOk) (h : execWriteDataCompletion s = .next t) : t.PoolOk := by
  unfold execWriteDataCompletion at h
  refine poolOk_takeStep ok h fun due => ?_
  have takes : s.mapUnitTakes = true := by
    by_contra off
    simp [State.completionDue, State.oldestClaim, off] at due
  split
  · exact (poolOk_iff _).mpr (agrees_completeWrite (agrees_claimTaken ok takes) _).ok
  · exact ok

theorem poolOk_poolInitAppend (ok : s.PoolOk) (h : execPoolInitAppend s = .next t) : t.PoolOk := by
  cases h
  split
  · rename_i f next
    split
    · rename_i runs
      simp only [Bool.and_eq_true] at runs
      refine poolOk_appendFrame ok runs.2 ?_
      simp only [finOf?] at next
      split at next
      · cases next; rfl
      · cases next
    · exact ok
  · exact ok

theorem poolOk_restartClaim (ok : s.PoolOk) (h : execRestartClaim s = .next t) : t.PoolOk := by
  cases h
  split
  · rename_i scope n due
    refine poolOk_restart (agrees_of_takes ok ?_) scope n
    by_contra off
    simp only [State.restartDue, Bool.not_eq_true] at off due
    split at due <;> simp [off] at due
  · exact ok

theorem poolOk_readClaim {i : StreamId} (ok : s.PoolOk) (h : execReadClaim i s = .next t) : t.PoolOk := by
  unfold execReadClaim at h
  split at h
  case h_1 => cases h; exact poolOk_of_view ok (by simp)
  all_goals cases h; exact poolOk_of_view ok (by simp)

/-- No row of the table breaks the law of the pool. -/
theorem poolOk_exec (i : Instr) (ok : s.PoolOk) (h : exec i s = .next t) : t.PoolOk := by
  cases i with
  -- The claims of the command unit that write the pool.
  | map =>
    simp only [exec, execMap] at h
    exact poolOk_takeHostClaim ok h fun _ hu => agrees_mapPage hu ..
  | unmap =>
    simp only [exec, execUnmap] at h
    exact poolOk_takeHostClaim ok h fun _ hu => agrees_unmapRange hu ..
  | protect =>
    simp only [exec, execProtect] at h
    exact poolOk_takeHostClaim ok h fun _ hu => agrees_protectRange hu ..
  | share =>
    simp only [exec, execShare] at h
    exact poolOk_takeHostClaim ok h fun _ hu => agrees_shareRange hu ..
  | closeStream => exact poolOk_closeStream ok h
  | writeDataCompletion => exact poolOk_writeDataCompletion ok h
  -- The claims of the command unit that write none of it.
  | queryMap | queryFrame | poolStatus | readData | writeData | sealPage =>
    simp only [exec, execQueryMap, execQueryFrame, execPoolStatus, execReadData, execWriteData, execSealPage] at h
    exact poolOk_takeHostClaim ok h fun _ hu => by simpa using hu
  | setPoolMark =>
    simp only [exec, execSetPoolMark] at h
    exact poolOk_takeHostClaim ok h fun _ hu => by rw [view_produceReply]; exact hu
  -- The claims of the stream engines.
  | writeClaim =>
    simp only [exec, execWriteClaim] at h
    refine poolOk_takeEngineClaim ok h fun c _ _ answer hu => ?_
    cases c <;> cases answer
    exact agrees_writeClaim hu ..
  | releaseClaim =>
    simp only [exec, execReleaseClaim] at h
    refine poolOk_takeEngineClaim ok h fun c _ _ answer hu => ?_
    cases c <;> cases answer
    exact agrees_takeRelease hu ..
  | endingSealClaim =>
    simp only [exec, execEndingSealClaim] at h
    refine poolOk_takeEngineClaim ok h fun c _ _ answer hu => ?_
    cases c <;> cases answer
    rw [view_answerStop, view_endBySeal]
    exact agrees_giveUpPlace hu ..
  | leaveSealClaim =>
    simp only [exec, execLeaveSealClaim] at h
    refine poolOk_takeEngineClaim ok h fun c _ _ answer hu => ?_
    cases c <;> cases answer
    rwa [view_takeLeaveSeal]
  | fillReport =>
    simp only [exec, execFillReport] at h
    refine poolOk_takeEngineClaim ok h fun c _ _ answer hu => ?_
    cases c <;> cases answer
    rwa [view_setFill]
  | readClaim => exact poolOk_readClaim ok h
  -- Resets, initialisation and RESTART.
  | powerOn => cases h; exact (poolOk_iff _).mpr (poolOk_held s .powerOn .powerOn)
  | pinReset => cases h; exact (poolOk_iff _).mpr (poolOk_held s.landBurst .pinReset .pinReset)
  | resetEnd =>
    simp only [exec, execResetEnd] at h
    exact poolOk_takeStep ok h fun held => poolOk_startUp ok held
  | poolInitAppend => exact poolOk_poolInitAppend ok h
  | poolInitComplete =>
    simp only [exec, execPoolInitComplete] at h
    refine poolOk_takeStep ok h fun due => ?_
    simp only [Bool.and_eq_true, Option.isNone_iff_eq_none, beq_iff_eq] at due
    obtain ⟨⟨out, init⟩, all⟩ := due
    exact poolOk_completeInit ok init all out
  | restartClaim => exact poolOk_restartClaim ok h
  -- The bursts.
  | arbiterGrant | captureBurstComplete | replayBurstComplete | hostBurstComplete =>
    simp only [exec, execArbiterGrant, execCaptureBurstComplete, execReplayBurstComplete, execHostBurstComplete] at h
    exact poolOk_takeStep_view ok h (by split <;> simp)
  -- The lanes, whose effect stands inside the answer.
  | captureStrobe | replayStrobe =>
    cases h
    refine poolOk_of_view ok ?_
    split
    · split <;> simp
    · rfl
  | inboundMessage =>
    simp only [exec, execInboundMessage] at h
    exact poolOk_takeStep_view ok h (by split <;> simp)
  -- Every other step leaves the view of the pool.
  | hello | restartStreams | restartAll | openStream | arm | start | pause | resume | stop | abort | trigger
  | queryStream | commandTake | csNFall | badStart | oversize | readSelect | sendComplete | csNRise | triggerEdge
  | pendingEdgeTaken | captureBurstRequest | replayBurstRequest | waitDataSignal | engineRestart
  | writeTransactionStart =>
    simp only [exec, execHello, execRestartStreams, execRestartAll, execOpenStream, execArm, execStart, execPause,
      execResume, execStop, execAbort, execTrigger, execQueryStream, execCommandTake, execCsNFall, execBadStart,
      execOversize, execReadSelect, execSendComplete, execCsNRise, execTriggerEdge, execPendingEdgeTaken,
      execCaptureBurstRequest, execReplayBurstRequest, execWaitDataSignal, execEngineRestart,
      execWriteTransactionStart] at h
    exact poolOk_takeStep_view ok h (by simp)

end EveryStep

/-- Settles O10: every row keeps the law of the pool, which reads nothing of the queue of offered steps. -/
theorem poolStaysWhole : Obligations.PoolStaysWhole := by
  intro s t ok h
  unfold step at h
  split at h
  · cases h
    exact ok
  · exact poolOk_exec _ (poolOk_of_view ok (by rfl)) h

end Sys2Proof.Proofs

namespace Sys2Proof.Proofs

open Sys2Proof.Machine Sys2Proof.Laws

/-! ### Values at power-on -/

section PowerOn

theorem engine_reset (i : StreamId) : State.reset.engine i = Engine.reset := by
  simp [State.engine, State.reset]

theorem frame_reset (f : FrameId) : State.reset.frame f = FrameRecord.reset := by
  simp [State.frame, State.reset, MapUnit.reset]

theorem entry_reset (i : StreamId) (v : VPage) : State.reset.entry i v = none := by
  simp [State.entry, State.reset, MapUnit.reset]

theorem port_reset (p : PortId) : State.reset.port p = Port.unbound := by
  simp [State.port, State.reset]

theorem requests_reset (r : Requester) : State.reset.arbiter.requests[r] = none := by
  simp [State.reset, Arbiter.reset]

/-- R39, R40: an empty cache has no page twice and no rank. -/
theorem cacheOk_reset : Engine.reset.CacheOk := by
  have empty : occupiedEntries Engine.reset.cache = [] := by decide
  constructor <;> simp [empty]

theorem linkOk_reset : State.reset.LinkOk where
  notices :=
    { apart := List.Pairwise.nil
      counted := nofun
      frozen := nofun
      shadow := nofun
      reading := nofun
      high := fun _ => rfl }
  held := fun _ => rfl

/-- Settles O3. -/
theorem resetMeetsTheLaws : Obligations.ResetMeetsTheLaws := by
  refine ⟨rfl, ⟨rfl, Nat.zero_le _, Nat.zero_le _⟩, ⟨nofun, fun _ => rfl⟩, linkOk_reset, ⟨nofun, fun r q waits => ?_⟩,
    fun i => ?_, poolOk_reset⟩
  · rw [requests_reset] at waits
    cases waits
  · rw [engine_reset]
    exact cacheOk_reset

/-- Settles O13: each block's reset value, read field by field. -/
theorem resetValues : Obligations.ResetValues := by
  refine ⟨frame_reset, entry_reset, rfl, rfl, rfl, rfl, rfl, fun i => ?_, fun p => ?_, requests_reset, rfl, rfl, rfl, rfl,
    rfl, rfl, rfl, rfl, rfl, rfl, rfl, rfl⟩
  · rw [engine_reset]
    decide
  · rw [port_reset]
    decide

end PowerOn

/-! ### Pool initialisation (R13) -/

section Initialisation

variable {s : State}

theorem finOf?_val {n : Nat} (f : Fin n) : finOf? n f.val = some f := by
  simp [finOf?]

theorem execPoolInitAppend_due {f : FrameId} (out : s.heldInReset = none) (init : s.mapUnit.initInProgress = true)
    (next : s.mapUnit.initNext = f.val) : execPoolInitAppend s = .next (s.appendFrame f) := by
  simp [execPoolInitAppend, next, finOf?_val, out, init]

theorem execPoolInitComplete_due (out : s.heldInReset = none) (init : s.mapUnit.initInProgress = true)
    (all : s.mapUnit.initNext = 4096) : execPoolInitComplete s = .next s.completeInit :=
  takeStep_due (by simp [out, init, all]) _

/-- R165: without a current command the command unit becomes ready. -/
theorem commandsReady_waiting (idle : s.command.current = none) (waits : s.command.execution = .waitingForInit) :
    s.commandsReady = s.setCommand { s.command with execution := .ready } := by
  simp [State.commandsReady, idle, waits]

/-- R169: a RESTART ALL that waited is answered. -/
theorem commandsReady_restart {m : Message} {rest : List Message} {n : Nat}
    (current : s.command.current = some ⟨.restart .all, .initialising n⟩) (queue : s.command.queue = m :: rest) :
    s.commandsReady = s.answered m rest [0x00, 0x01, byteOf n] := by
  simp only [State.commandsReady, current]
  exact produceReply_answered queue _

/-- Settles O15. -/
theorem poolInitialisationFillsTheQueue : Obligations.PoolInitialisationFillsTheQueue := by
  refine ⟨fun s f out init next => ?_, fun s out init all => ⟨fun idle waits => ?_, fun m rest n current queue => ?_⟩⟩
  · refine (execPoolInitAppend_due out init next).trans ?_
    rw [State.appendFrame, next]
    rfl
  · refine (execPoolInitComplete_due out init all).trans ?_
    exact congrArg _ (commandsReady_waiting (by exact idle) (by exact waits))
  · refine (execPoolInitComplete_due out init all).trans ?_
    exact congrArg _ (commandsReady_restart (by exact current) (by exact queue))

end Initialisation

/-! ### Answers of the queries (R171) -/

section Queries

variable {s : State} {m : Message} {rest : List Message}

/-- A field's code is its place in the list of its values (12.7), and FFh where the field is absent (R171). -/
theorem optionByte_eq_codeIn {α : Type} [DecidableEq α] {code : α → Byte} {values : List α}
    (h : ∀ x, code x = codeIn values (some x)) (o : Option α) : optionByte code o = codeIn values o := by
  cases o with
  | none => rfl
  | some x => exact h x

theorem boolCode_eq (b : Bool) : boolCode b = codeIn [false, true] (some b) := by cases b <;> rfl
theorem accessCode_eq (a : Access) : accessCode a = codeIn [.readWrite, .readOnly] (some a) := by cases a <;> rfl
theorem frameStateCode_eq (x : FrameState) : frameStateCode x = codeIn [.free, .bound] (some x) := by cases x <;> rfl
theorem modeCode_eq (x : SegmentMode) : modeCode x = codeIn [.once, .loop] (some x) := by cases x <;> rfl
theorem directionCode_eq (x : Direction) : directionCode x = codeIn [.capture, .replay] (some x) := by cases x <;> rfl
theorem faultPolicyCode_eq (x : FaultPolicy) : faultPolicyCode x = codeIn [.allocate, .host, .skip] (some x) := by
  cases x <;> rfl
theorem releasePolicyCode_eq (x : ReleasePolicy) : releasePolicyCode x = codeIn [.keep, .release] (some x) := by
  cases x <;> rfl
theorem slotCode_eq (x : SlotName) : slotCode x = codeIn [.a, .b] (some x) := by cases x <;> rfl
theorem faultReasonCode_eq (x : FaultReason) : faultReasonCode x = codeIn [.absent, .poolEmpty] (some x) := by
  cases x <;> rfl
theorem endReasonCode_eq (x : EndReason) :
    endReasonCode x = codeIn [.completed, .starved, .stopped, .aborted, .failed] (some x) := by cases x <;> rfl
theorem streamStateCode_eq (x : StreamState) :
    streamStateCode x =
      codeIn [.idle, .ready, .running, .paused, .waitFault, .waitData, .stopping, .done, .failed] (some x) := by
  cases x <;> rfl
theorem streamCode_eq : ∀ i : StreamId, byteOf i.val = codeIn [0, 1, 2, 3, 4, 5, 6, 7] (some i) := by decide
theorem portCode_eq : ∀ p : PortId, byteOf p.val = codeIn [0, 1, 2, 3] (some p) := by decide

theorem optionByte_map {α β : Type} [DecidableEq β] {code : β → Byte} {values : List β}
    (h : ∀ y, code y = codeIn values (some y)) (g : α → β) (o : Option α) :
    optionByte (fun x => code (g x)) o = codeIn values (o.map g) := by
  cases o with
  | none => rfl
  | some x => exact h (g x)

/-- A number of two bytes, FFFFh where it is absent (R171). -/
theorem option16_eq {α : Type} (number : α → Nat) (o : Option α) :
    option16 number o = ((o.map number).map fun n => [byteOf n, byteOf (n / 256)]).getD [0xFF, 0xFF] := by
  cases o <;> rfl

theorem pagesFrom_eq_map {first : VPage} {count : Nat} (inside : first.val + count ≤ 512) :
    pagesFrom first count = (List.range count).map fun k => Fin.ofNat 512 (first.val + k) := by
  have all : ∀ k ∈ List.range count, finOf? 512 (first.val + k) = some (Fin.ofNat 512 (first.val + k)) := by
    intro k hk
    have below : first.val + k < 512 := by
      have := List.mem_range.mp hk
      omega
    simp [finOf?, below, Fin.ext_iff, Nat.mod_eq_of_lt below]
  rw [pagesFrom, List.filterMap_congr all, List.filterMap_eq_map']

theorem pagesFrom_length {first : VPage} {count : Nat} (inside : first.val + count ≤ 512) :
    (pagesFrom first count).length = count := by
  rw [pagesFrom_eq_map inside, List.length_map, List.length_range]

theorem exec_hello (h : s.Handed .hello m rest) : exec .hello s = .next (s.answered m rest helloPayload) := by
  have due : s.isAt .hello .handed = true := (isAt_iff _).mpr h.current
  rw [← produceReply_answered h.queue]
  exact takeStep_due due fun s => s.produceReply helloPayload

/-- The answer of a claim that the map unit has taken. -/
theorem claimTaken_answers {command : HostCommand} (h : s.Handed command m rest) (payload : List Byte) :
    s.claimTaken.produceReply payload = s.claimTaken.answered m rest payload :=
  produceReply_answered (s := s.claimTaken) h.queue payload

theorem claimTaken_refuses {command : HostCommand} (h : s.Handed command m rest) (status : Status) :
    s.claimTaken.refuse status = s.claimTaken.answered m rest [statusCode status] :=
  refuse_answered (s := s.claimTaken) h.queue status

theorem exec_queryMap {i : StreamId} {first : VPage} {count : Nat} (h : s.AtMapUnit (.queryMap i first count) m rest) :
    exec (.queryMap i first count) s = .next
      (s.claimTaken.answered m rest
        (queryMapPayload i first ((pagesFrom first count).map fun v => s.entry i v))) :=
  (takeHostClaim_at h fun s =>
    s.produceReply (queryMapPayload i first ((pagesFrom first count).map fun v => s.entry i v))).trans
    (congrArg _ (claimTaken_answers h.toHanded _))

theorem exec_queryFrame {f : FrameId} (h : s.AtMapUnit (.queryFrame f) m rest) :
    exec (.queryFrame f) s = .next
      (s.claimTaken.answered m rest (queryFramePayload f (s.frame f) (s.queuePosition f))) :=
  (takeHostClaim_at h fun s => s.produceReply (queryFramePayload f (s.frame f) (s.queuePosition f))).trans
    (congrArg _ (claimTaken_answers h.toHanded _))

theorem exec_poolStatus (h : s.AtMapUnit .poolStatus m rest) :
    exec .poolStatus s = .next
      (s.claimTaken.answered m rest
        (poolStatusPayload s.mapUnit.freeQueue.length s.boundCount s.mapUnit.lowMark s.mapUnit.lowArmed
          s.mapUnit.initInProgress s.mapUnit.waiters)) :=
  (takeHostClaim_at h fun s =>
    s.produceReply (poolStatusPayload s.mapUnit.freeQueue.length s.boundCount s.mapUnit.lowMark s.mapUnit.lowArmed
      s.mapUnit.initInProgress s.mapUnit.waiters)).trans
    (congrArg _ (claimTaken_answers h.toHanded _))

theorem exec_queryStream {i : StreamId} (h : s.AtEngine i (.queryStream i) m rest) :
    exec (.queryStream i) s = .next
      (s.answered m rest
        (queryStreamPayload i (s.engine i) (s.portOf i) (s.burstInFlight (requesterOf i)))) :=
  (takeStep_due (commandDue_at h) fun s =>
    s.produceReply (queryStreamPayload i (s.engine i) (s.portOf i) (s.burstInFlight (requesterOf i)))).trans
    (congrArg _ (produceReply_answered h.queue _))

/-- R19: the place of a frame in the queue is given for a FREE frame. -/
theorem queuePosition_eq (f : FrameId) :
    s.queuePosition f = if (s.frame f).state = .free then s.mapUnit.freeQueue.idxOf? f else none := by
  unfold State.queuePosition
  cases (s.frame f).state <;> rfl

/-- Settles O23: each payload is the manual's bytes, code by code. -/
theorem queriesOnlyAnswer : Obligations.QueriesOnlyAnswer := by
  refine ⟨fun s m rest h => exec_hello h, fun s m rest => ⟨fun i first count h inside => ?_, fun f h => ?_, fun h => ?_,
    fun i h => ?_⟩⟩
  · rw [exec_queryMap h]
    simp only [queryMapPayload, List.length_map, pagesFrom_length inside, List.flatMap_map]
    congr 3
    refine List.flatMap_congr fun v _ => ?_
    cases s.entry i v with
    | none => rfl
    | some e => simp only [mapEntryBytes, accessCode_eq]; rfl
  · rw [exec_queryFrame h]
    simp only [queryFramePayload, frameStateCode_eq, boolCode_eq, optionByte_eq_codeIn streamCode_eq, option16_eq,
      queuePosition_eq, Option.map_id_fun', id_eq]
    rfl
  · rw [exec_poolStatus h]
    simp only [poolStatusPayload, boolCode_eq, h.pool]
    rfl
  · rw [exec_queryStream h]
    intro e port slot cached
    have slots : slotBytes = slot := by
      funext held
      cases held with
      | none => rfl
      | some x => simp only [slotBytes, modeCode_eq, boolCode_eq]; rfl
    have entries : cacheEntryBytes = cached := by
      funext held
      cases held with
      | none => rfl
      | some x => simp only [cacheEntryBytes, accessCode_eq]; rfl
    refine congrArg (fun payload => Host.Outcome.next (s.answered m rest payload)) ?_
    unfold queryStreamPayload
    rw [slots, entries, optionByte_map boolCode_eq, optionByte_map faultReasonCode_eq]
    simp only [streamStateCode_eq, boolCode_eq, option16_eq, Option.map_id_fun', id_eq,
      optionByte_eq_codeIn directionCode_eq, optionByte_eq_codeIn portCode_eq, optionByte_eq_codeIn faultPolicyCode_eq,
      optionByte_eq_codeIn releasePolicyCode_eq, optionByte_eq_codeIn slotCode_eq, optionByte_eq_codeIn endReasonCode_eq]
    rfl

end Queries

end Sys2Proof.Proofs

namespace Sys2Proof.Proofs

open Sys2Proof.Machine Sys2Proof.Laws

/-! ### SET_POOL_MARK (R17) -/

section Mark

variable {s : State} {m : Message} {rest : List Message}

/-- R16: an issue that leaves the free count below an armed mark posts POOL_LOW. -/
theorem lowMarkCheck_below (below : s.mapUnit.freeQueue.length < s.mapUnit.lowMark) (armed : s.mapUnit.lowArmed = true) :
    s.lowMarkCheck =
      (s.setLowArmed false).post none (.poolLow s.mapUnit.freeQueue.length s.mapUnit.lowMark) :=
  if_pos ⟨below, armed⟩

/-- R160: a SET_POOL_MARK above 4096 is refused as it is read. -/
theorem readCommand_mark_above {tag lo hi : Byte} (above : 4096 < lo.toNat + 256 * hi.toNat) :
    readCommand ⟨0x1A, tag, [lo, hi]⟩ = .error .badField := by
  have read : readFields 0x1A [lo, hi] = some (.setPoolMark (lo.toNat + 256 * hi.toNat)) := rfl
  have outside : commandFieldsOk (.setPoolMark (lo.toNat + 256 * hi.toNat)) = false :=
    decide_eq_false (by omega)
  simp only [readCommand]
  simp [lengthRule?, LengthRule.accepts, read, outside]

theorem exec_commandTake_refused {status : Status} (out : s.heldInReset = none) (ready : s.command.execution = .ready)
    (queue : s.command.queue = m :: rest) (read : readCommand m = .error status) :
    exec .commandTake s = .next (s.answered m rest [statusCode status]) := by
  have due : s.takesCommand = true := by simp [State.takesCommand, out, ready, queue]
  refine (takeStep_due due State.takeCommand).trans (congrArg _ ?_)
  simp only [State.takeCommand, queue, read]
  exact refuse_answered queue status

/-- Settles O26. -/
theorem setPoolMarkReplacesTheMark : Obligations.SetPoolMarkReplacesTheMark := by
  refine ⟨fun s m rest mark h => ?_, fun s rest tag lo hi out ready queue above =>
    exec_commandTake_refused out ready queue (readCommand_mark_above above), fun s f writer armed below => ?_⟩
  · refine (takeHostClaim_at h fun s =>
      (s.setMapUnit { s.mapUnit with lowMark := mark, lowArmed := true }).produceReply
        (pairPayload mark s.mapUnit.freeQueue.length)).trans (congrArg _ ?_)
    exact produceReply_answered (by exact h.queue) _
  · have issued : s.issueFromQueue f writer = _ := lowMarkCheck_below
      (s := (s.setFreeQueue (s.mapUnit.freeQueue.erase f)).issue f writer) below armed
    rw [issued]
    exact ⟨rfl, rfl⟩

end Mark

/-! ### SEAL (R140) and the fill report (R96) -/

section Fills

variable {s : State} {m : Message} {rest : List Message} {i : StreamId} {v : VPage} {f : FrameId}

theorem exec_sealPage (h : s.AtMapUnit (.sealPage i v) m rest) :
    exec (.sealPage i v) s = .next (s.claimTaken.sealCommand i v) :=
  takeHostClaim_at h fun s => s.sealCommand i v

/-- R5: a sealed frame stays as it is. -/
theorem sealFrame_sealed (closed : (s.frame f).isSealed = true) : s.sealFrame f = s := if_pos closed

/-- R5: an unsealed frame is sealed, its writer cleared, and its readers signalled. -/
theorem sealFrame_unsealed (opened : (s.frame f).isSealed = false) :
    s.sealFrame f = (s.setFrame f { s.frame f with isSealed := true, writer := none }).signal f :=
  if_neg (by simp [opened])

/-- Settles O46. -/
theorem sealClosesTheFrame : Obligations.SealClosesTheFrame := by
  intro s m rest i v h
  refine ⟨fun absent => ?_, fun f access present =>
    ⟨fun written => ?_, fun unwritten => ⟨fun closed => ?_, fun opened => ?_⟩⟩⟩ <;>
    rw [exec_sealPage h] <;> refine congrArg _ ?_ <;> unfold State.sealCommand
  · rw [entry_claimTaken, absent]
    exact claimTaken_refuses h.toHanded _
  · have writer : (s.claimTaken.frame f).writer.isSome = true := Option.isSome_iff_ne_none.mpr written
    simp only [entry_claimTaken, present, writer, if_true]
    exact claimTaken_refuses h.toHanded _
  · simp only [entry_claimTaken, present, frame_claimTaken, unwritten, Option.isSome_none, Bool.false_eq_true, if_false,
      sealFrame_sealed (s := s.claimTaken) closed, closed]
    exact claimTaken_answers h.toHanded _
  · have kept : { s.frame f with isSealed := true } = { s.frame f with isSealed := true, writer := none } := by
      rw [← unwritten]
    simp only [entry_claimTaken, present, frame_claimTaken, unwritten, Option.isSome_none, Bool.false_eq_true, if_false,
      sealFrame_unsealed (s := s.claimTaken) opened, opened]
    exact produceReply_answered (s := (s.claimTaken.setFrame f _).signal f) h.queue _

/-- R4: a fill that rises is told to the readers of the frame. -/
theorem setFill_rose {n : Nat} (rose : (s.frame f).fill < n) :
    s.setFill f n = (s.setFrame f { s.frame f with fill := n }).signal f := by
  simp [State.setFill, rose]

theorem setFill_not_rose {n : Nat} (same : n ≤ (s.frame f).fill) :
    s.setFill f n = s.setFrame f { s.frame f with fill := n } := by
  simp [State.setFill, Nat.not_lt.mpr same]

theorem exec_fillReport {offset : Nat} {claims : List Claim} (h : s.ClaimNext i (.fillReport f offset) claims) :
    exec (.fillReport i) s = .next (s.claimTaken.setFill f offset) := by
  show execFillReport i s = _
  rw [execFillReport, takeEngineClaim_next h]
  rfl

/-- Settles O53. -/
theorem fillReportSignalsTheReaders : Obligations.FillReportSignalsTheReaders := by
  intro s i f offset claims h
  refine ⟨fun rose => ?_, fun same => ?_, fun j => ?_⟩
  · rw [exec_fillReport h, setFill_rose (s := s.claimTaken) rose]
    rfl
  · rw [exec_fillReport h, setFill_not_rose (s := s.claimTaken) same]
    rfl
  · exact signal_engine f j

end Fills

/-! ### MAP (R26, R27) -/

section Map

variable {s : State} {m : Message} {rest : List Message} {i : StreamId} {v : VPage} {f : FrameId}

theorem exec_map {access : Access} {asked : Option FrameId} (h : s.AtMapUnit (.map i access v asked) m rest) :
    exec (.map i access v asked) s = .next (s.claimTaken.mapPage i access v asked) :=
  takeHostClaim_at h fun s => s.mapPage i access v asked

/-- R28: a stream that waits with reason ABSENT at no page of the range is not retried. -/
theorem retry_elsewhere {first : VPage} {count : Nat}
    (elsewhere : (s.engine i).state = .waitFault →
      ∀ u, inPageRange first count u = true → (s.engine i).faultRecord ≠ some ⟨u, .absent⟩) :
    s.retry i first count = s := by
  unfold State.retry
  split
  · rename_i u state record
    rw [if_neg fun inside => elsewhere state u inside record]
  · rfl

theorem inPageRange_one {u : VPage} : inPageRange v 1 u = true ↔ u = v := by
  simp only [inPageRange, Bool.and_eq_true, decide_eq_true_eq, Fin.ext_iff]
  omega

/-- An absent entry, and a frame that the pool can issue: the head of the queue or the FREE frame named. -/
theorem mapPage_issues {access : Access} {asked : Option FrameId} (absent : s.entry i v = none)
    (free : asked = none ∧ s.mapUnit.freeQueue.head? = some f ∨ asked = some f ∧ (s.frame f).state = .free) :
    s.mapPage i access v asked = s.mapFrame i access v f := by
  unfold State.mapPage
  rcases free with ⟨rfl, head⟩ | ⟨rfl, free⟩
  · obtain ⟨others, queue⟩ := List.head?_eq_some_iff.mp head
    simp [absent, queue]
  · simp [absent, free]

/-- Settles O27. -/
theorem mapIssuesTheFrameOrIsRefused : Obligations.MapIssuesTheFrameOrIsRefused := by
  refine ⟨fun s m rest i access v asked f h absent elsewhere free => ?_, fun s m rest i access v asked h =>
    ⟨fun e present => ?_, fun absent any empty => ?_, fun f absent named bound => ?_⟩⟩
  · intro queue generation mapped checked
    have issued : (s.claimTaken.issueFromQueue f none).setEntry i v (some ⟨f, access⟩) = checked := by
      unfold State.issueFromQueue State.lowMarkCheck
      exact apply_ite (fun u : State => u.setEntry i v (some ⟨f, access⟩)) _ _ _
    have engines : checked.engine i = s.engine i := by
      rw [← issued]
      simp [State.issueFromQueue, State.issue]
    have record : (checked.frame f).generation = generation := by
      rw [← issued]
      simp [State.issueFromQueue, State.issue, FrameRecord.renewed, generation]
    have command : checked.command.queue = m :: rest := by
      rw [← issued]
      simpa [State.issueFromQueue, State.issue] using h.queue
    rw [exec_map h, mapPage_issues (s := s.claimTaken) (by exact absent) (by exact free)]
    simp only [State.mapFrame, issued]
    rw [retry_elsewhere, record]
    · exact congrArg _ (produceReply_answered command _)
    · rw [engines]
      intro state u inside
      rw [inPageRange_one.mp inside]
      exact elsewhere state
  · have refused : s.claimTaken.mapPage i access v asked = s.claimTaken.refuse .exists_ := by
      simp [State.mapPage, present]
    rw [exec_map h, refused, claimTaken_refuses h.toHanded]
    rfl
  · have refused : s.claimTaken.mapPage i access v asked = s.claimTaken.refuse .poolEmpty := by
      simp [State.mapPage, absent, any, empty]
    rw [exec_map h, refused, claimTaken_refuses h.toHanded]
    rfl
  · have refused : s.claimTaken.mapPage i access v asked = s.claimTaken.refuse .frameTaken := by
      simp [State.mapPage, absent, named, bound]
    rw [exec_map h, refused, claimTaken_refuses h.toHanded]
    rfl

end Map

end Sys2Proof.Proofs

namespace Sys2Proof.Proofs

open Sys2Proof.Machine Sys2Proof.Laws

/-! ### UNMAP (R32) -/

section Unmap

variable {s : State} {m : Message} {rest : List Message} {i : StreamId} {v : VPage} {f : FrameId}

theorem exec_unmap {first : VPage} {count : Nat} (h : s.AtMapUnit (.unmap i first count) m rest) :
    exec (.unmap i first count) s = .next (s.claimTaken.unmapRange i first count) :=
  takeHostClaim_at h fun s => s.unmapRange i first count

/-- R24: a purge that is not refused for a range is refused for none of its pages. -/
theorem purgeInUse_page {e : Engine} {first : VPage} {count : Nat} (idle : e.purgeInUse first count = false) {u : VPage}
    (inside : u ∈ pagesFrom first count) : e.purgeInUse u 1 = false := by
  obtain ⟨low, high⟩ := mem_pagesFrom.mp inside
  by_contra used
  simp only [Engine.purgeInUse, Bool.not_eq_false, Bool.and_eq_true] at used idle
  obtain ⟨active, page⟩ := used
  rw [active, Bool.true_and] at idle
  cases current : e.currentPage with
  | none => simp [current] at page
  | some c =>
    simp only [current, inPageRange_one] at page idle
    subst page
    simp [inPageRange, Fin.le_def.mp low, high] at idle

/-- The purge of an UNMAP touches no page and no state. -/
theorem purgeInUse_purge {first u : VPage} {count n : Nat} :
    ((s.purge i first count).engine i).purgeInUse u n = (s.engine i).purgeInUse u n := by
  simp [State.purge, Engine.purgeInUse]

/-- R32: an UNMAP that is not refused releases its pages and answers with both counts. -/
theorem exec_unmap_released {first : VPage} {count : Nat} (h : s.AtMapUnit (.unmap i first count) m rest)
    (idle : (s.engine i).purgeInUse first count = false) :
    exec (.unmap i first count) s = .next
      (let r := (s.claimTaken.purge i first count).releasePages i (pagesFrom first count)
       r.state.answered m rest (pairPayload r.entries r.frames)) := by
  have command : ((s.claimTaken.purge i first count).releasePages i (pagesFrom first count)).state.command.queue =
      m :: rest := by
    rw [(inner_releasePages _ i _).command]
    exact h.queue
  rw [exec_unmap h, State.unmapRange, if_neg (by simp [idle])]
  exact congrArg _ (produceReply_answered command _)

theorem pagesFrom_one : pagesFrom v 1 = [v] := by
  simp [pagesFrom, List.range_succ, finOf?]

theorem releasePages_absent {others : List VPage} (absent : s.entry i v = none) :
    s.releasePages i (v :: others) = s.releasePages i others := by
  simp only [State.releasePages, absent]

theorem releasePages_present {others : List VPage} {e : MapEntry} (present : s.entry i v = some e)
    (idle : (s.engine i).purgeInUse v 1 = false) :
    s.releasePages i (v :: others) =
      (let r := ((s.setEntry i v none).release e.frame).releasePages i others
       ⟨r.state, r.entries + 1, r.frames + if (s.frame e.frame).refcount - 1 = 0 then 1 else 0⟩) := by
  simp only [State.releasePages, present, idle]
  rfl

/-- A page that a hand-off has made current is passed over (log entry 30). -/
theorem releasePages_in_use {others : List VPage} (used : (s.engine i).purgeInUse v 1 = true) :
    s.releasePages i (v :: others) = s.releasePages i others := by
  simp only [State.releasePages, used, if_true]
  split <;> rfl

/-! ### A release with no waiter does not read the engines -/

/-- R11, R16: a frame that brings the free queue to its low mark arms the notification. -/
theorem returnToQueue_marked (mark : s.mapUnit.lowMark ≤ (s.mapUnit.freeQueue ++ [f]).length) :
    s.returnToQueue f =
      ((s.setFrame f { s.frame f with state := .free, writer := none }).setFreeQueue
        (s.mapUnit.freeQueue ++ [f])).setLowArmed true :=
  if_pos mark

theorem returnToQueue_below (below : ¬ s.mapUnit.lowMark ≤ (s.mapUnit.freeQueue ++ [f]).length) :
    s.returnToQueue f =
      (s.setFrame f { s.frame f with state := .free, writer := none }).setFreeQueue (s.mapUnit.freeQueue ++ [f]) :=
  if_neg below

theorem returnToQueue_setEngine (j : StreamId) (e : Engine) :
    (s.setEngine j e).returnToQueue f = (s.returnToQueue f).setEngine j e := by
  by_cases mark : s.mapUnit.lowMark ≤ (s.mapUnit.freeQueue ++ [f]).length
  · rw [returnToQueue_marked mark, returnToQueue_marked (s := s.setEngine j e) mark]
    rfl
  · rw [returnToQueue_below mark, returnToQueue_below (s := s.setEngine j e) mark]
    rfl

/-- R38: a release that is not the last only counts down. -/
theorem release_counted (more : (s.frame f).refcount - 1 ≠ 0) :
    s.release f = s.setFrame f { s.frame f with refcount := (s.frame f).refcount - 1 } := by
  rw [State.release, frame_setFrame_self]
  exact if_neg more

/-- R38, R40: the last release of a frame that no stream waits for returns it to the free queue. -/
theorem release_last (nobody : s.mapUnit.waiters = []) (last : (s.frame f).refcount - 1 = 0) :
    s.release f =
      (s.setFrame f { s.frame f with refcount := (s.frame f).refcount - 1 }).returnToQueue f := by
  have waiters : (s.setFrame f { s.frame f with refcount := (s.frame f).refcount - 1 }).mapUnit.waiters = [] := nobody
  rw [State.release, frame_setFrame_self, waiters]
  exact if_pos last

theorem waiters_returnToQueue : (s.returnToQueue f).mapUnit.waiters = s.mapUnit.waiters := by
  by_cases mark : s.mapUnit.lowMark ≤ (s.mapUnit.freeQueue ++ [f]).length
  · rw [returnToQueue_marked mark]
    rfl
  · rw [returnToQueue_below mark]
    rfl

theorem engine_returnToQueue (j : StreamId) : (s.returnToQueue f).engine j = s.engine j := by
  by_cases mark : s.mapUnit.lowMark ≤ (s.mapUnit.freeQueue ++ [f]).length
  · rw [returnToQueue_marked mark]
    rfl
  · rw [returnToQueue_below mark]
    rfl

theorem waiters_release (nobody : s.mapUnit.waiters = []) : (s.release f).mapUnit.waiters = [] := by
  by_cases last : (s.frame f).refcount - 1 = 0
  · rw [release_last nobody last, waiters_returnToQueue]
    exact nobody
  · rw [release_counted last]
    exact nobody

theorem engine_release (nobody : s.mapUnit.waiters = []) (j : StreamId) : (s.release f).engine j = s.engine j := by
  by_cases last : (s.frame f).refcount - 1 = 0
  · rw [release_last nobody last, engine_returnToQueue]
    rfl
  · rw [release_counted last]
    rfl

theorem release_setEngine (nobody : s.mapUnit.waiters = []) (j : StreamId) (e : Engine) :
    (s.setEngine j e).release f = (s.release f).setEngine j e := by
  by_cases last : (s.frame f).refcount - 1 = 0
  · rw [release_last nobody last, release_last (s := s.setEngine j e) nobody last, ← returnToQueue_setEngine]
    rfl
  · rw [release_counted last, release_counted (s := s.setEngine j e) last]
    rfl

theorem releasePages_setEngine (nobody : s.mapUnit.waiters = []) {e : Engine} (vs : List VPage)
    (idle : ∀ u ∈ vs, (s.engine i).purgeInUse u 1 = false) (idle_e : ∀ u ∈ vs, e.purgeInUse u 1 = false) :
    (s.setEngine i e).releasePages i vs =
      (let r := s.releasePages i vs
       ⟨r.state.setEngine i e, r.entries, r.frames⟩) := by
  induction vs generalizing s with
  | nil => rfl
  | cons v others ih =>
    have later := fun u hu => idle u (List.mem_cons_of_mem _ hu)
    have later_e := fun u hu => idle_e u (List.mem_cons_of_mem _ hu)
    cases present : s.entry i v with
    | none =>
      rw [releasePages_absent present, releasePages_absent (s := s.setEngine i e) present]
      exact ih nobody later later_e
    | some x =>
      have t_nobody : ((s.setEntry i v none).release x.frame).mapUnit.waiters = [] :=
        waiters_release (s := s.setEntry i v none) nobody
      have t_engine : ((s.setEntry i v none).release x.frame).engine i = s.engine i :=
        engine_release (s := s.setEntry i v none) nobody i
      rw [releasePages_present present (idle v (List.mem_cons_self ..)),
        releasePages_present (s := s.setEngine i e) present
          (by rw [engine_setEngine_self]; exact idle_e v (List.mem_cons_self ..))]
      have moved : ((s.setEngine i e).setEntry i v none).release x.frame =
          ((s.setEntry i v none).release x.frame).setEngine i e :=
        release_setEngine (s := s.setEntry i v none) nobody i e
      rw [moved, ih t_nobody (by rwa [t_engine]) later_e]
      rfl

/-- R32, R38: what the release of pages comes to where no stream waits, whatever page is current outside them. -/
theorem releasePages_nobody (vs : List VPage) (distinct : vs.Nodup)
    (idle : ∀ v ∈ vs, (s.engine i).purgeInUse v 1 = false) (apart : (namedFrames s i vs).Nodup)
    (held : ∀ f ∈ namedFrames s i vs, 1 ≤ (s.frame f).refcount) (nobody : s.mapUnit.waiters = []) :
    let freed := (namedFrames s i vs).filter fun f => (s.frame f).refcount == 1
    let queue := s.mapUnit.freeQueue ++ freed
    let r := s.releasePages i vs
    r.entries = (namedFrames s i vs).length ∧ r.frames = freed.length ∧
      r.state =
        s.setMapUnit
          { s.mapUnit with
            maps := r.state.mapUnit.maps, frames := r.state.mapUnit.frames, freeQueue := queue
            lowArmed := s.mapUnit.lowArmed || (!freed.isEmpty && s.mapUnit.lowMark ≤ queue.length) } ∧
      (∀ v ∈ vs, r.state.entry i v = none) ∧
      (∀ j v, (j ≠ i ∨ v ∉ vs) → r.state.entry j v = s.entry j v) ∧
      (∀ f ∈ namedFrames s i vs, r.state.frame f =
        if (s.frame f).refcount = 1 then { s.frame f with refcount := 0, state := .free, writer := none }
        else { s.frame f with refcount := (s.frame f).refcount - 1 }) ∧
      ∀ f ∉ namedFrames s i vs, r.state.frame f = s.frame f := by
  have idle_reset : ∀ u, Engine.reset.purgeInUse u 1 = false := fun _ => rfl
  have back : s = (s.setEngine i Engine.reset).setEngine i (s.engine i) := by
    simp [State.setEngine, State.engine]
  have same : s.releasePages i vs =
      (let r := (s.setEngine i Engine.reset).releasePages i vs
       ⟨r.state.setEngine i (s.engine i), r.entries, r.frames⟩) := by
    conv_lhs => rw [back]
    exact releasePages_setEngine (s := s.setEngine i Engine.reset) nobody vs
      (fun u _ => by rw [engine_setEngine_self]; exact idle_reset u) idle
  obtain ⟨entries, frames, state, rest⟩ := releasePages_returned (s := s.setEngine i Engine.reset) vs distinct
    (fun u => by rw [engine_setEngine_self]; exact idle_reset u) apart held (.inl nobody)
  rw [same]
  refine ⟨entries, frames, ?_, rest⟩
  dsimp only at state ⊢
  rw [state]
  have one_engine : ∀ u : MapUnit,
      ((s.setEngine i Engine.reset).setMapUnit u).setEngine i (s.engine i) = s.setMapUnit u := fun u => by
    simp [State.setEngine, State.engine, State.setMapUnit]
  exact one_engine _

/-- The effect of an UNMAP of one page, of an entry that it makes absent. -/
theorem exec_unmap_one {e : MapEntry} (h : s.AtMapUnit (.unmap i v 1) m rest)
    (idle : (s.engine i).purgeInUse v 1 = false) (present : s.entry i v = some e) :
    exec (.unmap i v 1) s = .next
      ((((s.claimTaken.purge i v 1).setEntry i v none).release e.frame).answered m rest
        [0x00, 0x01, 0x00, byteOf (if (s.frame e.frame).refcount - 1 = 0 then 1 else 0), 0x00]) := by
  rw [exec_unmap_released h idle, pagesFrom_one,
    releasePages_present (s := s.claimTaken.purge i v 1) present (by rw [purgeInUse_purge]; exact idle)]
  refine congrArg (fun payload => Host.Outcome.next (State.answered _ m rest payload)) ?_
  by_cases last : (s.frame e.frame).refcount - 1 = 0 <;>
    simp [State.releasePages, last, pairPayload, le16, byteOf, statusCode]

/-- Settles O30. -/
theorem unmapReleasesThePage : Obligations.UnmapReleasesThePage := by
  refine ⟨fun s m rest i v h idle => ⟨fun absent => ?_, fun f access present =>
    ⟨fun n more => ?_, fun one nobody => ?_⟩⟩, fun s m rest i first count h idle inside nobody => ?_⟩
  · rw [exec_unmap_released h idle, pagesFrom_one, releasePages_absent (s := s.claimTaken.purge i v 1) absent]
    simp only [State.releasePages]
    rfl
  · rw [exec_unmap_one h idle present,
      release_shared (s := (s.claimTaken.purge i v 1).setEntry i v none) (f := f) (n := n) more]
    simp only [more]
    rfl
  · rw [exec_unmap_one h idle present,
      release_returned (s := (s.claimTaken.purge i v 1).setEntry i v none) (f := f) one nobody]
    simp only [one]
    rfl
  · intro named freed queue apart held
    have pages_idle : ∀ u ∈ pagesFrom first count,
        ((s.claimTaken.purge i first count).engine i).purgeInUse u 1 = false := fun u hu => by
      rw [purgeInUse_purge]
      exact purgeInUse_page idle hu
    obtain ⟨entries, frames, state, absent, kept, lost, others⟩ :=
      releasePages_nobody (s := s.claimTaken.purge i first count) (pagesFrom first count) (pagesFrom_nodup ..) pages_idle
        apart held nobody
    refine ⟨_, exec_unmap_released h idle, ?_, fun v low high => absent v (mem_pagesFrom.mpr ⟨low, high⟩),
      fun j v outside => kept j v (outside.imp_right fun out inside => ?_), lost, others⟩
    · dsimp only
      rw [entries, frames]
      refine congrArg (fun t : State => t.answered m rest (pairPayload named.length freed.length)) state
    · obtain ⟨low, high⟩ := mem_pagesFrom.mp inside
      rcases out with out | out
      · exact absurd (lt_of_lt_of_le out low) (lt_irrefl v)
      · omega

end Unmap

end Sys2Proof.Proofs

namespace Sys2Proof.Proofs

open Sys2Proof.Machine Sys2Proof.Laws

/-! ### A frame brought to refcount 0 is offered to the waiters (R15) -/

section Offer

variable {s : State} {i w : StreamId} {v u : VPage} {f g : FrameId} {access held : Access} {others : List StreamId}

theorem setEngine_engine (s : State) (i : StreamId) : s.setEngine i (s.engine i) = s := by
  simp [State.setEngine, State.engine]

theorem entry_setEntry_elsewhere {j : StreamId} {b : VPage} {e : Option MapEntry} (other : j ≠ w ∨ b ≠ u) :
    (s.setEntry w u e).entry j b = s.entry j b := by
  by_cases stream : w = j
  · subst stream
    exact entry_setEntry_other_page _ _ _ _ _ (other.resolve_left fun h => h rfl).symm
  · exact entry_setEntry_other_stream _ _ _ _ _ _ stream

theorem release_offered (one : (s.frame f).refcount = 1) :
    s.release f = (s.setFrame f { s.frame f with refcount := 0 }).handOff s.mapUnit.waiters f := by
  simp [State.release, one]

/-- The state in which the waiter at the head of the list is decided for. -/
def offering (s : State) (f : FrameId) (others : List StreamId) : State :=
  (s.setFrame f { s.frame f with refcount := 0 }).setWaiters others

theorem hostHold_offering : ((offering s f others).frame g).hostHold = (s.frame g).hostHold := by
  by_cases same : g = f
  · subst same
    simp [offering]
  · simp [offering, frame_setFrame_other _ _ _ _ (Ne.symm same)]

/-- R15, steps 4 and 5: where the oldest waiter is decided for without the frame, the frame is released as if that
waiter had not stood in the list. -/
theorem release_passes {r : FaultRecord} {d : WriteDecision} {t : State} (one : (s.frame f).refcount = 1)
    (waits : s.mapUnit.waiters = w :: others) (live : (s.engine w).restart = .none)
    (record : (s.engine w).faultRecord = some r)
    (decides : (offering s f others).decideWrite w r.vpage (some f) = d) (issues : d.issues = false)
    (settled : (offering s f others).applyWrite w r.vpage true d = t.setFrame f { t.frame f with refcount := 0 })
    (one_t : (t.frame f).refcount = 1) (waits_t : t.mapUnit.waiters = others) :
    s.release f = t.release f := by
  rw [release_offered one, waits,
    handOff_passes (s := s.setFrame f { s.frame f with refcount := 0 }) live record decides issues,
    release_offered one_t, waits_t]
  exact congrArg (fun x : State => x.handOff others f) settled

/-- R166: a waiter that has answered a RESTART leaves the list. -/
theorem release_stopped {answer : Option (FrameId × Nat)} (one : (s.frame f).refcount = 1)
    (waits : s.mapUnit.waiters = w :: others) (stopped : (s.engine w).restart = .answered answer) :
    s.release f = (s.setWaiters others).release f := by
  rw [release_offered one, waits, handOff_stopped (s := s.setFrame f { s.frame f with refcount := 0 }) stopped,
    release_offered (s := s.setWaiters others) one]
  rfl

/-! ### The decisions of R101, line by line -/

variable {next : Option FrameId}

/-- R101, R109: a frame that its stream cannot write in place. -/
def Used (s : State) (g : FrameId) : Prop :=
  ¬ ((s.frame g).isSealed = false ∧ (s.frame g).fill = 0 ∧ (s.frame g).writer = none)

theorem decideWrite_allocate (absent : s.entry w u = none) (policy : (s.engine w).faultPolicy = some .allocate) :
    s.decideWrite w u (some f) = .allocate f := by
  simp [State.decideWrite, policy, absent]

theorem decideWrite_host (absent : s.entry w u = none) (policy : (s.engine w).faultPolicy = some .host) :
    s.decideWrite w u next = .waitAbsent := by
  simp [State.decideWrite, policy, absent]

theorem decideWrite_setAside (present : s.entry w u = some ⟨g, held⟩) (hold : (s.frame g).hostHold = true) :
    s.decideWrite w u next = .setAside := by
  simp [State.decideWrite, present, hold]

theorem decideWrite_fail (present : s.entry w u = some ⟨g, .readOnly⟩) (unheld : (s.frame g).hostHold = false) :
    s.decideWrite w u next = .fail := by
  simp [State.decideWrite, present, unheld]

theorem decideWrite_inPlace (present : s.entry w u = some ⟨g, .readWrite⟩) (unheld : (s.frame g).hostHold = false)
    (fresh : (s.frame g).isSealed = false ∧ (s.frame g).fill = 0 ∧ (s.frame g).writer = none) :
    s.decideWrite w u next = .inPlace g := by
  simp [State.decideWrite, present, unheld, fresh]

/-- The lines of R101 for a used frame under READ_WRITE. -/
theorem decideWrite_used (present : s.entry w u = some ⟨g, .readWrite⟩) (unheld : (s.frame g).hostHold = false)
    (used : Used s g) :
    s.decideWrite w u next =
      if (s.frame g).refcount ≤ 1 then .reuse g else (next.map fun f => .detach g f).getD .waitPool := by
  simp only [State.decideWrite, present, unheld, Bool.false_eq_true, if_false, reduceCtorEq]
  rw [if_neg used]
  cases next <;> rfl

theorem decideWrite_reuse (present : s.entry w u = some ⟨g, .readWrite⟩) (unheld : (s.frame g).hostHold = false)
    (used : Used s g) (alone : (s.frame g).refcount ≤ 1) : s.decideWrite w u next = .reuse g :=
  (decideWrite_used present unheld used).trans (if_pos alone)

theorem decideWrite_detach (present : s.entry w u = some ⟨g, .readWrite⟩) (unheld : (s.frame g).hostHold = false)
    (used : Used s g) (shared : 2 ≤ (s.frame g).refcount) : s.decideWrite w u (some f) = .detach g f :=
  (decideWrite_used present unheld used).trans (if_neg (by omega))

theorem decideWrite_waitPool (present : s.entry w u = some ⟨g, .readWrite⟩) (unheld : (s.frame g).hostHold = false)
    (used : Used s g) (shared : 2 ≤ (s.frame g).refcount) : s.decideWrite w u none = .waitPool :=
  (decideWrite_used present unheld used).trans (if_neg (by omega))

/-! ### A frame handed to the oldest waiter (R15, R102, R104, R105) -/

/-- The cases in which the oldest waiter takes the frame: it is to allocate, or to detach. -/
def Wants (s : State) (w : StreamId) (u : VPage) (f : FrameId) : Prop :=
  s.entry w u = none ∧ (s.engine w).faultPolicy = some .allocate ∨
    ∃ g, s.entry w u = some ⟨g, .readWrite⟩ ∧ g ≠ f ∧ (s.frame g).hostHold = false ∧ Used s g ∧ 2 ≤ (s.frame g).refcount

/-- What a hand-off of the frame `f` to the waiter `w` at page `u` changes, and what it leaves. -/
structure HandedTo (s t : State) (f : FrameId) (w : StreamId) (u : VPage) (others : List StreamId) : Prop where
  named : t.entry w u = some ⟨f, .readWrite⟩
  entries : ∀ j b, (j ≠ w ∨ b ≠ u) → t.entry j b = s.entry j b
  renewed : t.frame f =
    { s.frame f with
      state := .bound, refcount := 1, fill := 0, isSealed := false, generation := (s.frame f).generation + 1
      writer := some w }
  detached : ∀ g held, s.entry w u = some ⟨g, held⟩ → t.frame g = { s.frame g with refcount := (s.frame g).refcount - 1 }
  frames : ∀ g, g ≠ f → (∀ held, s.entry w u ≠ some ⟨g, held⟩) → t.frame g = s.frame g
  mapUnit : t.mapUnit = { s.mapUnit with maps := t.mapUnit.maps, frames := t.mapUnit.frames, waiters := others }
  waiter : t.engine w =
    { s.engine w with
      state := stateGivenFrame (s.engine w).state (s.engine w).endReason
      cache :=
        cacheInstall (if s.entry w u = none then (s.engine w).cache else cacheDrop (s.engine w).cache u 1) u f .readWrite
      currentPage := some ⟨u, f⟩, position := ⟨u, 0⟩, faultRecord := none }
  engines : ∀ j, j ≠ w → t.engine j = s.engine j
  gate : (s.engine w).state = .waitFault → (s.engine w).endReason = none →
    ∀ q, (s.engine w).port = some q → (t.port q).gateOpen = true
  ports : (s.engine w).endReason ≠ none → t.ports = s.ports
  link : t.link = s.link
  command : t.command = s.command

theorem giveFrame_waiting (state : (s.engine w).state = .waitFault) (running : (s.engine w).endReason = none) :
    s.giveFrame w u f access =
      (s.setEngine w
        { s.engine w with
          state := .running, cache := cacheInstall (s.engine w).cache u f access
          currentPage := some ⟨u, f⟩, position := ⟨u, 0⟩, faultRecord := none }).setGate w true := by
  simp [State.giveFrame, State.modEngine, state, running, stateGivenFrame]

theorem giveFrame_gate (state : (s.engine w).state = .waitFault) (running : (s.engine w).endReason = none) {q : PortId}
    (port : (s.engine w).port = some q) :
    (s.giveFrame w u f access).port q = { s.port q with gateOpen := true } := by
  rw [giveFrame_waiting state running, setGate_bound (p := q) (by simpa using port)]
  simp

/-- Where the stream does not leave WAIT_FAULT for RUNNING, its gate stays as it is. -/
theorem giveFrame_kept (otherwise : ¬ ((s.engine w).state = .waitFault ∧ (s.engine w).endReason = none)) :
    s.giveFrame w u f access =
      s.setEngine w
        { s.engine w with
          state := stateGivenFrame (s.engine w).state (s.engine w).endReason
          cache := cacheInstall (s.engine w).cache u f access
          currentPage := some ⟨u, f⟩, position := ⟨u, 0⟩, faultRecord := none } := by
  unfold State.giveFrame
  exact if_neg otherwise

theorem release_issues {r : FaultRecord} {d : WriteDecision} (one : (s.frame f).refcount = 1)
    (waits : s.mapUnit.waiters = w :: others) (live : (s.engine w).restart = .none)
    (record : (s.engine w).faultRecord = some r) (decides : (offering s f others).decideWrite w r.vpage (some f) = d)
    (issues : d.issues = true) : s.release f = (offering s f others).applyWrite w r.vpage true d := by
  rw [release_offered one, waits,
    handOff_issues (s := s.setFrame f { s.frame f with refcount := 0 }) live record decides issues]
  rfl

theorem applyWrite_allocate_handed :
    s.applyWrite w u true (.allocate f) =
      ((s.issue f (some w)).setEntry w u (some ⟨f, .readWrite⟩)).giveFrame w u f .readWrite := rfl

theorem applyWrite_detach_handed :
    s.applyWrite w u true (.detach g f) =
      ((((s.purge w u 1).issue f (some w)).setEntry w u (some ⟨f, .readWrite⟩)).setFrame g
        { ((s.purge w u 1).issue f (some w)).frame g with
          refcount := (((s.purge w u 1).issue f (some w)).frame g).refcount - 1 }).giveFrame w u f .readWrite := rfl

/-- What a decision that gives a frame leaves to its last part, the frame given to the stream (R105). -/
theorem HandedTo.of_giveFrame {x : State} (named : x.entry w u = some ⟨f, .readWrite⟩)
    (entries : ∀ j b, (j ≠ w ∨ b ≠ u) → x.entry j b = s.entry j b)
    (renewed : x.frame f = { (s.frame f).renewed (some w) with state := .bound, refcount := 1 })
    (detached : ∀ g held, s.entry w u = some ⟨g, held⟩ →
      x.frame g = { s.frame g with refcount := (s.frame g).refcount - 1 })
    (frames : ∀ g, g ≠ f → (∀ held, s.entry w u ≠ some ⟨g, held⟩) → x.frame g = s.frame g)
    (mapUnit : x.mapUnit = { s.mapUnit with maps := x.mapUnit.maps, frames := x.mapUnit.frames, waiters := others })
    (waiter : x.engine w =
      { s.engine w with
        cache := if s.entry w u = none then (s.engine w).cache else cacheDrop (s.engine w).cache u 1 })
    (engines : ∀ j, j ≠ w → x.engine j = s.engine j) (ports : x.ports = s.ports) (link : x.link = s.link)
    (command : x.command = s.command) : HandedTo s (x.giveFrame w u f .readWrite) f w u others where
  named := (entry_giveFrame ..).trans named
  entries j b other := (entry_giveFrame ..).trans (entries j b other)
  renewed := (frame_giveFrame ..).trans renewed
  detached g held present := (frame_giveFrame ..).trans (detached g held present)
  frames g other unnamed := (frame_giveFrame ..).trans (frames g other unnamed)
  mapUnit := by rw [giveFrame_mapUnit]; exact mapUnit
  waiter := by rw [giveFrame_engine, waiter]
  engines j other := (giveFrame_engine_other _ _ _ other.symm _ _).trans (engines j other)
  gate state running q port := by
    rw [giveFrame_gate (by rw [waiter]; exact state) (by rw [waiter]; exact running) (by rw [waiter]; exact port)]
  ports ending := by
    rw [giveFrame_kept (by rw [waiter]; exact fun h => ending h.2)]
    exact ports
  link := (giveFrame_link ..).trans link
  command := (giveFrame_command ..).trans command

theorem release_allocates (one : (s.frame f).refcount = 1) (waits : s.mapUnit.waiters = w :: others)
    (live : (s.engine w).restart = .none) (record : (s.engine w).faultRecord = some ⟨u, .poolEmpty⟩)
    (absent : s.entry w u = none) (policy : (s.engine w).faultPolicy = some .allocate) :
    HandedTo s (s.release f) f w u others := by
  have decides : (offering s f others).decideWrite w u (some f) = .allocate f :=
    decideWrite_allocate (s := offering s f others) absent policy
  rw [release_issues one waits live record decides rfl, applyWrite_allocate_handed]
  refine .of_giveFrame (entry_setEntry_self ..) (fun j b other => ?_) ?_ (by simp [absent]) (fun g other _ => ?_) rfl
    (by simp [absent, State.issue, offering]) (fun j _ => rfl) rfl rfl rfl
  · exact (entry_setEntry_elsewhere other).trans rfl
  · simp [State.issue, offering, FrameRecord.renewed]
  · simp [State.issue, offering, frame_setFrame_other _ _ _ _ other.symm]

theorem release_detaches (one : (s.frame f).refcount = 1) (waits : s.mapUnit.waiters = w :: others)
    (live : (s.engine w).restart = .none) (record : (s.engine w).faultRecord = some ⟨u, .poolEmpty⟩)
    (present : s.entry w u = some ⟨g, .readWrite⟩) (apart : g ≠ f) (unheld : (s.frame g).hostHold = false)
    (used : Used s g) (shared : 2 ≤ (s.frame g).refcount) : HandedTo s (s.release f) f w u others := by
  have same : (offering s f others).frame g = s.frame g := frame_setFrame_other _ _ _ _ apart.symm
  have decides : (offering s f others).decideWrite w u (some f) = .detach g f :=
    decideWrite_detach (s := offering s f others) present (by rw [same]; exact unheld)
      (by rw [Used, same]; exact used) (by rw [same]; exact shared)
  rw [release_issues one waits live record decides rfl, applyWrite_detach_handed]
  refine .of_giveFrame (entry_setEntry_self ..) (fun j b other => ?_) ?_ (fun g' held named => ?_) (fun g' other unnamed => ?_)
    rfl (by simp [present, State.purge, State.issue, offering]) (fun j other => ?_) rfl rfl rfl
  · exact (entry_setEntry_elsewhere other).trans rfl
  · rw [frame_setFrame_other _ _ _ _ apart]
    simp [State.issue, offering, FrameRecord.renewed]
  · cases present.symm.trans named
    rw [frame_setFrame_self]
    simp [State.issue, frame_setFrame_other _ _ _ _ apart.symm, same]
  · have other_g : g ≠ g' := fun h => unnamed .readWrite (h ▸ present)
    rw [frame_setFrame_other _ _ _ _ other_g]
    simp [State.issue, offering, frame_setFrame_other _ _ _ _ other.symm]
  · simp [State.issue, offering, State.purge, engine_setEngine_other _ _ _ _ other.symm]

theorem release_handedTo (one : (s.frame f).refcount = 1) (waits : s.mapUnit.waiters = w :: others)
    (live : (s.engine w).restart = .none) (record : (s.engine w).faultRecord = some ⟨u, .poolEmpty⟩)
    (wants : Wants s w u f) : HandedTo s (s.release f) f w u others := by
  rcases wants with ⟨absent, policy⟩ | ⟨g, present, apart, unheld, used, shared⟩
  · exact release_allocates one waits live record absent policy
  · exact release_detaches one waits live record present apart unheld used shared

end Offer

end Sys2Proof.Proofs

namespace Sys2Proof.Proofs

open Sys2Proof.Machine Sys2Proof.Laws

/-! ### The release claim (R117, R118) -/

section ReleaseClaim

variable {s : State} {i w : StreamId} {v u : VPage} {f g : FrameId} {access held : Access} {rest : List Claim}
  {d : Descriptor} {others : List StreamId}

theorem claimTaken_of_next {c : EngineClaim} (h : s.ClaimNext i c rest) : s.claimTaken = s.setClaims rest := by
  rw [State.claimTaken, h.claims]
  rfl

theorem exec_releaseClaim (h : s.ClaimNext i (.release v) rest) :
    exec (.releaseClaim i) s = .next ((s.setClaims rest).takeRelease i v) := by
  show execReleaseClaim i s = _
  rw [execReleaseClaim, takeEngineClaim_next h, claimTaken_of_next h]
  rfl

/-- The engine of a stream whose page `v` is released: no current page, and no cache entry for it (R46, R117). -/
def withoutPage (e : Engine) (v : VPage) : Engine := { e with cache := cacheDrop e.cache v 1, currentPage := none }

/-- R118, step 1: a host hold keeps back the release of a frame that no other entry names. -/
theorem takeRelease_held (present : s.entry i v = some ⟨f, access⟩) (hold : (s.frame f).hostHold = true)
    (one : (s.frame f).refcount = 1) :
    s.takeRelease i v =
      (s.setDeferred (s.mapUnit.deferred ++ [⟨i, .release v⟩])).setEngine i
        { s.engine i with currentPage := none } := by
  have kept : (s.modEngine i fun e => { e with currentPage := none }).releaseHeld i v = true := by
    simp [State.releaseHeld, present, hold, one]
  exact if_pos kept

/-- The state from which a release claim gives the frame of page `v` up: the page is no longer current, nor cached, nor
mapped. -/
def unmapped (s : State) (i : StreamId) (v : VPage) : State :=
  (s.setEngine i (withoutPage (s.engine i) v)).setEntry i v none

/-- R118, steps 2 and 3: any other release is taken at once. -/
theorem takeRelease_taken (present : s.entry i v = some ⟨f, access⟩)
    (unheld : (s.frame f).hostHold = false ∨ 2 ≤ (s.frame f).refcount) :
    s.takeRelease i v =
      ((unmapped s i v).release f).afterReplayLeave i v := by
  have free : (s.modEngine i fun e => { e with currentPage := none }).releaseHeld i v = false := by
    rcases unheld with off | more
    · simp [State.releaseHeld, present, off]
    · have : ¬ (s.frame f).refcount ≤ 1 := by omega
      simp [State.releaseHeld, present, this]
  have dropped : (s.modEngine i fun e => { e with currentPage := none }).purge i v 1 =
      s.setEngine i (withoutPage (s.engine i) v) := by
    simp [State.purge, State.modEngine, withoutPage]
  rw [State.takeRelease]
  simp only [free, Bool.false_eq_true, if_false, State.decideRelease, dropped, entry_setEngine, present, unmapped]

theorem engine_unmapped (apart : w ≠ i) : (unmapped s i v).engine w = s.engine w :=
  engine_setEngine_other _ _ _ _ apart.symm

theorem entry_unmapped (apart : w ≠ i) : (unmapped s i v).entry w u = s.entry w u :=
  (entry_setEntry_other_stream _ _ _ _ _ _ apart.symm).trans rfl

/-- R15, R111: a waiter whose page names a frame under host hold leaves the list, its claim set aside. -/
theorem release_setsAside (one : (s.frame f).refcount = 1) (waits : s.mapUnit.waiters = w :: others)
    (live : (s.engine w).restart = .none) (record : (s.engine w).faultRecord = some ⟨u, .poolEmpty⟩)
    (present : s.entry w u = some ⟨g, held⟩) (hold : (s.frame g).hostHold = true) :
    s.release f =
      ((s.setWaiters others).setDeferred (s.mapUnit.deferred ++ [⟨w, .write u⟩])).release f :=
  release_passes one waits live record
    (decideWrite_setAside (s := offering s f others) present (hostHold_offering.trans hold)) rfl rfl one rfl

/-- R117: the leave goes on after the release has been taken, whatever the release does to the pool and to other
streams. -/
theorem exec_releaseClaim_goesOn (h : s.ClaimNext i (.release v) rest) (present : s.entry i v = some ⟨f, access⟩)
    (unheld : (s.frame f).hostHold = false ∨ 2 ≤ (s.frame f).refcount) {t : State}
    (released : (unmapped (s.setClaims rest) i v).release f =
      t.setEngine i (withoutPage (s.engine i) v))
    (active : (s.engine i).activeDescriptor = some d) (inner : v.val + 1 ≠ d.first.val + d.count)
    (toGo : (s.engine i).pagesToGo = none) :
    exec (.releaseClaim i) s = .next
      (t.setEngine i
        { s.engine i with
          cache := cacheDrop (s.engine i).cache v 1, currentPage := none, position := ⟨v + 1, 0⟩, due := .entering
          lookFill := none }) := by
  have next : nextPageOf d v = v + 1 := if_neg (by simpa [isLastPage] using inner)
  have active' : (withoutPage (s.engine i) v).activeDescriptor = some d := active
  rw [exec_releaseClaim h, takeRelease_taken (s := s.setClaims rest) present unheld]
  refine congrArg _ ((congrArg (fun t : State => t.afterReplayLeave i v) released).trans ?_)
  rw [afterReplayLeave_next active' toGo (.inr inner), next]
  rfl

/-- Settles O58. -/
theorem releaseClaimGivesThePageUp : Obligations.ReleaseClaimGivesThePageUp := by
  intro s i v f access rest d h present active taken
  refine ⟨fun hold one => ?_, fun w u g held others off one waits apart live state record present_w hold => ?_,
    fun inner toGo => ⟨fun n more => ?_, fun off one nobody => ?_,
      fun w u others off one waits apart live state running record policy absent => ?_⟩⟩
  · rw [exec_releaseClaim h, takeRelease_held (s := s.setClaims rest) present hold one]
    rfl
  · have h' : ((s.setWaiters others).setDeferred (s.mapUnit.deferred ++ [⟨w, .write u⟩])).ClaimNext i (.release v) rest :=
      ⟨h.out, h.pool, h.claims⟩
    have waiter : (unmapped (s.setClaims rest) i v).engine w = s.engine w := engine_unmapped apart
    rw [exec_releaseClaim h, exec_releaseClaim h', takeRelease_taken (s := s.setClaims rest) present (.inl off),
      takeRelease_taken (s := ((s.setWaiters others).setDeferred _).setClaims rest) present (.inl off)]
    exact congrArg (fun t : State => Host.Outcome.next (t.afterReplayLeave i v))
      (release_setsAside (s := unmapped (s.setClaims rest) i v) one waits ((congrArg Engine.restart waiter).trans live)
        ((congrArg Engine.faultRecord waiter).trans record) ((entry_unmapped apart).trans present_w) hold)
  · exact exec_releaseClaim_goesOn (t := ((s.setClaims rest).setEntry i v none).setFrame f _) h present
      (.inr (by omega)) (release_shared more) active inner toGo
  · exact exec_releaseClaim_goesOn (t := (((s.setClaims rest).setEntry i v none).setFrame f _).setFreeQueue _ |>.setLowArmed _)
      h present (.inl off) (release_returned one nobody) active inner toGo
  · let start := unmapped (s.setClaims rest) i v
    have waiter : start.engine w = s.engine w := engine_unmapped apart
    have start_absent : start.entry w u = none := (entry_unmapped apart).trans absent
    have handed : HandedTo start (start.release f) f w u others :=
      release_allocates one waits ((congrArg Engine.restart waiter).trans live)
        ((congrArg Engine.faultRecord waiter).trans record) start_absent ((congrArg Engine.faultPolicy waiter).trans policy)
    have left_i : (start.release f).engine i = withoutPage (s.engine i) v :=
      (handed.engines i apart.symm).trans (by simp [start, unmapped])
    have map_unit := handed.mapUnit
    refine ⟨_, exec_releaseClaim_goesOn (t := start.release f) h present (.inl off) ?_ active inner toGo,
      (handed.entries i v (.inl apart.symm)).trans (entry_setEntry_self ..), handed.named, handed.renewed,
      congrArg MapUnit.waiters map_unit, congrArg MapUnit.claims map_unit, (congrArg MapUnit.freeQueue map_unit :),
      (congrArg MapUnit.lowArmed map_unit :), handed.link, ?_, ?_⟩
    · exact (setEngine_engine _ i).symm.trans (congrArg (State.setEngine _ i) left_i)
    · rw [engine_setEngine_other _ _ _ _ apart.symm, handed.waiter, waiter, if_pos start_absent, state, running]
      rfl
    · simp

end ReleaseClaim

end Sys2Proof.Proofs

namespace Sys2Proof.Proofs

open Sys2Proof.Machine Sys2Proof.Laws

/-! ### What a decision does to a waiting stream with its port -/

section Waiting

variable {s : State} {w i : StreamId} {u v : VPage} {f g : FrameId} {q : PortId} {access held : Access}

theorem setPort_port (s : State) (q : PortId) : s.setPort q (s.port q) = s := by
  simp [State.setPort, State.port]

/-- The engine of a stream in WAIT_FAULT that is given a frame (R105). -/
def entered (e : Engine) (u : VPage) (g : FrameId) (access : Access) : Engine :=
  { e with
    state := if e.endReason = none then .running else .stopping
    cache := cacheInstall e.cache u g access, currentPage := some ⟨u, g⟩, position := ⟨u, 0⟩, faultRecord := none }

/-- R105: a stream given a frame in WAIT_FAULT opens its gate, unless a STOP or ABORT has been taken. -/
theorem giveFrame_bound (state : (s.engine w).state = .waitFault) (port : (s.engine w).port = some q) :
    s.giveFrame w u g access =
      (s.setPort q { s.port q with gateOpen := (s.port q).gateOpen || (s.engine w).endReason.isNone }).setEngine w
        (entered (s.engine w) u g access) := by
  cases ending : (s.engine w).endReason with
  | none =>
    rw [giveFrame_waiting state ending, setGate_bound (p := q) (by simpa using port)]
    simp [entered, ending, setPort_setEngine]
  | some reason =>
    have same : { s.port q with gateOpen := (s.port q).gateOpen || (some reason).isNone } = s.port q := by simp
    rw [giveFrame_kept (by simp [ending]), same, setPort_port]
    simp [entered, ending, state, stateGivenFrame]

/-- R106, R107: a stream that waits on goes on waiting, its fault counted and noticed. -/
theorem enterFault_gate (state : (s.engine w).state = .waitFault) (reason : FaultReason) :
    s.enterFault w u reason =
      ((s.setGate w (s.engine w).endReason.isNone).setEngine w
        { s.engine w with
          currentPage := none, position := ⟨u, 0⟩, faultRecord := some ⟨u, reason⟩, lookFill := none, due := .none
          counters := { (s.engine w).counters with
            faultsTaken := saturatingAdd (s.engine w).counters.faultsTaken 1 } }).post (some w) (.fault u reason) := by
  simp only [State.enterFault, State.modEngine, engine_setGate, state]

theorem enterFault_waiting (state : (s.engine w).state = .waitFault) (port : (s.engine w).port = some q)
    (reason : FaultReason) :
    s.enterFault w u reason =
      ((s.setPort q { s.port q with gateOpen := (s.engine w).endReason.isNone }).setEngine w
        { s.engine w with
          currentPage := none, position := ⟨u, 0⟩, faultRecord := some ⟨u, reason⟩, lookFill := none, due := .none
          counters := { (s.engine w).counters with
            faultsTaken := saturatingAdd (s.engine w).counters.faultsTaken 1 } }).post (some w) (.fault u reason) := by
  rw [enterFault_gate state, setGate_bound port]

/-- R70, R110: a stream that fails closes its gate and drops the words of its FIFO. -/
theorem enterFailed_bound (port : (s.engine w).port = some q) :
    s.enterFailed w u =
      ((s.setPort q { s.port q with gateOpen := false, fifo := [] }).setEngine w
        { s.engine w with
          state := .failed, endReason := some .failed, currentPage := none, activeSlot := none, faultRecord := none
          position := ⟨u, 0⟩
          counters := { (s.engine w).counters with
            wordsDropped := saturatingAdd (s.engine w).counters.wordsDropped (s.port q).fifo.length } }).post (some w)
        (.streamEnd .failed ⟨u, 0⟩ (some u)) := by
  have still : ∀ x, ((s.setPort q x).engine w).port = some q := fun _ => port
  simp only [State.enterFailed, State.discardCapture, setGate_bound port, setFifo_bound (still _), fifoOf_bound (still _)]
  simp [State.modEngine]

/-- R70: what a failed stream keeps, whether or not it has a port. -/
theorem engine_enterFailed :
    (s.enterFailed w u).engine w =
      { s.engine w with
        state := .failed, endReason := some .failed, currentPage := none, activeSlot := none, faultRecord := none
        position := ⟨u, 0⟩
        counters := { (s.engine w).counters with
          wordsDropped := ((s.enterFailed w u).engine w).counters.wordsDropped } } := by
  simp [State.enterFailed, State.discardCapture]

theorem enterFailed_mapUnit : (s.enterFailed w u).mapUnit = s.mapUnit := by
  simp [State.enterFailed, State.discardCapture]

theorem enterFailed_link :
    (s.enterFailed w u).link = s.link.post (some w) (.streamEnd .failed ⟨u, 0⟩ (some u)) := by
  simp [State.enterFailed, State.discardCapture]

end Waiting

end Sys2Proof.Proofs

namespace Sys2Proof.Proofs

open Sys2Proof.Machine Sys2Proof.Laws

/-! ### Translation caches (R39 to R46) -/

section Caches

variable {cache : Cache} {v u : VPage} {f : FrameId} {access : Access} {first : VPage} {count : Nat}

/-- R43: a lookup misses exactly when no entry is for the page. -/
theorem cacheLookup_eq_none : cacheLookup cache v = none ↔ ∀ e, some e ∈ cache.toList → e.vpage ≠ v := by
  simp only [cacheLookup, List.findSome?_eq_none_iff]
  constructor
  · intro misses e held page
    simpa [page] using misses (some e) held
  · intro others x held
    cases x with
    | none => rfl
    | some e => simp [others e held]

theorem cacheLookup_isSome {e : CacheEntry} (held : some e ∈ cache.toList) (page : e.vpage = v) :
    (cacheLookup cache v).isSome = true := by
  by_contra misses
  exact cacheLookup_eq_none.mp (by simpa using misses) e held page

theorem mem_toList_map {g : Option CacheEntry → Option CacheEntry} {x : Option CacheEntry} :
    x ∈ (cache.map g).toList ↔ ∃ y ∈ cache.toList, g y = x := by
  simp

/-- R46: no entry of the range is left. -/
theorem cacheLookup_cacheDrop (inside : inPageRange first count v = true) :
    cacheLookup (cacheDrop cache first count) v = none := by
  refine cacheLookup_eq_none.mpr fun e held page => ?_
  obtain ⟨x, _, kept⟩ := mem_toList_map.mp held
  cases x with
  | none => cases kept
  | some y =>
    by_cases out : inPageRange first count y.vpage = true
    · simp [out] at kept
    · simp only [out, Bool.false_eq_true, if_false, Option.some.injEq] at kept
      subst kept
      exact out (page ▸ inside)

/-- R42: an entry after an installation is the one installed, or is for the page of an entry before it. -/
theorem mem_cacheInstall {e : CacheEntry} (held : some e ∈ (cacheInstall cache u f access).toList) :
    e.vpage = u ∨ ∃ x, some x ∈ cache.toList ∧ x.vpage = e.vpage := by
  have touched : ∀ r (x : CacheEntry), (touchRank r x).vpage = x.vpage := fun r x => by
    unfold touchRank
    split
    · rfl
    · split <;> rfl
  unfold cacheInstall at held
  cases found : cacheLookup cache u with
  | some old =>
    simp only [found] at held
    obtain ⟨y, mem, kept⟩ := mem_toList_map.mp held
    obtain ⟨x, rfl, rfl⟩ := Option.map_eq_some_iff.mp kept
    split
    · exact .inl rfl
    · exact .inr ⟨x, mem, (touched _ x).symm⟩
  | none =>
    cases room : emptyIndex cache with
    | some k =>
      simp only [found, room] at held
      rw [Vector.toList_set] at held
      rcases List.mem_or_eq_of_mem_set held with kept | new
      · obtain ⟨y, mem, kept⟩ := mem_toList_map.mp kept
        obtain ⟨x, rfl, rfl⟩ := Option.map_eq_some_iff.mp kept
        exact .inr ⟨x, mem, rfl⟩
      · cases new
        exact .inl rfl
    | none =>
      simp only [found, room] at held
      obtain ⟨y, mem, kept⟩ := mem_toList_map.mp held
      obtain ⟨x, rfl, rfl⟩ := Option.map_eq_some_iff.mp kept
      split
      · exact .inl rfl
      · exact .inr ⟨x, mem, rfl⟩

/-- R42: an installation for another page brings no entry for the page. -/
theorem cacheLookup_cacheInstall_other (apart : u ≠ v) (misses : cacheLookup cache v = none) :
    cacheLookup (cacheInstall cache u f access) v = none := by
  refine cacheLookup_eq_none.mpr fun e held page => ?_
  rcases mem_cacheInstall held with same | ⟨x, before, same⟩
  · exact apart (same.symm.trans page)
  · exact cacheLookup_eq_none.mp misses x before (same.trans page)

theorem mem_of_cacheLookup {e : CacheEntry} (found : cacheLookup cache u = some e) : some e ∈ cache.toList ∧ e.vpage = u := by
  obtain ⟨x, mem, hit⟩ := List.exists_of_findSome?_eq_some found
  cases x with
  | none => cases hit
  | some y =>
    by_cases page : y.vpage = u
    · simp only [page, if_true, Option.some.injEq] at hit
      subst hit
      exact ⟨mem, page⟩
    · simp [page] at hit

/-- R42: the page installed is found, if a full cache has an entry of rank 3. -/
theorem cacheLookup_cacheInstall_self (full : emptyIndex cache = none → ∃ e, some e ∈ cache.toList ∧ e.rank = 3) :
    (cacheLookup (cacheInstall cache u f access) u).isSome = true := by
  unfold cacheInstall
  cases found : cacheLookup cache u with
  | some old =>
    obtain ⟨mem, page⟩ := mem_of_cacheLookup found
    exact cacheLookup_isSome (e := ⟨u, f, access, 0⟩) (mem_toList_map.mpr ⟨some old, mem, by simp [page]⟩) rfl
  | none =>
    cases room : emptyIndex cache with
    | some k =>
      refine cacheLookup_isSome (e := ⟨u, f, access, 0⟩) ?_ rfl
      simp only [Vector.toList_set]
      exact List.mem_set (by simp) _
    | none =>
      obtain ⟨e, mem, rank⟩ := full room
      exact cacheLookup_isSome (e := ⟨u, f, access, 0⟩) (mem_toList_map.mpr ⟨some e, mem, by simp [rank]⟩) rfl

theorem occupied_of_full (full : emptyIndex cache = none) : ∀ x ∈ cache.toList, ∃ e, x = some e := by
  intro x mem
  obtain ⟨k, bound, rfl⟩ := List.mem_iff_getElem.mp mem
  have every : ∀ n : Fin 4, n ∈ [(0 : Fin 4), 1, 2, 3] := by decide
  have all := List.find?_eq_none.mp full ⟨k, by simpa using bound⟩ (every _)
  exact Option.ne_none_iff_exists'.mp (by simpa using all)

/-- R41, R46: a purge that drops nothing leaves the ranks as they are. -/
theorem cacheDrop_of_outside (outside : ∀ e, some e ∈ cache.toList → inPageRange first count e.vpage = false) :
    cacheDrop cache first count = cache := by
  refine Vector.ext fun k bound => ?_
  have mem : cache[k] ∈ cache.toList := by simp
  rw [cacheDrop, Vector.getElem_map]
  cases held : cache[k] with
  | none => rfl
  | some e =>
    rw [held] at mem
    refine (if_neg (by simp [outside e mem])).trans ?_
    rw [List.filterMap_eq_nil_iff.mpr]
    · rfl
    · rintro (_ | x) other
      · rfl
      · exact if_neg (by simp [outside x other])

/-- R39: a full cache that a purge leaves full has an entry of rank 3. -/
theorem rank_three_of_full {e : Engine} (ok : e.CacheOk) (full : emptyIndex (cacheDrop e.cache first count) = none) :
    ∃ x, some x ∈ (cacheDrop e.cache first count).toList ∧ x.rank = 3 := by
  have outside : ∀ x, some x ∈ e.cache.toList → inPageRange first count x.vpage = false := fun x mem => by
    by_contra inside
    obtain ⟨y, kept⟩ := occupied_of_full full none (mem_toList_map.mpr ⟨some x, mem, by simpa using inside⟩)
    cases kept
  rw [cacheDrop_of_outside outside] at full ⊢
  have all : (occupiedEntries e.cache).map some = e.cache.toList := by
    rw [occupiedEntries, List.map_filterMap_some_eq_filter_map_isSome, List.map_id]
    refine List.filter_eq_self.mpr fun x mem => ?_
    obtain ⟨y, rfl⟩ := occupied_of_full full x mem
    rfl
  have four : (occupiedEntries e.cache).length = 4 := by
    have := congrArg List.length all
    simpa using this
  have three : 3 ∈ (occupiedEntries e.cache).map fun x => x.rank := by
    refine ok.ranked.mem_iff.mpr ?_
    simp [four]
  obtain ⟨x, held, rank⟩ := List.mem_map.mp three
  exact ⟨x, all ▸ List.mem_map_of_mem held, rank⟩

end Caches

end Sys2Proof.Proofs

namespace Sys2Proof.Proofs

open Sys2Proof.Machine Sys2Proof.Laws

/-! ### An UNMAP that gives a frame to a waiter (R15, R32) -/

section UnmapHandOff

variable {s t : State} {m : Message} {rest : List Message} {i w : StreamId} {v u : VPage} {f g : FrameId}
  {access held : Access} {others : List StreamId} {q : PortId}

/-- The state from which an UNMAP of the page `v` gives its frame up. -/
def unmapping (s : State) (i : StreamId) (v : VPage) : State := (s.claimTaken.purge i v 1).setEntry i v none

theorem engine_unmapping (apart : i ≠ w) : (unmapping s i v).engine w = s.engine w :=
  engine_setEngine_other _ _ _ _ apart

theorem entry_unmapping (apart : i ≠ w) : (unmapping s i v).entry w u = s.entry w u :=
  (entry_setEntry_other_stream _ _ _ _ _ _ apart).trans rfl

theorem exec_unmap_last (h : s.AtMapUnit (.unmap i v 1) m rest) (idle : (s.engine i).purgeInUse v 1 = false)
    (present : s.entry i v = some ⟨f, access⟩) (one : (s.frame f).refcount = 1) :
    exec (.unmap i v 1) s = .next (((unmapping s i v).release f).answered m rest [0x00, 0x01, 0x00, 0x01, 0x00]) := by
  rw [exec_unmap_one h idle present]
  simp only [one]
  rfl

/-- R15: what the oldest waiter changes before it leaves the list without the frame, it changes as well before the
UNMAP: the effect of the UNMAP is the same. -/
theorem exec_unmap_same (h : s.AtMapUnit (.unmap i v 1) m rest) (idle : (s.engine i).purgeInUse v 1 = false)
    (present : s.entry i v = some ⟨f, access⟩) (one : (s.frame f).refcount = 1)
    (h_t : t.AtMapUnit (.unmap i v 1) m rest) (same : t.engine i = s.engine i) (present_t : t.entry i v = some ⟨f, access⟩)
    (one_t : (t.frame f).refcount = 1) (released : (unmapping s i v).release f = (unmapping t i v).release f) :
    exec (.unmap i v 1) s = exec (.unmap i v 1) t := by
  rw [exec_unmap_last h idle present one, exec_unmap_last h_t (by rw [same]; exact idle) present_t one_t, released]

theorem setEngine_comm (apart : i ≠ w) (a b : Engine) :
    (s.setEngine i a).setEngine w b = (s.setEngine w b).setEngine i a :=
  congrArg (fun es => { s with engines := es }) (Vector.set_comm a b (Fin.val_ne_of_ne apart))

theorem setFrame_comm (apart : g ≠ f) (a b : FrameRecord) :
    (s.setFrame g a).setFrame f b = (s.setFrame f b).setFrame g a :=
  congrArg (fun fs => { s with mapUnit := { s.mapUnit with frames := fs } })
    (Vector.set_comm a b (Fin.val_ne_of_ne apart))

/-- A waiter settled without a frame: its port, its engine and the link are written. -/
def settledAs (s : State) (q : PortId) (p : Port) (w : StreamId) (e : Engine) (l : Link) : State :=
  ((s.setPort q p).setEngine w e).setLink l

theorem unmapping_settledAs (apart : i ≠ w) (p : Port) (e : Engine) (l : Link) :
    unmapping (settledAs s q p w e l) i v = settledAs (unmapping s i v) q p w e l := by
  have other : (s.setEngine w e).engine i = s.engine i := engine_setEngine_other _ _ _ _ apart.symm
  have purged : (settledAs s q p w e l).claimTaken.purge i v 1 = settledAs (s.claimTaken.purge i v 1) q p w e l := by
    have comm := setEngine_comm (s := (s.claimTaken.setPort q p).setLink l) apart
      { s.engine i with cache := cacheDrop (s.engine i).cache v 1 } e
    refine Eq.trans ?_ comm.symm
    rw [← other]
    rfl
  exact congrArg (fun x : State => x.setEntry i v none) purged

/-- An UNMAP of one page whose frame is given back, with a stream that waits for a frame at page `u`. -/
structure UnmapOffers (s : State) (m : Message) (rest : List Message) (i w : StreamId) (v u : VPage) (f : FrameId)
    (access : Access) (others : List StreamId) : Prop where
  due : s.AtMapUnit (.unmap i v 1) m rest
  idle : (s.engine i).purgeInUse v 1 = false
  apart : i ≠ w
  present : s.entry i v = some ⟨f, access⟩
  one : (s.frame f).refcount = 1
  waits : s.mapUnit.waiters = w :: others
  live : (s.engine w).restart = .none
  state : (s.engine w).state = .waitFault
  record : (s.engine w).faultRecord = some ⟨u, .poolEmpty⟩

/-- The state in which an UNMAP decides for the oldest waiter. -/
def deciding (s : State) (i : StreamId) (v : VPage) (f : FrameId) (others : List StreamId) : State :=
  offering (unmapping s i v) f others

theorem frame_deciding (apart : g ≠ f) : (deciding s i v f others).frame g = s.frame g :=
  frame_setFrame_other _ _ _ _ apart.symm

namespace UnmapOffers

theorem waiter (o : UnmapOffers s m rest i w v u f access others) : (deciding s i v f others).engine w = s.engine w :=
  engine_unmapping o.apart

theorem entry (o : UnmapOffers s m rest i w v u f access others) : (deciding s i v f others).entry w u = s.entry w u :=
  entry_unmapping o.apart

/-- R15: the waiter that is settled within the UNMAP can be settled before it. The state `x` is the one before the
UNMAP with the waiter out of the list, and with the record of the frame that the waiter writes to. -/
theorem settled {x : State} {d : WriteDecision} {p : Port} {e : Engine} {l : Link}
    (o : UnmapOffers s m rest i w v u f access others) (due : x.AtMapUnit (.unmap i v 1) m rest)
    (engine : x.engine i = s.engine i) (present : x.entry i v = some ⟨f, access⟩) (one : (x.frame f).refcount = 1)
    (waits : x.mapUnit.waiters = others) (decides : (deciding s i v f others).decideWrite w u (some f) = d)
    (issues : d.issues = false)
    (applied : (deciding s i v f others).applyWrite w u true d =
      settledAs ((unmapping x i v).setFrame f { x.frame f with refcount := 0 }) q p w e l) :
    exec (.unmap i v 1) s = exec (.unmap i v 1) (settledAs x q p w e l) := by
  have same : (settledAs x q p w e l).engine i = s.engine i :=
    (engine_setEngine_other _ _ _ _ o.apart.symm).trans engine
  refine exec_unmap_same o.due o.idle o.present o.one ⟨⟨due.current, due.queue⟩, due.out, due.pool, due.oldest⟩ same
    present one ?_
  refine release_passes (s := unmapping s i v) o.one o.waits ((congrArg Engine.restart o.waiter).trans o.live)
    ((congrArg Engine.faultRecord o.waiter).trans o.record) decides issues (applied.trans ?_) one waits
  rw [unmapping_settledAs o.apart]
  rfl

/-- R166: a waiter that has stopped for a RESTART only leaves the list. -/
theorem restarted (h : s.AtMapUnit (.unmap i v 1) m rest) (idle : (s.engine i).purgeInUse v 1 = false) (apart : i ≠ w)
    (present : s.entry i v = some ⟨f, access⟩) (one : (s.frame f).refcount = 1)
    (waits : s.mapUnit.waiters = w :: others) {taken : Option (FrameId × Nat)}
    (stopped : (s.engine w).restart = .answered taken) :
    exec (.unmap i v 1) s = exec (.unmap i v 1) (s.setWaiters others) := by
  have waiter := engine_unmapping (s := s) (v := v) apart
  refine exec_unmap_same h idle present one ⟨⟨h.current, h.queue⟩, h.out, h.pool, h.oldest⟩ rfl present one ?_
  exact release_stopped (s := unmapping s i v) one waits ((congrArg Engine.restart waiter).trans stopped)

variable (o : UnmapOffers s m rest i w v u f access others)
include o

theorem outOfList : (s.setWaiters others).AtMapUnit (.unmap i v 1) m rest :=
  ⟨⟨o.due.current, o.due.queue⟩, o.due.out, o.due.pool, o.due.oldest⟩

theorem state_deciding : ((deciding s i v f others).engine w).state = .waitFault := by
  rw [o.waiter]
  exact o.state

theorem port_deciding (port : (s.engine w).port = some q) : ((deciding s i v f others).engine w).port = some q := by
  rw [o.waiter]
  exact port

/-- R106: a waiter whose page is absent under HOST waits on, for the host. -/
theorem absent (port : (s.engine w).port = some q) (absent : s.entry w u = none)
    (policy : (s.engine w).faultPolicy = some .host) :
    exec (.unmap i v 1) s = exec (.unmap i v 1)
      ((((s.setWaiters others).setPort q { s.port q with gateOpen := (s.engine w).endReason.isNone }).setEngine w
        { s.engine w with
          currentPage := none, position := ⟨u, 0⟩, faultRecord := some ⟨u, .absent⟩, lookFill := none, due := .none
          counters := { (s.engine w).counters with
            faultsTaken := saturatingAdd (s.engine w).counters.faultsTaken 1 } }).post (some w) (.fault u .absent)) := by
  have decides : (deciding s i v f others).decideWrite w u (some f) = .waitAbsent :=
    decideWrite_host (o.entry.trans absent) ((congrArg Engine.faultPolicy o.waiter).trans policy)
  refine o.settled o.outOfList rfl o.present o.one rfl decides rfl
    ((enterFault_waiting o.state_deciding (o.port_deciding port) .absent).trans ?_)
  rw [o.waiter]
  rfl

/-- R111: a waiter whose page names a frame under host hold has its claim set aside. -/
theorem setAside (present : s.entry w u = some ⟨g, held⟩) (hold : (s.frame g).hostHold = true) :
    exec (.unmap i v 1) s = exec (.unmap i v 1)
      ((s.setWaiters others).setDeferred (s.mapUnit.deferred ++ [⟨w, .write u⟩])) :=
  exec_unmap_same o.due o.idle o.present o.one ⟨⟨o.due.current, o.due.queue⟩, o.due.out, o.due.pool, o.due.oldest⟩ rfl
    o.present o.one (release_setsAside (s := unmapping s i v) o.one o.waits ((congrArg Engine.restart o.waiter).trans o.live)
      ((congrArg Engine.faultRecord o.waiter).trans o.record) (o.entry.trans present) hold)

/-- R110: a waiter whose page is READ_ONLY fails. -/
theorem fails (port : (s.engine w).port = some q) (apart : g ≠ f) (unheld : (s.frame g).hostHold = false)
    (present : s.entry w u = some ⟨g, .readOnly⟩) :
    exec (.unmap i v 1) s = exec (.unmap i v 1)
      ((((s.setWaiters others).setPort q { s.port q with gateOpen := false, fifo := [] }).setEngine w
        { s.engine w with
          state := .failed, endReason := some .failed, currentPage := none, activeSlot := none, faultRecord := none
          position := ⟨u, 0⟩
          counters := { (s.engine w).counters with
            wordsDropped := saturatingAdd (s.engine w).counters.wordsDropped (s.port q).fifo.length } }).post (some w)
        (.streamEnd .failed ⟨u, 0⟩ (some u))) := by
  have decides : (deciding s i v f others).decideWrite w u (some f) = .fail :=
    decideWrite_fail (o.entry.trans present) (by rw [frame_deciding apart]; exact unheld)
  refine o.settled o.outOfList rfl o.present o.one rfl decides rfl ((enterFailed_bound (o.port_deciding port)).trans ?_)
  rw [o.waiter]
  rfl

/-- R105: a waiter that takes another frame than the one given back, written in place or renewed, goes on. -/
theorem enters {d : WriteDecision} {r : FrameRecord} (port : (s.engine w).port = some q) (apart : g ≠ f)
    (decides : (deciding s i v f others).decideWrite w u (some f) = d) (issues : d.issues = false)
    (applied : (deciding s i v f others).applyWrite w u true d =
      ((deciding s i v f others).setFrame g r).giveFrame w u g .readWrite) :
    exec (.unmap i v 1) s = exec (.unmap i v 1)
      ((((s.setWaiters others).setFrame g r).setPort q
        { s.port q with gateOpen := (s.port q).gateOpen || (s.engine w).endReason.isNone }).setEngine w
        (entered (s.engine w) u g .readWrite)) := by
  have other : ((s.setWaiters others).setFrame g r).frame f = s.frame f := frame_setFrame_other _ _ _ _ apart
  have one : (((s.setWaiters others).setFrame g r).frame f).refcount = 1 := by
    rw [other]
    exact o.one
  have due : ((s.setWaiters others).setFrame g r).AtMapUnit (.unmap i v 1) m rest :=
    ⟨⟨o.due.current, o.due.queue⟩, o.due.out, o.due.pool, o.due.oldest⟩
  refine o.settled (l := s.link) due rfl o.present one rfl decides issues (applied.trans
    ((giveFrame_bound (by exact o.state_deciding) (by exact o.port_deciding port)).trans ?_))
  have comm := setFrame_comm (s := unmapping (s.setWaiters others) i v) apart r { s.frame f with refcount := 0 }
  have waiter : ((deciding s i v f others).setFrame g r).engine w = s.engine w := o.waiter
  rw [waiter, other]
  exact congrArg (fun x : State => settledAs x q _ w (entered (s.engine w) u g .readWrite) s.link) comm.symm

end UnmapOffers

theorem pagesFrom_two (next : u.val = v.val + 1) : pagesFrom v 2 = [v, u] := by
  have first : finOf? 512 (v.val + 0) = some v := finOf?_val v
  have second : finOf? 512 (v.val + 1) = some u := next ▸ finOf?_val u
  have two : List.range 2 = [0, 1] := rfl
  simp only [pagesFrom, two, List.filterMap_cons, List.filterMap_nil, first, second]

/-- R32, note 2: an UNMAP of two pages of a stream that waits for a frame at the second hands it the frame of the first,
and passes over the second, which is in use by then. -/
theorem exec_unmap_own_waiter (h : s.AtMapUnit (.unmap i v 2) m rest) (next : u.val = v.val + 1)
    (present : s.entry i v = some ⟨f, access⟩) (one : (s.frame f).refcount = 1) (waits : s.mapUnit.waiters = i :: others)
    (live : (s.engine i).restart = .none) (state : (s.engine i).state = .waitFault)
    (running : (s.engine i).endReason = none) (record : (s.engine i).faultRecord = some ⟨u, .poolEmpty⟩)
    (policy : (s.engine i).faultPolicy = some .allocate) (absent : s.entry i u = none) :
    let start := (s.claimTaken.purge i v 2).setEntry i v none
    HandedTo start (start.release f) f i u others ∧
      exec (.unmap i v 2) s = .next ((start.release f).answered m rest [0x00, 0x01, 0x00, 0x01, 0x00]) := by
  intro start
  have apart : v ≠ u := fun same => by simp [same] at next
  have engine : start.engine i = { s.engine i with cache := cacheDrop (s.engine i).cache v 2 } := by
    simp [start, State.purge]
  have start_absent : start.entry i u = none := (entry_setEntry_other_page _ _ _ _ _ apart).trans absent
  have handed : HandedTo start (start.release f) f i u others :=
    release_allocates one waits (by rw [engine]; exact live) (by rw [engine]; exact record) start_absent
      (by rw [engine]; exact policy)
  have idle : ∀ x n, (s.engine i).purgeInUse x n = false := fun x n => by
    simp [Engine.purgeInUse, state, StreamState.isActive]
  have in_use : ((start.release f).engine i).purgeInUse u 1 = true := by
    rw [handed.waiter, engine, state, running]
    exact inPageRange_one.mpr rfl
  refine ⟨handed, ?_⟩
  rw [exec_unmap_released h (idle v 2), pagesFrom_two next,
    releasePages_present (s := s.claimTaken.purge i v 2) present (by rw [purgeInUse_purge]; exact idle v 1)]
  dsimp only
  rw [releasePages_in_use in_use]
  simp only [frame_purge, frame_claimTaken, one, State.releasePages, if_true]
  rfl

/-- Settles O31. -/
theorem handOffServesTheOldestWaiter : Obligations.HandOffServesTheOldestWaiter := by
  refine ⟨?_, ?_, ?_⟩
  · intro s m rest i w v u f access others h idle apart present one waits live state record fresh before wants
    have waiter := engine_unmapping (s := s) (v := v) apart
    have entry := entry_unmapping (s := s) (v := v) (u := u) apart
    have handed : HandedTo (unmapping s i v) ((unmapping s i v).release f) f w u others :=
      release_handedTo one waits ((congrArg Engine.restart waiter).trans live)
        ((congrArg Engine.faultRecord waiter).trans record) (by rw [Wants, entry, waiter]; exact wants)
    have engine := handed.waiter
    have map_unit := handed.mapUnit
    rw [waiter, entry, state] at engine
    refine ⟨_, exec_unmap_last h idle present one, (handed.entries i v (.inl apart)).trans (entry_setEntry_self ..),
      handed.named, handed.renewed, fun g held named => handed.detached g held (entry.trans named),
      congrArg MapUnit.waiters map_unit, (congrArg MapUnit.freeQueue map_unit :), (congrArg MapUnit.lowArmed map_unit :),
      fun running => ⟨?_, fun q port => ?_⟩, fun ending stopped => ⟨?_, ?_, ?_⟩, congrArg Engine.currentPage engine,
      congrArg Engine.position engine, congrArg Engine.faultRecord engine, congrArg Engine.cache engine, ?_⟩
    · exact (congrArg Engine.state engine).trans (by rw [running]; rfl)
    · exact handed.gate (by rw [waiter]; exact state) (by rw [waiter]; exact running) q (by rw [waiter]; exact port)
    · exact (congrArg Engine.state engine).trans (by rw [stopped]; rfl)
    · exact (congrArg Engine.endReason engine).trans stopped
    · exact handed.ports (by rw [waiter, stopped]; simp)
    · rw [answered_replies, handed.link]
      rfl
  · intro s m rest i w v u f access others q h idle apart present one waits port passed actsAs
    refine ⟨fun taken stopped => UnmapOffers.restarted h idle apart present one waits stopped, fun live state record => ?_⟩
    have o : UnmapOffers s m rest i w v u f access others := ⟨h, idle, apart, present, one, waits, live, state, record⟩
    refine ⟨fun absent policy => o.absent port absent policy, fun g held present hold => o.setAside present hold,
      fun g apart unheld => ⟨fun present => o.fails port apart unheld present, fun present => ?_⟩⟩
    intro fresh entered
    refine ⟨fun unused => ?_, fun used alone => ?_⟩
    · have decides : (deciding s i v f others).decideWrite w u (some f) = .inPlace g :=
        decideWrite_inPlace (o.entry.trans present) (by rw [frame_deciding apart]; exact unheld)
          (by rw [frame_deciding apart]; exact unused)
      exact o.enters port apart decides rfl (by rw [State.applyWrite, frame_deciding apart])
    · have decides : (deciding s i v f others).decideWrite w u (some f) = .reuse g :=
        decideWrite_reuse (o.entry.trans present) (by rw [frame_deciding apart]; exact unheld)
          (by rw [Used, frame_deciding apart]; exact used) (by rw [frame_deciding apart]; exact alone.le)
      exact o.enters port apart decides rfl (by rw [State.applyWrite, frame_deciding apart]; rfl)
  · intro s m rest i v u f access others h next present one waits live state running record policy absent ok
    obtain ⟨handed, run⟩ := exec_unmap_own_waiter h next present one waits live state running record policy absent
    have pages : v ≠ u := fun same => by simp [same] at next
    have map_unit := handed.mapUnit
    have engine := handed.waiter
    have start : ((s.claimTaken.purge i v 2).setEntry i v none).engine i =
        { s.engine i with cache := cacheDrop (s.engine i).cache v 2 } := by
      simp [State.purge]
    have start_absent : ((s.claimTaken.purge i v 2).setEntry i v none).entry i u = none :=
      (entry_setEntry_other_page _ _ _ _ _ pages).trans absent
    rw [start, start_absent, if_pos rfl, state, running] at engine
    refine ⟨_, run, (handed.entries i v (.inr pages)).trans (entry_setEntry_self ..), handed.named, handed.renewed,
      congrArg MapUnit.waiters map_unit, (congrArg MapUnit.freeQueue map_unit :), congrArg Engine.state engine,
      congrArg Engine.currentPage engine, ?_, ?_, ?_⟩
    · rw [engine_answered, engine]
      exact cacheLookup_cacheInstall_self (rank_three_of_full ok)
    · rw [engine_answered, engine]
      exact cacheLookup_cacheInstall_other pages.symm (cacheLookup_cacheDrop (by simp [inPageRange]))
    · rw [answered_replies, handed.link]
      rfl

end UnmapHandOff

end Sys2Proof.Proofs

namespace Sys2Proof.Proofs

open Sys2Proof.Machine Sys2Proof.Laws

/-! ### The end of a replay segment (R78 to R82) -/

section Segment

variable {s t : State} {i w : StreamId} {p q : PortId} {v u : VPage} {d : Descriptor} {name : SlotName} {e : Engine}
  {f : FrameId} {access : Access} {rest : List Claim} {others : List StreamId}

/-- A replay segment completed at page `v`, of an engine `e` at the state `t`: chained to the other slot, or ended. -/
def completed (t : State) (i : StreamId) (p : PortId) (v : VPage) (d : Descriptor) (name : SlotName) (e : Engine) : State :=
  let posted := t.post (some i) (.segmentDone name e.activationPages)
  let ending (reason : EndReason) (state : StreamState) : Engine :=
    { e with
      state := state, endReason := some reason, position := ⟨v, 0⟩, currentPage := none, pagesToGo := none
      lookFill := none, due := .none }
  let ended (reason : EndReason) : State :=
    if (t.port p).fifo = [] then
      ((posted.setPort p { t.port p with gateOpen := false }).setEngine i
        { (ending reason .done).setSlot name none with activeSlot := none, faultRecord := none }).post (some i)
        (.streamEnd reason ⟨v, 0⟩ none)
    else posted.setEngine i (ending reason .stopping)
  if d.link = false then ended .completed
  else
    match e.slot (otherSlot name) with
    | none => ended .starved
    | some other =>
      posted.setEngine i
        { e.setSlot name none with
          activeSlot := some (otherSlot name), position := ⟨other.first, 0⟩, pagesToGo := none
          triggerRecord := none, activationPages := 0, lookFill := none, due := .entering }

/-- A replay engine whose active slot holds a ONCE segment with `v` as its last page. -/
structure AtSegmentEnd (e : Engine) (p : PortId) (v : VPage) (d : Descriptor) (name : SlotName) : Prop where
  replay : e.direction = some .replay
  port : e.port = some p
  active : e.activeSlot = some name
  slot : e.slot name = some d
  once : d.mode = .once
  last : v.val + 1 = d.first.val + d.count

theorem AtSegmentEnd.completes (h : AtSegmentEnd e p v d name) : e.completes v = true := by
  have descriptor : e.activeDescriptor = some d := by
    rw [Engine.activeDescriptor, h.active]
    exact h.slot
  simp [Engine.completes, descriptor, h.once, isLastPage, h.last]

theorem AtSegmentEnd.completeSegment (h : AtSegmentEnd e p v d name) :
    (t.setEngine i e).completeSegment i v = completed t i p v d name e :=
  completeSegment_replay h.replay h.port h.active h.slot

/-- The completion does not read the page change of the engine, nor its position or its pages to go. -/
theorem completed_congr (toGo : Option Nat) (position : Position) (look : Option Nat) (due : PageChangeDue) :
    completed t i p v d name { e with pagesToGo := toGo, position := position, lookFill := look, due := due } =
      completed t i p v d name e := by
  cases name <;> rfl

/-- R117, step 4: the leave of the last page completes the segment. -/
theorem AtSegmentEnd.afterReplayLeave (h : AtSegmentEnd e p v d name) :
    (t.setEngine i e).afterReplayLeave i v = completed t i p v d name { e with currentPage := none } := by
  have h' : AtSegmentEnd { e with currentPage := none } p v d name := ⟨h.replay, h.port, h.active, h.slot, h.once, h.last⟩
  simp only [State.afterReplayLeave, State.modEngine, engine_setEngine_self, setEngine_setEngine]
  rw [if_pos h'.completes, h'.completeSegment]

/-- A replay engine that has left its page (R97, R117). -/
def counted (e : Engine) : Engine :=
  { e with
    state := .running, currentPage := none
    counters := { e.counters with pagesCompleted := e.counters.pagesCompleted + 1 }
    activationPages := saturatingAdd e.activationPages 1 }

theorem AtSegmentEnd.leaveReplayPage (h : AtSegmentEnd e p v d name) (keep : e.releasePolicy = some .keep) :
    (t.setEngine i e).leaveReplayPage i v = completed t i p v d name (counted e) := by
  have h' : AtSegmentEnd { e.countLeave v with state := .running, lookFill := none, due := .none } p v d name :=
    ⟨h.replay, h.port, h.active, h.slot, h.once, h.last⟩
  rw [leaveReplayPage_keep keep, h'.afterReplayLeave]
  exact completed_congr (e := counted e) (e.pagesToGoAfterLeave v) e.position none .none

/-- R115, R117: at the fill of a sealed frame the last page is left, and its segment completed. -/
theorem AtSegmentEnd.evaluatePage (h : AtSegmentEnd e p v d name) (keep : e.releasePolicy = some .keep)
    (current : e.currentPage = some ⟨v, f⟩) (closed : (t.frame f).isSealed = true)
    (atEnd : (t.frame f).fill ≤ e.position.offset) :
    (t.setEngine i e).evaluatePage i = completed t i p v d name (counted e) := by
  have look : (t.setEngine i e).fillLook f e.position.offset = .sealedEnd := by
    simp [State.fillLook, closed, Nat.not_lt.mpr atEnd]
  simp only [State.evaluatePage, engine_setEngine_self, current, look]
  exact h.leaveReplayPage keep

/-! ### The steps at which a KEEP stream finds the end (R114 to R117) -/

/-- A KEEP stream that stands at the fill of its last page, a sealed one. -/
structure AtLastFill (s : State) (i : StreamId) (p : PortId) (v : VPage) (d : Descriptor) (name : SlotName)
    (f : FrameId) : Prop where
  segment : AtSegmentEnd (s.engine i) p v d name
  current : (s.engine i).currentPage = some ⟨v, f⟩
  keep : (s.engine i).releasePolicy = some .keep
  closed : (s.frame f).isSealed = true

/-- The page is evaluated in a later state, by an engine that has gone on from the one at hand. -/
theorem AtLastFill.evaluated (h : AtLastFill s i p v d name f) (same : t.frame f = s.frame f)
    (direction : e.direction = (s.engine i).direction) (port : e.port = (s.engine i).port)
    (active : e.activeSlot = (s.engine i).activeSlot) (slot : e.slot name = (s.engine i).slot name)
    (keep : e.releasePolicy = (s.engine i).releasePolicy) (current : e.currentPage = (s.engine i).currentPage)
    (atEnd : (s.frame f).fill ≤ e.position.offset) :
    (t.setEngine i e).evaluatePage i = completed t i p v d name (counted e) :=
  AtSegmentEnd.evaluatePage
    ⟨direction.trans h.segment.replay, port.trans h.segment.port, active.trans h.segment.active,
      slot.trans h.segment.slot, h.segment.once, h.segment.last⟩
    (keep.trans h.keep) (current.trans h.current) (same ▸ h.closed) (same ▸ atEnd)

/-- Log entry 8: a page entered at its end is left in a step of its own. -/
theorem exec_readClaim_leaves (h : AtLastFill s i p v d name f) (out : s.heldInReset = none) (unclaimed : s.claimOf i = none)
    (live : (s.engine i).restart = .none) (due : (s.engine i).due = .leave)
    (atEnd : (s.frame f).fill ≤ (s.engine i).position.offset) :
    exec (.readClaim i) s = .next (completed s i p v d name (counted (s.engine i))) := by
  have goesOn : s.continuePageChange i = s.evaluatePage i := by
    simp [State.continuePageChange, State.engineLive, out, Engine.isLive, live, due]
  show execReadClaim i s = _
  rw [execReadClaim, unclaimed]
  refine congrArg _ (goesOn.trans ?_)
  conv_lhs => rw [← setEngine_engine s i]
  exact h.evaluated rfl rfl rfl rfl rfl rfl rfl atEnd

/-- R114: a completed burst brings the position to the end. -/
theorem exec_replayBurstComplete_leaves {b : Burst} (h : AtLastFill s i p v d name f) (out : s.heldInReset = none)
    (flight : s.arbiter.inFlight = some b) (own : b.requester = requesterOf i) (reads : b.isWrite = false)
    (live : (s.engine i).restart = .none) (running : (s.engine i).state = .running)
    (atEnd : (s.frame f).fill ≤ (s.engine i).position.offset + b.length) :
    exec (.replayBurstComplete i) s = .next
      (completed
        (s.endBurst.setPort p
          { s.port p with fifo := (s.port p).fifo ++ bytesWords (s.storeBytes b.frame b.offset b.length) })
        i p v d name (counted ((s.engine i).advanced b.length))) := by
  have due : (s.heldInReset.isNone && s.streamBurst i false) = true := by
    simp [out, State.streamBurst, flight, own, reads]
  have run : exec (.replayBurstComplete i) s = .next (s.completeReplay i b) := by
    show execReplayBurstComplete i s = _
    rw [execReplayBurstComplete, takeStep_due due, flight]
  rw [run]
  have goesOn : ((s.engine i).advanced b.length).restart = .none := live
  have runs : ((s.engine i).advanced b.length).state = .running := running
  have bound : ((s.endBurst.setEngine i ((s.engine i).advanced b.length)).engine i).port = some p := by
    rw [engine_setEngine_self]
    exact h.segment.port
  have engine : s.endBurst.modEngine i (fun e => e.advanced b.length) =
      s.endBurst.setEngine i ((s.engine i).advanced b.length) := rfl
  simp only [State.completeReplay, engine, engine_setEngine_self, goesOn, reduceCtorEq, if_false, State.afterReplay,
    runs, setFifo_bound bound, fifoOf_bound bound, setPort_setEngine]
  refine congrArg _ ?_
  exact h.evaluated (t := s.endBurst.setPort p _) (e := (s.engine i).advanced b.length) rfl rfl rfl rfl rfl rfl rfl atEnd

/-- R116: a signal of the page's seal. -/
theorem exec_waitDataSignal_leaves {signals : List FrameId} (h : AtLastFill s i p v d name f) (free : s.engineFree i = true)
    (signalled : (s.engine i).signals = f :: signals) (waits : (s.engine i).state = .waitData)
    (atEnd : (s.frame f).fill ≤ (s.engine i).position.offset) :
    exec (.waitDataSignal i) s = .next
      (completed s i p v d name (counted { s.engine i with signals := signals })) := by
  have heard : s.takeSignal i =
      (s.setEngine i { s.engine i with signals := signals, state := .running }).evaluatePage i := by
    rw [State.takeSignal, signalled]
    dsimp only
    rw [engine_modEngine_self, if_pos ⟨waits, by rw [h.current]; rfl⟩]
    simp [State.modEngine]
  refine (takeStep_due free fun s => s.takeSignal i).trans (congrArg _ (heard.trans ?_))
  exact h.evaluated (e := { s.engine i with signals := signals, state := .running }) rfl rfl rfl rfl rfl rfl rfl atEnd

/-- R62: a RESUME at the end of the page. -/
theorem exec_resume_leaves {m : Message} {queued : List Message} (h : AtLastFill s i p v d name f)
    (due : s.AtEngine i (.resume i) m queued) (paused : (s.engine i).state = .paused)
    (atEnd : (s.frame f).fill ≤ (s.engine i).position.offset) :
    exec (.resume i) s = .next
      ((completed (s.setPort p { s.port p with gateOpen := true }) i p v d name (counted (s.engine i))).answered m queued
        [0x00]) := by
  let resumed := (s.setPort p { s.port p with gateOpen := true }).setEngine i { s.engine i with state := .running }
  have goesOn : s.resumeStream i = (resumed.evaluatePage i).replyOk := by
    rw [State.resumeStream, if_pos paused, setGate_bound h.segment.port]
    dsimp only
    rw [if_pos (by rw [engine_modEngine_self]; exact h.segment.replay), State.resumeReplay, engine_modEngine_self]
    simp only [engine_setPort, h.current]
    rfl
  have evaluated : resumed.evaluatePage i = _ :=
    h.evaluated (e := { s.engine i with state := .running }) rfl rfl rfl rfl rfl rfl rfl atEnd
  have command : (resumed.evaluatePage i).command.queue = m :: queued := by
    rw [(inner_evaluatePage resumed i).command]
    exact due.queue
  refine (takeStep_due (commandDue_at due) fun s => s.resumeStream i).trans (congrArg _ (goesOn.trans ?_))
  exact (produceReply_answered command _).trans (congrArg (fun t : State => t.answered m queued [0x00]) evaluated)

/-! ### The release and the pass-over of the last page (R118, R120) -/

/-- R117, R118: under RELEASE the leave of the last page completes the segment with its release claim, whatever the
release does to the pool and to other streams. -/
theorem exec_releaseClaim_completes (h : s.ClaimNext i (.release v) rest) (segment : AtSegmentEnd (s.engine i) p v d name)
    (present : s.entry i v = some ⟨f, access⟩) (unheld : (s.frame f).hostHold = false ∨ 2 ≤ (s.frame f).refcount)
    (released : (unmapped s.claimTaken i v).release f = t.setEngine i (withoutPage (s.engine i) v)) :
    exec (.releaseClaim i) s = .next (completed t i p v d name (withoutPage (s.engine i) v)) := by
  have still : AtSegmentEnd (withoutPage (s.engine i) v) p v d name :=
    ⟨segment.replay, segment.port, segment.active, segment.slot, segment.once, segment.last⟩
  rw [exec_releaseClaim h, ← claimTaken_of_next h, takeRelease_taken (s := s.claimTaken) present unheld, released,
    still.afterReplayLeave]
  rfl

/-- R120: under SKIP the pass-over of the last page completes the segment. -/
theorem exec_readClaim_skips (h : s.ClaimNext i (.read v) rest) (segment : AtSegmentEnd (s.engine i) p v d name)
    (absent : s.entry i v = none) (skip : (s.engine i).faultPolicy = some .skip) :
    exec (.readClaim i) s = .next
      (completed s.claimTaken i p v d name
        { s.engine i with
          counters := { (s.engine i).counters with
            pagesSkipped := saturatingAdd (s.engine i).counters.pagesSkipped 1 } }) := by
  have still : AtSegmentEnd
      { s.engine i with
        counters := { (s.engine i).counters with pagesSkipped := saturatingAdd (s.engine i).counters.pagesSkipped 1 } }
      p v d name :=
    ⟨segment.replay, segment.port, segment.active, segment.slot, segment.once, segment.last⟩
  have passed : s.claimTaken.answerRead i v = s.claimTaken.passOver i v := by
    simp [State.answerRead, absent, skip]
  show execReadClaim i s = _
  rw [execReadClaim, claimOf_next h]
  refine congrArg Host.Outcome.next (passed.trans ?_)
  rw [State.passOver]
  dsimp only
  rw [if_pos (by rw [engine_modEngine_self]; exact still.completes)]
  exact still.completeSegment

/-- A frame handed to an allocating waiter, written out (R15, R105). -/
theorem release_allocates_eq (one : (s.frame f).refcount = 1) (waits : s.mapUnit.waiters = w :: others)
    (live : (s.engine w).restart = .none) (state : (s.engine w).state = .waitFault)
    (running : (s.engine w).endReason = none) (record : (s.engine w).faultRecord = some ⟨u, .poolEmpty⟩)
    (policy : (s.engine w).faultPolicy = some .allocate) (absent : s.entry w u = none)
    (port : (s.engine w).port = some q) :
    s.release f =
      ((((s.setFrame f
        { s.frame f with
          state := .bound, refcount := 1, fill := 0, isSealed := false
          generation := (s.frame f).generation + 1, writer := some w }).setWaiters others).setEntry w u
        (some ⟨f, .readWrite⟩)).setPort q { s.port q with gateOpen := true }).setEngine w
        { s.engine w with
          state := .running, cache := cacheInstall (s.engine w).cache u f .readWrite
          currentPage := some ⟨u, f⟩, position := ⟨u, 0⟩, faultRecord := none } := by
  have decides : (offering s f others).decideWrite w u (some f) = .allocate f :=
    decideWrite_allocate (s := offering s f others) absent policy
  have issued : (offering s f others).issue f (some w) =
      (s.setFrame f
        { s.frame f with
          state := .bound, refcount := 1, fill := 0, isSealed := false
          generation := (s.frame f).generation + 1, writer := some w }).setWaiters others := by
    have once := setFrame_setFrame (s := s) f { s.frame f with refcount := 0 }
      { ((offering s f others).frame f).renewed (some w) with state := .bound, refcount := 1 }
    exact (congrArg (fun t : State => t.setWaiters others) once).trans
      (by simp [offering, FrameRecord.renewed])
  rw [release_issues one waits live record decides rfl, applyWrite_allocate_handed, issued,
    giveFrame_bound (q := q) (by exact state) (by exact port)]
  refine congrArg₂ (fun x e => (State.setPort _ q x).setEngine w e) ?_ ?_
  · simp [running]
  · simp [entered, running]

/-- Settles O60. -/
theorem replaySegmentEndsOrChains : Obligations.ReplaySegmentEndsOrChains := by
  intro s i p v d name replay port active slot once last
  have segment : AtSegmentEnd (s.engine i) p v d name := ⟨replay, port, active, slot, once, last⟩
  intro completed counted
  refine ⟨fun f current keep closed => ?_, fun f access rest h present => ?_, fun rest h absent skip =>
    exec_readClaim_skips h segment absent skip⟩
  · have h : AtLastFill s i p v d name f := ⟨segment, current, keep, closed⟩
    refine ⟨fun out unclaimed live due atEnd => exec_readClaim_leaves h out unclaimed live due atEnd,
      fun b out flight own reads live running atEnd => ?_, fun others free signalled waits atEnd =>
      exec_waitDataSignal_leaves h free signalled waits atEnd, fun m rest due paused atEnd =>
      exec_resume_leaves h due paused atEnd⟩
    intro words
    refine (exec_replayBurstComplete_leaves h out flight own reads live running atEnd).trans (congrArg _ ?_)
    exact completed_congr
      (e := counted
        { s.engine i with
          counters := { (s.engine i).counters with
            bytesMoved := (s.engine i).counters.bytesMoved + BitVec.ofNat 32 b.length } })
      (s.engine i).pagesToGo ((s.engine i).advanced b.length).position (s.engine i).lookFill (s.engine i).due
  · intro released gone
    refine ⟨fun n more => ?_, fun unheld one => ⟨fun nobody => ?_,
      fun w u others q waits apart live state running record policy absent bound => ?_⟩⟩
    · exact exec_releaseClaim_completes (t := released { s.frame f with refcount := n + 1 }) h segment present
        (.inr (by omega)) (release_shared more)
    · exact exec_releaseClaim_completes
        (t := ((released { s.frame f with refcount := 0, state := .free, writer := none }).setFreeQueue _).setLowArmed _)
        h segment present (.inl unheld) (release_returned one nobody)
    · have waiter : (unmapped s.claimTaken i v).engine w = s.engine w := engine_unmapped apart
      have start_absent : (unmapped s.claimTaken i v).entry w u = none := (entry_unmapped apart).trans absent
      have given := release_allocates_eq (s := unmapped s.claimTaken i v) (q := q) one waits (by rw [waiter]; exact live)
        (by rw [waiter]; exact state) (by rw [waiter]; exact running) (by rw [waiter]; exact record)
        (by rw [waiter]; exact policy) start_absent (by rw [waiter]; exact bound)
      rw [waiter] at given
      refine exec_releaseClaim_completes h segment present (.inl unheld) ?_
      rw [given]
      refine Eq.trans ?_ (setEngine_comm apart.symm _ _)
      rfl

end Segment

end Sys2Proof.Proofs

namespace Sys2Proof.Proofs

open Sys2Proof.Machine Sys2Proof.Laws

/-! ### Seals (R4, R5) -/

section Seals

variable {s t u : State} {f : FrameId}

theorem signalled_zero (e : Engine) (f : FrameId) : e.signalled f 0 = e := by
  simp [Engine.signalled]

theorem signalled_add (e : Engine) (f : FrameId) (m n : Nat) :
    (e.signalled f m).signalled f n = e.signalled f (m + n) := by
  simp only [Engine.signalled]
  split <;> simp_all [← List.replicate_append_replicate]

/-- A signal is read from the list of signals, and nowhere else. -/
theorem signalled_eq (e : Engine) (f : FrameId) (n : Nat) :
    e.signalled f n = { e with signals := (e.signalled f n).signals } := by
  unfold Engine.signalled
  split <;> rfl

/-- What the map unit does for a seal of the frame `f`: it writes the record of `f`, and it signals engines. -/
structure Seals (s t : State) (f : FrameId) : Prop where
  rest : t = { s with engines := t.engines, mapUnit := { s.mapUnit with frames := t.mapUnit.frames } }
  frames : ∀ g, g ≠ f → t.frame g = s.frame g
  engines : ∀ j, ∃ n, t.engine j = (s.engine j).signalled f n

namespace Seals

theorem refl (s : State) (f : FrameId) : Seals s s f :=
  ⟨rfl, fun _ _ => rfl, fun _ => ⟨0, (signalled_zero _ f).symm⟩⟩

theorem trans (h : Seals s t f) (h' : Seals t u f) : Seals s u f where
  rest := by
    refine h'.rest.trans ?_
    rw [h.rest]
  frames g other := (h'.frames g other).trans (h.frames g other)
  engines := fun stream => by
    obtain ⟨m, first⟩ := h.engines stream
    obtain ⟨n, second⟩ := h'.engines stream
    exact ⟨m + n, by rw [second, first, signalled_add]⟩

theorem setFrame (s : State) (f : FrameId) (r : FrameRecord) : Seals s (s.setFrame f r) f :=
  ⟨rfl, fun _ other => frame_setFrame_other _ _ _ _ other.symm, fun _ => ⟨0, (signalled_zero _ f).symm⟩⟩

theorem signal (s : State) (f : FrameId) : Seals s (s.signal f) f :=
  ⟨rfl, fun _ _ => rfl, fun j => ⟨1, signal_engine f j⟩⟩

theorem setFill (s : State) (f : FrameId) (n : Nat) : Seals s (s.setFill f n) f := by
  rcases lt_or_ge (s.frame f).fill n with rose | same
  · rw [setFill_rose rose]
    exact (setFrame ..).trans (signal ..)
  · rw [setFill_not_rose same]
    exact setFrame ..

theorem sealFrame (s : State) (f : FrameId) : Seals s (s.sealFrame f) f := by
  cases closed : (s.frame f).isSealed with
  | true =>
    rw [sealFrame_sealed closed]
    exact refl ..
  | false =>
    rw [sealFrame_unsealed closed]
    exact (setFrame ..).trans (signal ..)

theorem sealAt (s : State) (f : FrameId) (carried : Option Nat) : Seals s (s.sealAt f carried) f := by
  cases carried with
  | none => exact sealFrame ..
  | some offset => exact (setFill ..).trans (sealFrame ..)

theorem engine (h : Seals s t f) (j : StreamId) : t.engine j = { s.engine j with signals := (t.engine j).signals } := by
  obtain ⟨n, same⟩ := h.engines j
  rw [same]
  exact signalled_eq ..

end Seals

end Seals

end Sys2Proof.Proofs

namespace Sys2Proof.Proofs

open Sys2Proof.Machine Sys2Proof.Laws

/-! ### The ending seal claim (R65, R66) -/

section EndingSeal

variable {s t : State} {i : StreamId} {p : PortId} {carried : Option Nat} {rest : List Claim} {c : CurrentPage}

/-- What an ending seal claim does at the map unit. -/
structure GivesUpPlace (s t : State) (i : StreamId) (carried : Option Nat) : Prop where
  mapUnit : t.mapUnit =
    { s.mapUnit with
      frames := t.mapUnit.frames, waiters := s.mapUnit.waiters.filter fun w => w != i
      deferred := s.mapUnit.deferred.filter fun d => d.stream != i }
  ports : t.ports = s.ports
  store : t.store = s.store
  link : t.link = s.link
  command : t.command = s.command
  engine : ∀ j, t.engine j = { s.engine j with signals := (t.engine j).signals }
  closed : ∀ c, (s.engine i).currentPage = some c → (s.frame c.frame).isSealed = false →
    let fill := carried.getD (s.frame c.frame).fill
    t.frame c.frame = { s.frame c.frame with fill := fill, isSealed := true, writer := none } ∧
      ∀ j, t.engine j = (s.engine j).signalled c.frame (if (s.frame c.frame).fill < fill then 2 else 1)
  frames : ∀ g, (∀ c, (s.engine i).currentPage = some c → c.frame ≠ g) → t.frame g = s.frame g
  nothing : (s.engine i).currentPage = none → t.engines = s.engines ∧ t.mapUnit.frames = s.mapUnit.frames

theorem giveUpPlace_some (current : (s.engine i).currentPage = some c) :
    s.giveUpPlace i carried =
      ((s.sealAt c.frame carried).setWaiters ((s.sealAt c.frame carried).mapUnit.waiters.filter fun w => w != i)).setDeferred
        ((s.sealAt c.frame carried).mapUnit.deferred.filter fun d => d.stream != i) := by
  simp only [State.giveUpPlace, current]

theorem giveUpPlace_none (current : (s.engine i).currentPage = none) :
    s.giveUpPlace i carried =
      (s.setWaiters (s.mapUnit.waiters.filter fun w => w != i)).setDeferred
        (s.mapUnit.deferred.filter fun d => d.stream != i) := by
  simp only [State.giveUpPlace, current]

theorem givesUpPlace (s : State) (i : StreamId) (carried : Option Nat) :
    GivesUpPlace s (s.giveUpPlace i carried) i carried := by
  cases current : (s.engine i).currentPage with
  | none =>
    rw [giveUpPlace_none current]
    refine ⟨rfl, rfl, rfl, rfl, rfl, fun _ => rfl, fun c page => ?_, fun _ _ => rfl, fun _ => ⟨rfl, rfl⟩⟩
    cases current.symm.trans page
  | some c =>
    have seals := Seals.sealAt s c.frame carried
    rw [giveUpPlace_some current]
    have map_unit : (s.sealAt c.frame carried).mapUnit =
        { s.mapUnit with frames := (s.sealAt c.frame carried).mapUnit.frames } := congrArg State.mapUnit seals.rest
    refine ⟨?_, (congrArg State.ports seals.rest :), (congrArg State.store seals.rest :), (congrArg State.link seals.rest :),
      (congrArg State.command seals.rest :), seals.engine, fun c' page unsealed => ?_,
      fun g other => seals.frames g (other c current).symm, fun none => ?_⟩
    · exact congrArg
        (fun m : MapUnit =>
          { m with waiters := m.waiters.filter fun w => w != i, deferred := m.deferred.filter fun d => d.stream != i })
        map_unit
    · cases current.symm.trans page
      exact ⟨sealAt_frame unsealed carried, sealAt_engine unsealed carried⟩
    · cases none.symm.trans current

/-! ### The stream after the claim, and the STOP or ABORT that waited for it -/

theorem exec_endingSealClaim (h : s.ClaimNext i (.endingSeal carried) rest) :
    exec (.endingSealClaim i) s =
      .next (((s.claimTaken.giveUpPlace i carried).endBySeal i).answerStop i) := by
  show execEndingSealClaim i s = _
  rw [execEndingSealClaim, takeEngineClaim_next h]
  rfl

/-- R66: the STOP or ABORT that waited is answered. -/
theorem answerStop_waiting {m : Message} {queued : List Message} {command : HostCommand}
    (which : command ∈ [HostCommand.stop i, .abort i]) (waits : s.command.current = some ⟨command, .awaitingEndingSeal⟩)
    (queue : s.command.queue = m :: queued) : s.answerStop i = s.answered m queued [0x00] := by
  have due : s.isAt (.stop i) .awaitingEndingSeal = true ∨ s.isAt (.abort i) .awaitingEndingSeal = true := by
    simp only [isAt_iff, waits]
    simpa [eq_comm] using which
  rw [State.answerStop, if_pos due]
  exact produceReply_answered queue _

theorem answerStop_other
    (other : ∀ stage, s.command.current ≠ some ⟨.stop i, stage⟩ ∧ s.command.current ≠ some ⟨.abort i, stage⟩) :
    s.answerStop i = s := by
  refine if_neg ?_
  simp only [isAt_iff]
  exact fun due => due.elim (other .awaitingEndingSeal).1 (other .awaitingEndingSeal).2

/-- The answer reaches the command unit and the link alone. -/
theorem answerStop_rest (s : State) (i : StreamId) :
    s.answerStop i = { s with command := (s.answerStop i).command, link := (s.answerStop i).link } := by
  unfold State.answerStop
  split
  · unfold State.produceReply
    split <;> rfl
  · rfl

theorem endBySeal_failed (failed : (s.engine i).state = .failed) : s.endBySeal i = s := if_pos failed

theorem endBySeal_done {reason : EndReason} (live : (s.engine i).state ≠ .failed) (port : (s.engine i).port = some p)
    (ending : (s.engine i).endReason = some reason) :
    s.endBySeal i =
      ((s.setPort p { s.port p with gateOpen := false }).setEngine i
        { s.engine i with
          state := .done, endReason := some reason, currentPage := none, activeSlot := none, faultRecord := none
          lookFill := none, due := .none }).post (some i) (.streamEnd reason (s.engine i).position none) := by
  rw [State.endBySeal, if_neg live, ending]
  exact enterDone_bound port reason

theorem endBySeal_mapUnit : (s.endBySeal i).mapUnit = s.mapUnit := by
  unfold State.endBySeal State.enterDone
  split
  · rfl
  · simp

theorem endBySeal_engine_other {j : StreamId} (other : j ≠ i) : (s.endBySeal i).engine j = s.engine j := by
  unfold State.endBySeal State.enterDone
  split
  · rfl
  · simp [engine_modEngine_other _ _ _ _ other.symm]

/-- The notice that the ending seal claim posts, unless a hand-off has left the stream FAILED. -/
theorem endBySeal_link {reason : EndReason} (port : (s.engine i).port = some p)
    (ending : (s.engine i).endReason = some reason) :
    (s.endBySeal i).link =
      if (s.engine i).state = .failed then s.link
      else s.link.post (some i) (.streamEnd reason (s.engine i).position none) := by
  by_cases failed : (s.engine i).state = .failed
  · rw [endBySeal_failed failed, if_pos failed]
  · rw [endBySeal_done failed port ending, if_neg failed]
    rfl

/-- Settles O55. -/
theorem endingSealTakesTheStreamToDone : Obligations.EndingSealTakesTheStreamToDone := by
  intro s i p carried rest reason h port ending
  have given := givesUpPlace s.claimTaken i carried
  have run := exec_endingSealClaim h
  generalize s.claimTaken.giveUpPlace i carried = x at given run
  have map_unit : (x.endBySeal i).mapUnit = _ := endBySeal_mapUnit.trans given.mapUnit
  have engine : x.engine i = { s.engine i with signals := (x.engine i).signals } := given.engine i
  have x_port : (x.engine i).port = some p := (congrArg Engine.port engine).trans port
  have x_ending : (x.engine i).endReason = some reason := (congrArg Engine.endReason engine).trans ending
  have x_state : (x.engine i).state = (s.engine i).state := (congrArg Engine.state engine :)
  have x_position : (x.engine i).position = (s.engine i).position := (congrArg Engine.position engine :)
  have command : (x.endBySeal i).command = s.command := (inner_endBySeal x i).command.trans given.command
  have link := endBySeal_link x_port x_ending
  rw [x_state, x_position, given.link] at link
  have answer := answerStop_rest (x.endBySeal i) i
  have mapUnit_t : ((x.endBySeal i).answerStop i).mapUnit = _ := (congrArg State.mapUnit answer :).trans map_unit
  have engine_t : ∀ j, ((x.endBySeal i).answerStop i).engine j = (x.endBySeal i).engine j := fun j =>
    (congrArg (fun t : State => t.engine j) answer :)
  have port_t : ((x.endBySeal i).answerStop i).port p = (x.endBySeal i).port p :=
    (congrArg (fun t : State => t.port p) answer :)
  have frame_t : ∀ g, ((x.endBySeal i).answerStop i).frame g = x.frame g := fun g =>
    (congrArg (fun m : MapUnit => m.frames[g]) mapUnit_t :)
  refine ⟨_, run, ?_, (congrArg MapUnit.waiters mapUnit_t :), (congrArg MapUnit.maps mapUnit_t :),
    (congrArg MapUnit.freeQueue mapUnit_t :), ?_, fun c current unsealed => ⟨?_, fun j other => ?_⟩,
    fun g other => (frame_t g).trans (given.frames g other), fun none j other => ?_, fun live => ?_,
    fun failed none => ⟨?_, ?_, ?_⟩, ?_⟩
  · exact (congrArg MapUnit.claims mapUnit_t :).trans (by rw [claimTaken_claims, h.claims]; rfl)
  · exact (congrArg State.store answer :).trans ((inner_endBySeal x i).store.trans given.store)
  · exact (frame_t _).trans (given.closed c current unsealed).1
  · rw [engine_t, endBySeal_engine_other other]
    exact (given.closed c current unsealed).2 j
  · rw [engine_t, endBySeal_engine_other other]
    exact congrArg (fun es : Vector Engine 8 => es[j]) (given.nothing none).1
  · have done := endBySeal_done (by rw [x_state]; exact live) x_port x_ending
    rw [engine_t, port_t, done, engine_post, engine_setEngine_self, port_post, port_setEngine, port_setPort_self, engine]
    exact ⟨rfl, rfl, rfl, rfl, rfl, rfl, rfl, rfl, rfl⟩
  · rw [engine_t, endBySeal_failed (by rw [x_state]; exact failed)]
    exact congrArg (fun es : Vector Engine 8 => es[i]) (given.nothing none).1
  · refine (congrArg State.ports answer :).trans ?_
    rw [endBySeal_failed (by rw [x_state]; exact failed)]
    exact given.ports
  · exact (congrArg MapUnit.frames mapUnit_t :).trans (given.nothing none).2
  · intro ended
    refine ⟨fun other => ?_, fun stop m queued which waits queue => ?_⟩
    · rw [answerStop_other (by rw [command]; exact other)]
      exact ⟨command, link⟩
    · rw [answerStop_waiting which (by rw [command]; exact waits) (by rw [command]; exact queue)]
      refine ⟨?_, ?_, rfl, rfl⟩
      · obtain ⟨notices, shadow, same⟩ := (inner_endBySeal x i).link.eq
        rw [answered_replies, same, given.link]
        rfl
      · rw [answered_notices]
        exact congrArg Link.notices link

end EndingSeal

end Sys2Proof.Proofs

namespace Sys2Proof.Proofs

open Sys2Proof.Machine Sys2Proof.Laws

/-! ### A capture stream leaves its page (R97) -/

section CaptureLeave

variable {s y : State} {i : StreamId} {p : PortId} {v : VPage} {d : Descriptor} {name : SlotName} {e : Engine}
  {reason : EndReason}

/-- A state in which a stream has written the link, its port, its engine and the claims, and nothing else. -/
def ownWork (y : State) (i : StreamId) (p : PortId) (l : Link) (x : Port) (e : Engine) (claims : List Claim) : State :=
  (((y.setLink l).setPort p x).setEngine i e).setClaims claims

/-- The words of a capture FIFO counted as dropped (R72). -/
def dropping (e : Engine) (words : List Word) : Engine :=
  { e with counters := { e.counters with wordsDropped := saturatingAdd e.counters.wordsDropped words.length } }

/-- The engine after the counts of a page leave, with no page current (R97). -/
def leaving (e : Engine) (v : VPage) : Engine := { e.countLeave v with currentPage := none }

/-- A capture stream that has entered DONE with the engine `e` (R71). -/
def endedWith (y : State) (i : StreamId) (p : PortId) (l : Link) (e : Engine) (reason : EndReason) : State :=
  ownWork y i p (l.post (some i) (.streamEnd reason e.position none)) { y.port p with fifo := [], gateOpen := false }
    { e with
      state := .done, endReason := some reason, currentPage := none, activeSlot := none, faultRecord := none
      lookFill := none, due := .none } y.mapUnit.claims

/-- A capture engine whose active slot holds the segment of the page that it leaves. -/
structure Capturing (e : Engine) (p : PortId) (d : Descriptor) (name : SlotName) : Prop where
  capture : e.direction = some .capture
  port : e.port = some p
  active : e.activeSlot = some name
  slot : e.slot name = some d

theorem Capturing.descriptor (h : Capturing e p d name) : e.activeDescriptor = some d := by
  rw [Engine.activeDescriptor, h.active]
  exact h.slot

theorem discardCapture_bound (port : e.port = some p) :
    (y.setEngine i e).discardCapture i =
      (y.setPort p { y.port p with fifo := [] }).setEngine i (dropping e (y.port p).fifo) := by
  have bound : ((y.setEngine i e).engine i).port = some p := by simpa using port
  simp only [State.discardCapture, fifoOf_bound bound, setFifo_bound bound, State.modEngine]
  simp [setPort_setEngine, dropping]

theorem enterDone_endedWith (port : e.port = some p) (l : Link) :
    (((y.setLink l).setPort p { y.port p with fifo := [] }).setEngine i e).enterDone i reason =
      endedWith y i p l e reason := by
  have bound : ((((y.setLink l).setPort p { y.port p with fifo := [] }).setEngine i e).engine i).port = some p := by
    simpa using port
  rw [enterDone_bound bound]
  simp only [engine_setEngine_self, port_setEngine, port_setPort_self, setPort_setEngine, setEngine_setEngine,
    setPort_setPort]
  rfl

/-- R64, R65: a stream whose words are gone enters DONE. -/
theorem enterDone_empty (port : e.port = some p) (empty : (y.port p).fifo = []) :
    (y.setEngine i e).enterDone i reason = endedWith y i p y.link e reason := by
  have same : y.setPort p { y.port p with fifo := [] } = y := by
    rw [← empty]
    exact setPort_port y p
  rw [← enterDone_endedWith port y.link]
  exact congrArg (fun x : State => (x.setEngine i e).enterDone i reason) same.symm

/-- R72: a stream that ends drops and counts the words left. -/
theorem discard_enterDone (port : e.port = some p) (l : Link) (g : Engine → Engine)
    (keeps : (g (dropping e (y.port p).fifo)).port = some p) :
    ((((y.setLink l).setEngine i e).discardCapture i).modEngine i g).enterDone i reason =
      endedWith y i p l (g (dropping e (y.port p).fifo)) reason := by
  rw [← enterDone_endedWith keeps l, discardCapture_bound (y := y.setLink l) port]
  simp only [State.modEngine, engine_setEngine_self, setEngine_setEngine]
  rfl

/-- R79, R81: a capture segment without a successor ends its stream. -/
theorem endSegment_capture (h : Capturing e p d name) (l : Link) :
    ((y.setLink l).setEngine i e).endSegment i v reason =
      endedWith y i p l { (dropping e (y.port p).fifo).setSlot name none with position := ⟨v, 0⟩ } reason := by
  have emptied : (dropping e (y.port p).fifo).emptyActiveSlot = (dropping e (y.port p).fifo).setSlot name none := by
    have active : (dropping e (y.port p).fifo).activeSlot = some name := h.active
    simp only [Engine.emptyActiveSlot, active]
  have direction : (((y.setLink l).setEngine i e).engine i).direction = some .capture := by simpa using h.capture
  have keeps : ({ (dropping e (y.port p).fifo).emptyActiveSlot with position := ⟨v, 0⟩ } : Engine).port = some p := by
    rw [emptied]
    cases name <;> exact h.port
  simp only [State.endSegment, direction]
  refine (discard_enterDone h.port l (fun e => { e.emptyActiveSlot with position := ⟨v, 0⟩ }) keeps).trans ?_
  rw [emptied]

/-- The engine that goes on with the other slot (R77, R80). -/
def chaining (e : Engine) (name : SlotName) (other : Descriptor) : Engine :=
  { e.setSlot name none with
    activeSlot := some (otherSlot name), position := ⟨other.first, 0⟩, pagesToGo := none, triggerRecord := none
    activationPages := 0 }

/-- The state in which SEGMENT_DONE has been posted (R82). -/
def segmentDone (y : State) (i : StreamId) (name : SlotName) (e : Engine) : State :=
  (y.setLink (y.link.post (some i) (.segmentDone name e.activationPages))).setEngine i { e with pagesToGo := none }

theorem completeSegment_posted (h : Capturing e p d name) :
    (y.setEngine i e).completeSegment i v =
      if d.link then
        if (e.slot (otherSlot name)).isSome then
          ((segmentDone y i name e).modEngine i fun e => (e.setSlot name none).activate (otherSlot name)).enterChained i
        else (segmentDone y i name e).endSegment i v .starved
      else (segmentDone y i name e).endSegment i v .completed := by
  have posted : (((y.setEngine i e).modEngine i fun e => { e with pagesToGo := none }).post (some i)
      (.segmentDone name e.activationPages)) = segmentDone y i name e := by
    simp only [State.modEngine, engine_setEngine_self, setEngine_setEngine]
    rfl
  have slot : ((segmentDone y i name e).engine i).slot (otherSlot name) = e.slot (otherSlot name) := by
    rw [segmentDone, engine_setEngine_self]
    rfl
  rw [State.completeSegment, engine_setEngine_self, h.active, h.descriptor]
  dsimp only
  rw [engine_modEngine_self, engine_setEngine_self, posted, slot]

/-- R80 to R82: a completed capture segment without a successor ends its stream, COMPLETED or STARVED. -/
theorem completeSegment_ends (h : Capturing e p d name) (alone : d.link = false ∨ e.slot (otherSlot name) = none) :
    (y.setEngine i e).completeSegment i v =
      endedWith y i p (y.link.post (some i) (.segmentDone name e.activationPages))
        { (dropping { e with pagesToGo := none } (y.port p).fifo).setSlot name none with position := ⟨v, 0⟩ }
        (if d.link then .starved else .completed) := by
  have still : Capturing { e with pagesToGo := none } p d name := ⟨h.capture, h.port, h.active, h.slot⟩
  rw [completeSegment_posted h, segmentDone, ← endSegment_capture still]
  cases linked : d.link with
  | false => rfl
  | true =>
    have none : e.slot (otherSlot name) = none := alone.resolve_left (by simp [linked])
    simp [none]

/-- R80: a completed capture segment with a successor goes on with it, by write claim. -/
theorem completeSegment_chains {other : Descriptor} (h : Capturing e p d name) (linked : d.link = true)
    (next : e.slot (otherSlot name) = some other) :
    (y.setEngine i e).completeSegment i v =
      ownWork y i p (y.link.post (some i) (.segmentDone name e.activationPages)) (y.port p) (chaining e name other)
        (y.mapUnit.claims ++ [.engine i (.write other.first)]) := by
  have chained : (({ e with pagesToGo := none } : Engine).setSlot name none).activate (otherSlot name) =
      chaining e name other := by
    cases name <;> simp_all [Engine.activate, Engine.setSlot, Engine.slot, otherSlot, chaining]
  have capture : (chaining e name other).direction = some .capture := by
    cases name <;> exact h.capture
  have entered : (segmentDone y i name e).modEngine i (fun e => (e.setSlot name none).activate (otherSlot name)) =
      (y.setLink (y.link.post (some i) (.segmentDone name e.activationPages))).setEngine i (chaining e name other) := by
    simp only [segmentDone, State.modEngine, engine_setEngine_self, setEngine_setEngine, chained]
  rw [completeSegment_posted h, if_pos linked, if_pos (by simp [next]), entered, State.enterChained,
    engine_setEngine_self, capture]
  dsimp only
  rw [State.sendWrite, engine_setEngine_self, ownWork, ← port_setLink, setPort_port]
  rfl

/-! ### The five ways on from a capture page -/

theorem leaveCapturePage_left :
    (y.setEngine i e).leaveCapturePage i v =
      if e.state = .stopping then (y.setEngine i (leaving e v)).leaveInDrain i v
      else if (leaving e v).completes v then (y.setEngine i (leaving e v)).completeSegment i v
      else ((y.setEngine i (leaving e v)).advancePage i v).sendWrite i := by
  have left : (y.setEngine i e).modEngine i (fun e => { e.countLeave v with currentPage := none }) =
      y.setEngine i (leaving e v) := by
    simp [State.modEngine, leaving]
  rw [State.leaveCapturePage]
  dsimp only
  rw [left, engine_setEngine_self]
  rfl

theorem Capturing.leaving (h : Capturing e p d name) (v : VPage) : Capturing (leaving e v) p d name :=
  ⟨h.capture, h.port, h.active, h.slot⟩

theorem advancePage_capture (h : Capturing e p d name) :
    (y.setEngine i e).advancePage i v = y.setEngine i { e with position := ⟨nextPageOf d v, 0⟩ } := by
  simp [State.advancePage, State.modEngine, Engine.nextPage, h.descriptor]

/-- R100: the write claim for the next page. -/
theorem sendWrite_ownWork (q : PortId) :
    (y.setEngine i e).sendWrite i =
      ownWork y i q y.link (y.port q) e (y.mapUnit.claims ++ [.engine i (.write e.position.vpage)]) := by
  rw [State.sendWrite, engine_setEngine_self, ownWork, ← port_setLink, setPort_port]
  rfl

/-- The leave of a page that does not complete its segment (R97, step 4). -/
theorem leaveCapturePage_next (h : Capturing e p d name) (outside : e.state ≠ .stopping)
    (inner : (leaving e v).completes v = false) :
    (y.setEngine i e).leaveCapturePage i v =
      ownWork y i p y.link (y.port p) { leaving e v with position := ⟨nextPageOf d v, 0⟩ }
        (y.mapUnit.claims ++ [.engine i (.write (nextPageOf d v))]) := by
  rw [leaveCapturePage_left, if_neg outside, if_neg (by simp [inner]), advancePage_capture (h.leaving v),
    sendWrite_ownWork p]

theorem leaveCapturePage_completes (outside : e.state ≠ .stopping) (last : (leaving e v).completes v = true) :
    (y.setEngine i e).leaveCapturePage i v = (y.setEngine i (leaving e v)).completeSegment i v := by
  rw [leaveCapturePage_left, if_neg outside, if_pos last]

/-- R64: in a STOP drain, a leave that completes the segment ends the stream. -/
theorem leaveCapturePage_drainEnds (h : Capturing e p d name) (stopping : e.state = .stopping)
    (last : (leaving e v).completes v = true) :
    (y.setEngine i e).leaveCapturePage i v =
      endedWith y i p y.link
        { (dropping (leaving e v) (y.port p).fifo).setSlot name none with pagesToGo := none, position := ⟨v, 0⟩ }
        (e.endReason.getD .stopped) := by
  have active : (dropping (leaving e v) (y.port p).fifo).activeSlot = some name := h.active
  have emptied : (dropping (leaving e v) (y.port p).fifo).emptyActiveSlot =
      (dropping (leaving e v) (y.port p).fifo).setSlot name none := by
    simp only [Engine.emptyActiveSlot, active]
  rw [leaveCapturePage_left, if_pos stopping, State.leaveInDrain]
  dsimp only
  rw [engine_setEngine_self, if_pos last, ← emptied]
  refine discard_enterDone (h.leaving v).port y.link
    (fun e => { e.emptyActiveSlot with pagesToGo := none, position := ⟨v, 0⟩ }) ?_
  rw [emptied]
  cases name <;> exact h.port

theorem leaveInDrain_inner (h : Capturing e p d name) (inner : e.completes v = false) :
    (y.setEngine i e).leaveInDrain i v =
      if (y.port p).fifo.isEmpty then
        (y.setEngine i { e with position := ⟨nextPageOf d v, 0⟩ }).enterDone i (e.endReason.getD .stopped)
      else (y.setEngine i { e with position := ⟨nextPageOf d v, 0⟩ }).sendWrite i := by
  have fifo : (y.setEngine i { e with position := ⟨nextPageOf d v, 0⟩ }).fifoOf i = (y.port p).fifo :=
    fifoOf_bound (by simpa using h.port)
  rw [State.leaveInDrain]
  dsimp only
  rw [engine_setEngine_self, if_neg (by simp [inner]), advancePage_capture h, fifo]

/-- R64: a drain with no words left ends without a claim. -/
theorem leaveCapturePage_drained (h : Capturing e p d name) (stopping : e.state = .stopping)
    (inner : (leaving e v).completes v = false) (empty : (y.port p).fifo = []) :
    (y.setEngine i e).leaveCapturePage i v =
      endedWith y i p y.link { leaving e v with position := ⟨nextPageOf d v, 0⟩ } (e.endReason.getD .stopped) := by
  rw [leaveCapturePage_left, if_pos stopping, leaveInDrain_inner (h.leaving v) inner, if_pos (by simp [empty])]
  exact enterDone_empty h.port empty

/-- R64: a drain with words left goes on by write claim. -/
theorem leaveCapturePage_drains (h : Capturing e p d name) (stopping : e.state = .stopping)
    (inner : (leaving e v).completes v = false) (words : (y.port p).fifo ≠ []) :
    (y.setEngine i e).leaveCapturePage i v =
      ownWork y i p y.link (y.port p) { leaving e v with position := ⟨nextPageOf d v, 0⟩ }
        (y.mapUnit.claims ++ [.engine i (.write (nextPageOf d v))]) := by
  rw [leaveCapturePage_left, if_pos stopping, leaveInDrain_inner (h.leaving v) inner, if_neg (by simpa using words),
    sendWrite_ownWork p]

/-- Whatever the way on, the stream writes its own registers alone, the page is left, and it is counted once. -/
theorem leaveCapturePage_shape (h : Capturing e p d name) (v : VPage) :
    ∃ l x e' claims, (y.setEngine i e).leaveCapturePage i v = ownWork y i p l x e' claims ∧ e'.currentPage = none ∧
      e'.counters.pagesCompleted = e.counters.pagesCompleted + 1 := by
  by_cases stopping : e.state = .stopping <;> cases last : (leaving e v).completes v
  · by_cases words : (y.port p).fifo = []
    · exact ⟨_, _, _, _, leaveCapturePage_drained h stopping last words, rfl, rfl⟩
    · exact ⟨_, _, _, _, leaveCapturePage_drains h stopping last words, rfl, rfl⟩
  · refine ⟨_, _, _, _, leaveCapturePage_drainEnds h stopping last, rfl, ?_⟩
    cases name <;> rfl
  · exact ⟨_, _, _, _, leaveCapturePage_next h stopping last, rfl, rfl⟩
  · rw [leaveCapturePage_completes stopping last]
    by_cases alone : d.link = false ∨ e.slot (otherSlot name) = none
    · refine ⟨_, _, _, _, completeSegment_ends (h.leaving v) alone, rfl, ?_⟩
      cases name <;> rfl
    · obtain ⟨linked, next⟩ := not_or.mp alone
      obtain ⟨other, next⟩ := Option.ne_none_iff_exists'.mp next
      refine ⟨_, _, _, _, completeSegment_chains (h.leaving v) (by simpa using linked) next, ?_, ?_⟩ <;> cases name <;> rfl

/-! ### The leave seal claim (R98) -/

section LeaveSeal

variable {f : FrameId} {offset : Nat} {rest : List Claim}

/-- The state in which the map unit has sealed the frame of the page that is left. -/
def sealedFor (s : State) (f : FrameId) (offset : Nat) : State := s.claimTaken.sealAt f (some offset)

theorem exec_leaveSealClaim (h : s.ClaimNext i (.leaveSeal f (some offset)) rest) :
    exec (.leaveSealClaim i) s =
      .next ((sealedFor s f offset).leaveCapturePage i (s.engine i).position.vpage) := by
  show execLeaveSealClaim i s = _
  rw [execLeaveSealClaim, takeEngineClaim_next h]
  rfl

/-- R78: whether a leave completes the segment. -/
theorem leaving_completes (h : Capturing e p d name) (v : VPage) :
    (leaving e v).completes v = true ↔
      d.mode = .once ∧ v.val + 1 = d.first.val + d.count ∨ d.mode = .loop ∧ e.pagesToGoAfterLeave v = some 0 := by
  simp only [Engine.completes, (h.leaving v).descriptor]
  cases d.mode <;> simp [isLastPage, leaving, Engine.countLeave]

theorem pagesToGoAfterLeave_eq (h : Capturing e p d name) (v : VPage) :
    e.pagesToGoAfterLeave v =
      e.pagesToGo.map fun n =>
        if e.triggerRecord.map (fun t => t.vpage) = some v ∨ n < d.postTrigger + 1 then n - 1 else n := by
  simp only [Engine.pagesToGoAfterLeave, h.descriptor]
  cases e.pagesToGo with
  | none => rfl
  | some n => exact (apply_ite some _ _ _).symm

theorem nextPageOf_eq (d : Descriptor) (v : VPage) :
    nextPageOf d v = if v.val + 1 = d.first.val + d.count then d.first else v + 1 := by
  simp [nextPageOf, isLastPage]

section Reading

variable {l : Link} {x : Port} {claims : List Claim}

theorem engine_ownWork_self : (ownWork y i p l x e claims).engine i = e := engine_setEngine_self ..

theorem engine_ownWork_other {j : StreamId} (other : j ≠ i) : (ownWork y i p l x e claims).engine j = y.engine j :=
  engine_setEngine_other _ _ _ _ other.symm

theorem port_ownWork : (ownWork y i p l x e claims).port p = x := port_setPort_self ..

theorem engine_endedWith :
    (endedWith y i p l e reason).engine i =
      { e with
        state := .done, endReason := some reason, currentPage := none, activeSlot := none, faultRecord := none
        lookFill := none, due := .none } := engine_ownWork_self

/-- A stream that has entered DONE at page `v`, with no words left and no claim sent (R71). -/
structure EndedAt (t : State) (i : StreamId) (p : PortId) (reason : EndReason) (v : VPage) (claims : List Claim) : Prop where
  state : (t.engine i).state = .done
  reason : (t.engine i).endReason = some reason
  idle : (t.engine i).activeSlot = none
  position : (t.engine i).position = ⟨v, 0⟩
  fifo : (t.port p).fifo = []
  gate : (t.port p).gateOpen = false
  claims : t.mapUnit.claims = claims

theorem EndedAt.reads {t : State} (h : EndedAt t i p reason v claims) :
    (t.engine i).state = .done ∧ (t.engine i).endReason = some reason ∧ (t.engine i).activeSlot = none ∧
      (t.engine i).position = ⟨v, 0⟩ ∧ (t.port p).fifo = [] ∧ (t.port p).gateOpen = false ∧ t.mapUnit.claims = claims :=
  ⟨h.state, h.reason, h.idle, h.position, h.fifo, h.gate, h.claims⟩

theorem endedAt_endedWith (position : e.position = ⟨v, 0⟩) :
    EndedAt (endedWith y i p l e reason) i p reason v y.mapUnit.claims := by
  have engine : (endedWith y i p l e reason).engine i = _ := engine_endedWith
  have port : (endedWith y i p l e reason).port p = _ := port_ownWork
  exact ⟨by rw [engine], by rw [engine], by rw [engine], by rw [engine]; exact position, by rw [port], by rw [port], rfl⟩

/-- An emptied slot leaves the rest of the context as it was. -/
theorem setSlot_reads (e : Engine) (name : SlotName) :
    (e.setSlot name none).slot name = none ∧
      (e.setSlot name none).slot (otherSlot name) = e.slot (otherSlot name) ∧
      (e.setSlot name none).pagesToGo = e.pagesToGo ∧ (e.setSlot name none).counters = e.counters ∧
      (e.setSlot name none).state = e.state := by
  cases name <;> exact ⟨rfl, rfl, rfl, rfl, rfl⟩

/-- What is read of a stream whose segment completes without a successor (R79 to R82). -/
theorem ends_reads (h : Capturing e p d name) (outside : e.state ≠ .stopping) (last : (leaving e v).completes v = true)
    (alone : d.link = false ∨ e.slot (otherSlot name) = none) :
    let t := (y.setEngine i e).leaveCapturePage i v
    let reason : EndReason := if d.link then .starved else .completed
    EndedAt t i p reason v y.mapUnit.claims ∧ (t.engine i).slot name = none ∧ (t.engine i).pagesToGo = none ∧
      (t.engine i).slot (otherSlot name) = e.slot (otherSlot name) ∧
      (t.engine i).counters.wordsDropped = saturatingAdd e.counters.wordsDropped (y.port p).fifo.length ∧
      t.link = (y.link.post (some i) (.segmentDone name (saturatingAdd e.activationPages 1))).post (some i)
        (.streamEnd reason ⟨v, 0⟩ none) := by
  intro t reason
  obtain ⟨emptied, kept, toGo, counters, _⟩ := setSlot_reads
    (dropping { leaving e v with pagesToGo := none } (y.port p).fifo) name
  have ends : t = _ := (leaveCapturePage_completes outside last).trans (completeSegment_ends (h.leaving v) alone)
  rw [ends, engine_endedWith]
  exact ⟨endedAt_endedWith rfl, emptied, toGo, kept, congrArg Counters.wordsDropped counters, rfl⟩

/-- What is read of a STOP drain whose page leave completes the segment (R64). -/
theorem drainEnds_reads (h : Capturing e p d name) (stopping : e.state = .stopping)
    (last : (leaving e v).completes v = true) :
    let t := (y.setEngine i e).leaveCapturePage i v
    let reason := e.endReason.getD .stopped
    EndedAt t i p reason v y.mapUnit.claims ∧ (t.engine i).slot name = none ∧ (t.engine i).pagesToGo = none ∧
      (t.engine i).counters.wordsDropped = saturatingAdd e.counters.wordsDropped (y.port p).fifo.length ∧
      t.link = y.link.post (some i) (.streamEnd reason ⟨v, 0⟩ none) := by
  intro t reason
  obtain ⟨emptied, _, _, counters, _⟩ := setSlot_reads (dropping (leaving e v) (y.port p).fifo) name
  have ends : t = _ := leaveCapturePage_drainEnds h stopping last
  rw [ends, engine_endedWith]
  exact ⟨endedAt_endedWith rfl, emptied, rfl, congrArg Counters.wordsDropped counters, rfl⟩

/-- What is read of a STOP drain that ends with no words left (R64). -/
theorem drained_reads (h : Capturing e p d name) (stopping : e.state = .stopping)
    (inner : (leaving e v).completes v = false) (empty : (y.port p).fifo = []) :
    let t := (y.setEngine i e).leaveCapturePage i v
    let reason := e.endReason.getD .stopped
    EndedAt t i p reason (nextPageOf d v) y.mapUnit.claims ∧ (t.engine i).slot name = e.slot name ∧
      t.link = y.link.post (some i) (.streamEnd reason ⟨nextPageOf d v, 0⟩ none) := by
  intro t reason
  have ends : t = _ := leaveCapturePage_drained h stopping inner empty
  rw [ends, engine_endedWith]
  exact ⟨endedAt_endedWith rfl, rfl, rfl⟩

/-- What is read of a stream that goes on with the other slot (R77, R80). -/
theorem chains_reads {other : Descriptor} (h : Capturing e p d name) (outside : e.state ≠ .stopping)
    (last : (leaving e v).completes v = true) (linked : d.link = true) (next : e.slot (otherSlot name) = some other) :
    let t := (y.setEngine i e).leaveCapturePage i v
    (t.engine i).state = e.state ∧ (t.engine i).activeSlot = some (otherSlot name) ∧ (t.engine i).slot name = none ∧
      (t.engine i).position = ⟨other.first, 0⟩ ∧ (t.engine i).activationPages = 0 ∧ (t.engine i).pagesToGo = none ∧
      (t.engine i).triggerRecord = none ∧ t.port p = y.port p ∧
      t.link = y.link.post (some i) (.segmentDone name (saturatingAdd e.activationPages 1)) ∧
      t.mapUnit.claims = y.mapUnit.claims ++ [.engine i (.write other.first)] := by
  intro t
  obtain ⟨emptied, _, _, _, state⟩ := setSlot_reads (leaving e v) name
  have chains : t = _ :=
    (leaveCapturePage_completes outside last).trans (completeSegment_chains (h.leaving v) linked next)
  rw [chains, engine_ownWork_self]
  exact ⟨state, rfl, emptied, rfl, rfl, rfl, rfl, port_ownWork, rfl, rfl⟩

end Reading

/-- Settles O54. -/
theorem leaveSealEndsThePage : Obligations.LeaveSealEndsThePage := by
  intro s i p f offset rest d name h unsealed capture port active slot v last next pages toGo completes dropped
  have run := exec_leaveSealClaim h
  have seals : Seals s.claimTaken (sealedFor s f offset) f := Seals.sealAt ..
  have frame : (sealedFor s f offset).frame f = _ := sealAt_frame (s := s.claimTaken) unsealed _
  have engines := fun j => sealAt_engine (s := s.claimTaken) unsealed (some offset) j
  change ∀ j, (sealedFor s f offset).engine j = _ at engines
  generalize sealedFor s f offset = y at run seals frame engines
  have map_unit : y.mapUnit = { s.claimTaken.mapUnit with frames := y.mapUnit.frames } := congrArg State.mapUnit seals.rest
  have link : y.link = s.link := (congrArg State.link seals.rest :)
  have store : y.store = s.store := (congrArg State.store seals.rest :)
  have port_y : y.port p = s.port p := (congrArg (fun t : State => t.port p) seals.rest :)
  have claims : y.mapUnit.claims = rest :=
    (congrArg MapUnit.claims map_unit :).trans (by rw [claimTaken_claims, h.claims]; rfl)
  let e : Engine := { s.engine i with signals := (y.engine i).signals }
  have back : y.setEngine i e = y := by
    conv_rhs => rw [← setEngine_engine y i, seals.engine i]
    rfl
  have capturing : Capturing e p d name := ⟨capture, port, active, slot⟩
  have completes_iff : (leaving e v).completes v = true ↔ completes := by
    rw [leaving_completes capturing v, pagesToGoAfterLeave_eq capturing v]
  have outside : (s.engine i).state ∈ [.running, .paused] → e.state ≠ .stopping := fun runs stopping => by
    have stopping : (s.engine i).state = .stopping := stopping
    simp [stopping] at runs
  have ending : (s.engine i).endReason = some .stopped → e.endReason.getD .stopped = .stopped := fun stopped => by
    change (s.engine i).endReason.getD .stopped = .stopped
    rw [stopped]
    rfl
  have toGo_eq : (leaving e v).pagesToGo = toGo := pagesToGoAfterLeave_eq capturing v
  have next_eq : nextPageOf d v = next := nextPageOf_eq d v
  rw [← back] at run
  obtain ⟨l, x, e', cs, shape, left, counted⟩ := leaveCapturePage_shape (y := y) (i := i) capturing v
  have others : ∀ j, j ≠ i → ((y.setEngine i e).leaveCapturePage i v).engine j =
      (s.engine j).signalled f (if (s.frame f).fill < offset then 2 else 1) := fun j other => by
    rw [shape, engine_ownWork_other other]
    exact engines j
  have current : (((y.setEngine i e).leaveCapturePage i v).engine i).currentPage = none := by
    rw [shape, engine_ownWork_self, left]
  have pages_completed : (((y.setEngine i e).leaveCapturePage i v).engine i).counters.pagesCompleted =
      (s.engine i).counters.pagesCompleted + 1 := by
    rw [shape, engine_ownWork_self, counted]
  refine ⟨_, run, ?_, ?_, ?_, ?_, ?_, current, others, pages_completed, ?_⟩
  · rw [shape]
    exact frame
  · intro g other
    rw [shape]
    exact seals.frames g other
  · rw [shape]
    exact (congrArg MapUnit.maps map_unit :)
  · rw [shape]
    exact (congrArg MapUnit.freeQueue map_unit :)
  · rw [shape]
    exact store
  clear shape others current pages_completed
  intro ended
  refine ⟨fun state => ⟨fun inner => ?_, fun last => ⟨fun alone => ?_, fun other linked armed => ?_⟩⟩,
    fun state stopped => ⟨fun last => ?_, fun inner empty => ?_, fun inner words => ?_⟩⟩
  · rw [leaveCapturePage_next capturing (outside state) (by simpa using mt completes_iff.mp inner), engine_ownWork_self]
    refine ⟨rfl, ?_, rfl, toGo_eq, rfl, link, ?_⟩
    · rw [next_eq]
    · rw [next_eq, claims]
      rfl
  · have reads := ends_reads (y := y) (i := i) capturing (outside state) (completes_iff.mpr last) alone
    rw [port_y, link, claims] at reads
    obtain ⟨done, reads⟩ := reads
    exact ⟨done.reads, reads⟩
  · have reads := chains_reads (y := y) (i := i) capturing (outside state) (completes_iff.mpr last) linked armed
    rw [link, port_y, claims] at reads
    exact reads
  · have reads := drainEnds_reads (y := y) (i := i) capturing state (completes_iff.mpr last)
    rw [port_y, link, claims, ending stopped] at reads
    obtain ⟨done, reads⟩ := reads
    exact ⟨done.reads, reads⟩
  · have reads := drained_reads (y := y) (i := i) capturing state (by simpa using mt completes_iff.mp inner)
      (by rw [port_y]; exact empty)
    rw [link, claims, next_eq, ending stopped] at reads
    obtain ⟨done, kept, posted⟩ := reads
    exact ⟨done.reads, kept.trans slot, posted⟩
  · rw [leaveCapturePage_drains capturing state (by simpa using mt completes_iff.mp inner) (by rw [port_y]; exact words),
      engine_ownWork_self]
    refine ⟨state, ?_, toGo_eq, port_ownWork.trans port_y, link, ?_⟩
    · rw [next_eq]
    · rw [next_eq, claims]
      rfl

end LeaveSeal

end CaptureLeave

end Sys2Proof.Proofs

namespace Sys2Proof.Proofs

open Sys2Proof.Machine Sys2Proof.Laws

/-! ### The write claim decided with the free-frame queue (R101) -/

section WriteClaim

variable {s t : State} {i j : StreamId} {v u : VPage} {f g : FrameId} {queue : List FrameId} {access : Access}

theorem writeClaim_reuses (present : s.entry i v = some ⟨f, .readWrite⟩) (unheld : (s.frame f).hostHold = false)
    (used : Used s f) (alone : (s.frame f).refcount ≤ 1) :
    s.writeClaim i v = (s.setFrame f ((s.frame f).renewed (some i))).giveFrame i v f .readWrite := by
  rw [State.writeClaim, decideWrite_reuse present unheld used alone]
  rfl

/-- What the write claim changes that detaches from the frame `f` onto the head `g` of the queue (R9, R104, R105). -/
structure DetachesOnto (s t : State) (i : StreamId) (v : VPage) (f g : FrameId) (queue : List FrameId) : Prop where
  named : t.entry i v = some ⟨g, .readWrite⟩
  entries : ∀ j b, (j ≠ i ∨ b ≠ v) → t.entry j b = s.entry j b
  renewed : t.frame g =
    { s.frame g with
      state := .bound, refcount := 1, fill := 0, isSealed := false, generation := (s.frame g).generation + 1
      writer := some i }
  left : t.frame f = { s.frame f with refcount := (s.frame f).refcount - 1 }
  freeQueue : t.mapUnit.freeQueue = queue
  deferred : t.mapUnit.deferred = s.mapUnit.deferred
  engine : t.engine i =
    { s.engine i with
      state := stateGivenFrame (s.engine i).state (s.engine i).endReason
      cache := cacheInstall (cacheDrop (s.engine i).cache v 1) v g .readWrite
      currentPage := some ⟨v, g⟩, position := ⟨v, 0⟩, faultRecord := none }
  engines : ∀ j, j ≠ i → t.engine j = s.engine j
  gate : (s.engine i).state = .waitFault → (s.engine i).endReason = none →
    ∀ q, (s.engine i).port = some q → t.port q = { s.port q with gateOpen := true }

theorem writeClaim_detaches (present : s.entry i v = some ⟨f, .readWrite⟩) (unheld : (s.frame f).hostHold = false)
    (used : Used s f) (shared : 2 ≤ (s.frame f).refcount) (head : s.mapUnit.freeQueue = g :: queue) (apart : g ≠ f) :
    DetachesOnto s (s.writeClaim i v) i v f g queue := by
  let issued := (s.purge i v 1).issueFromQueue g (some i)
  have frame : issued.frame f = s.frame f := by
    simp [issued, State.issueFromQueue, State.issue, frame_setFrame_other _ _ _ _ apart]
  have engine : issued.engine i = { s.engine i with cache := cacheDrop (s.engine i).cache v 1 } := by
    simp [issued, State.issueFromQueue, State.issue, State.purge]
  have claimed : s.writeClaim i v =
      ((issued.setEntry i v (some ⟨g, .readWrite⟩)).setFrame f
        { s.frame f with refcount := (s.frame f).refcount - 1 }).giveFrame i v g .readWrite := by
    rw [State.writeClaim, head, List.head?_cons, decideWrite_detach present unheld used shared, ← frame]
    rfl
  rw [claimed]
  refine ⟨?_, fun j b other => ?_, ?_, ?_, ?_, ?_, ?_, fun j other => ?_, fun state running q port => ?_⟩
  · simp
  · rw [entry_giveFrame, entry_setFrame, entry_setEntry_elsewhere other]
    simp [issued, State.issueFromQueue, State.issue]
  · rw [frame_giveFrame, frame_setFrame_other _ _ _ _ apart.symm]
    simp [issued, State.issueFromQueue, State.issue, FrameRecord.renewed]
  · simp
  · simp [issued, State.issueFromQueue, State.issue, State.purge, head]
  · simp [issued, State.issueFromQueue, State.issue, State.purge]
  · rw [giveFrame_engine, engine_setFrame, engine_setEntry, engine]
  · rw [giveFrame_engine_other _ _ _ other.symm]
    simp [issued, State.issueFromQueue, State.issue, State.purge, engine_setEngine_other _ _ _ _ other.symm]
  · rw [giveFrame_gate (by rw [engine_setFrame, engine_setEntry, engine]; exact state)
      (by rw [engine_setFrame, engine_setEntry, engine]; exact running)
      (by rw [engine_setFrame, engine_setEntry, engine]; exact port)]
    simp [issued, State.issueFromQueue, State.issue, State.purge]

end WriteClaim

/-! ### The completion claim of a WRITE_DATA (R139) -/

section Completion

variable {s : State} {m : Message} {rest : List Message} {c : HostCommand} {x : Transfer}

/-- The state in which the claims that were set aside are decided: the fill has risen, the readers are signalled, and
the hold is cleared (R4, R8). -/
def holdCleared (s : State) (x : Transfer) (fill : Nat) : State :=
  let settled := s.claimTaken.setFrame x.frame { s.frame x.frame with fill := fill, hostHold := false }
  if (s.frame x.frame).fill < fill then settled.signal x.frame else settled

theorem exec_writeDataCompletion (at_ : s.command.current = some ⟨c, .completing⟩) (queue : s.command.queue = m :: rest)
    (transfer : s.command.transfer = some x) (out : s.heldInReset = none) (pool : s.mapUnit.initInProgress = false)
    (oldest : s.mapUnit.claims.head? = some .host) :
    let fill := max (s.frame x.frame).fill (x.offset + x.total)
    exec .writeDataCompletion s = .next
      ((holdCleared s x fill).decideAllDeferred.answered m rest
        (writeDataPayload x.frame (s.frame x.frame).generation fill)) := by
  intro fill
  have due : s.completionDue = true := by
    simp [State.completionDue, State.oldestClaim, State.mapUnitTakes, at_, out, pool, oldest]
  have run : exec .writeDataCompletion s = .next (s.claimTaken.completeWrite x) := by
    show execWriteDataCompletion s = _
    rw [execWriteDataCompletion, takeStep_due due, transfer]
    rfl
  have filled : (s.claimTaken.setFill x.frame fill).frame x.frame = { s.frame x.frame with fill := fill } := by
    rcases lt_or_ge (s.frame x.frame).fill fill with rose | same
    · rw [setFill_rose (s := s.claimTaken) rose, frame_signal, frame_setFrame_self, frame_claimTaken]
    · rw [setFill_not_rose (s := s.claimTaken) same, frame_setFrame_self, frame_claimTaken]
  have cleared : (s.claimTaken.setFill x.frame fill).setFrame x.frame
      { s.frame x.frame with fill := fill, hostHold := false } = holdCleared s x fill := by
    rcases lt_or_ge (s.frame x.frame).fill fill with rose | same
    · rw [setFill_rose (s := s.claimTaken) rose, holdCleared, if_pos rose]
      exact congrArg (fun t : State => t.signal x.frame) (setFrame_setFrame (s := s.claimTaken) x.frame _ _)
    · rw [setFill_not_rose (s := s.claimTaken) same, holdCleared, if_neg (not_lt.mpr same), setFrame_setFrame]
  have command : (holdCleared s x fill).decideAllDeferred.command.queue = m :: rest := by
    rw [(inner_decideAllDeferred _).command, ← cleared, setFrame_command, (inner_setFill _ _ _).command]
    exact queue
  have completes : s.claimTaken.completeWrite x = (holdCleared s x fill).decideAllDeferred.produceReply
      (writeDataPayload x.frame (s.frame x.frame).generation fill) := by
    rw [← cleared, State.completeWrite]
    dsimp only [frame_claimTaken]
    rw [filled]
  rw [run, completes, produceReply_answered command]

/-! ### The claims set aside are decided (R8) -/

section Deferred

variable {i j : StreamId} {v u : VPage} {fill : Nat}

theorem decideAllDeferred_nil (nothing : s.mapUnit.deferred = []) : s.decideAllDeferred = s := by
  have same : s.setDeferred [] = s := by
    rw [← nothing]
    rfl
  rw [State.decideAllDeferred, nothing]
  exact same

theorem decideAllDeferred_one {d : DeferredClaim} (one : s.mapUnit.deferred = [d]) :
    s.decideAllDeferred = (s.setDeferred []).decideDeferred d := by
  rw [State.decideAllDeferred, one]
  rfl

theorem decideAllDeferred_two {d e : DeferredClaim} (two : s.mapUnit.deferred = [d, e]) :
    s.decideAllDeferred = ((s.setDeferred []).decideDeferred d).decideDeferred e := by
  rw [State.decideAllDeferred, two]
  rfl

theorem replies_of_inner {t : State} (inner : Inner s t) : t.link.replies = s.link.replies := by
  obtain ⟨notices, shadow, same⟩ := inner.link.eq
  rw [same]

theorem holdCleared_seals : Seals s.claimTaken (holdCleared s x fill) x.frame := by
  rw [holdCleared]
  dsimp only
  split
  · exact (Seals.setFrame ..).trans (Seals.signal ..)
  · exact Seals.setFrame ..

theorem frame_holdCleared :
    (holdCleared s x fill).frame x.frame = { s.frame x.frame with fill := fill, hostHold := false } := by
  rw [holdCleared]
  dsimp only
  split
  · rw [frame_signal, frame_setFrame_self]
  · rw [frame_setFrame_self]

/-- R118: a release that was set aside gives the frame back, and the stream goes on to the next page. -/
theorem decideRelease_returns {f : FrameId} {access : Access} {d : Descriptor} (present : s.entry i v = some ⟨f, access⟩)
    (one : (s.frame f).refcount = 1) (nobody : s.mapUnit.waiters = [])
    (active : (s.engine i).activeDescriptor = some d) (inner : v.val + 1 ≠ d.first.val + d.count)
    (toGo : (s.engine i).pagesToGo = none) :
    s.decideRelease i v =
      ((((s.setEntry i v none).setFrame f
        { s.frame f with refcount := 0, state := .free, writer := none }).setFreeQueue
        (s.mapUnit.freeQueue ++ [f])).setLowArmed
        (s.mapUnit.lowArmed || s.mapUnit.lowMark ≤ (s.mapUnit.freeQueue ++ [f]).length)).setEngine i
        { s.engine i with
          cache := cacheDrop (s.engine i).cache v 1, currentPage := none, position := ⟨v + 1, 0⟩, due := .entering
          lookFill := none } := by
  have next : nextPageOf d v = v + 1 := (nextPageOf_eq d v).trans (if_neg inner)
  have left := fun t : State => afterReplayLeave_next (s := t) (i := i) (v := v)
    (e := { s.engine i with cache := cacheDrop (s.engine i).cache v 1 }) active toGo (.inr inner)
  rw [next] at left
  have released := release_returned (s := (s.purge i v 1).setEntry i v none) one nobody
  rw [← left, State.decideRelease, entry_purge, present]
  exact congrArg (fun t : State => t.afterReplayLeave i v) released

/-- Settles O45. -/
theorem writeCompletionClearsTheHold : Obligations.WriteCompletionClearsTheHold := by
  intro s m rest c x at_ queue transfer out pool oldest fill reply settled signalled
  have run : exec .writeDataCompletion s = .next ((holdCleared s x fill).decideAllDeferred.answered m rest reply) :=
    exec_writeDataCompletion at_ queue transfer out pool oldest
  have seals : Seals s.claimTaken (holdCleared s x fill) x.frame := holdCleared_seals
  have frame : (holdCleared s x fill).frame x.frame = _ := frame_holdCleared
  have same : holdCleared s x fill = signalled := rfl
  rw [same] at run seals frame
  clear_value signalled
  have map_unit : signalled.mapUnit = { s.claimTaken.mapUnit with frames := signalled.mapUnit.frames } :=
    congrArg State.mapUnit seals.rest
  have deferred : signalled.mapUnit.deferred = s.mapUnit.deferred := (congrArg MapUnit.deferred map_unit :)
  have link : signalled.link = s.link := (congrArg State.link seals.rest :)
  have engine := seals.engine
  have entry : ∀ i v, signalled.entry i v = s.entry i v := fun i v =>
    (congrArg (fun t : State => t.entry i v) seals.rest :)
  refine ⟨fun nothing => ?_, fun i v access d one present alone nobody active inner toGo => ?_,
    fun i j v u g others apart two present present_j written shared head other => ?_,
    fun i v one present written alone running => ?_⟩
  · rw [run, decideAllDeferred_nil (deferred.trans nothing)]
  · intro back
    have decided := decideRelease_returns (s := signalled.setDeferred []) (i := i) (v := v) (f := x.frame) (access := access)
      (d := d) ((entry i v).trans present) (by rw [frame_setDeferred, frame]; exact alone)
      ((congrArg MapUnit.waiters map_unit :).trans nobody) (by rw [engine_setDeferred, engine]; exact active) inner
      (by rw [engine_setDeferred, engine]; exact toGo)
    rw [run, decideAllDeferred_one (deferred.trans one)]
    refine congrArg (fun t : State => Host.Outcome.next (t.answered m rest reply)) (decided.trans ?_)
    have cache : (signalled.engine i).cache = (s.engine i).cache := (congrArg Engine.cache (engine i) :)
    have free : signalled.mapUnit.freeQueue = s.mapUnit.freeQueue := (congrArg MapUnit.freeQueue map_unit :)
    have armed : signalled.mapUnit.lowArmed = s.mapUnit.lowArmed := (congrArg MapUnit.lowArmed map_unit :)
    have mark : signalled.mapUnit.lowMark = s.mapUnit.lowMark := (congrArg MapUnit.lowMark map_unit :)
    simp only [frame_setDeferred, frame, engine_setDeferred, setDeferred_mapUnit, cache, free, armed, mark]
    rfl
  · have older : DetachesOnto (signalled.setDeferred []) ((signalled.setDeferred []).writeClaim i v) i v x.frame g others :=
      writeClaim_detaches ((entry i v).trans present) (by rw [frame_setDeferred, frame])
        (by rw [Used, frame_setDeferred, frame]; exact fun fresh => written.ne' fresh.2.1)
        (by rw [frame_setDeferred, frame]; exact shared.ge) ((congrArg MapUnit.freeQueue map_unit :).trans head) other
    rw [run, decideAllDeferred_two (deferred.trans two)]
    have inner : Inner signalled ((signalled.setDeferred []).writeClaim i v) :=
      (inner_setDeferred ..).trans (inner_writeClaim ..)
    simp only [State.decideDeferred]
    generalize (signalled.setDeferred []).writeClaim i v = t at older inner ⊢
    have left := older.left
    rw [frame_setDeferred, frame] at left
    have younger : t.writeClaim j u =
        (t.setFrame x.frame ((t.frame x.frame).renewed (some j))).giveFrame j u x.frame .readWrite :=
      writeClaim_reuses ((older.entries j u (.inl apart.symm)).trans ((entry j u).trans present_j)) (by rw [left])
        (by rw [Used, left]; exact fun fresh => written.ne' fresh.2.1) (by rw [left]; simp [shared])
    have inner_last : Inner signalled (t.writeClaim j u) := inner.trans (inner_writeClaim ..)
    refine ⟨_, rfl, ?_, ?_, ?_, ?_, ?_, ?_, ?_, ?_, ?_⟩
    · simp [younger, older.deferred]
    · simp [younger, older.freeQueue]
    · simp [younger, older.named]
    · simp [younger, older.entries j u (.inl apart.symm), entry, present_j]
    · rw [frame_answered, younger, frame_giveFrame, frame_setFrame_other _ _ _ _ other.symm, older.renewed,
        frame_setDeferred, seals.frames g other]
      rfl
    · rw [frame_answered, younger, frame_giveFrame, frame_setFrame_self, left]
      simp [FrameRecord.renewed, shared]
    · rw [engine_answered, younger, giveFrame_engine_other _ _ _ apart.symm, engine_setFrame, older.engine]
    · rw [engine_answered, younger, giveFrame_engine]
    · rw [answered_replies, replies_of_inner inner_last, link]
  · rw [run, decideAllDeferred_one (deferred.trans one)]
    have reused : (signalled.setDeferred []).writeClaim i v = _ :=
      writeClaim_reuses ((entry i v).trans present) (by rw [frame_setDeferred, frame])
        (by rw [Used, frame_setDeferred, frame]; exact fun fresh => written.ne' fresh.2.1)
        (by rw [frame_setDeferred, frame]; exact alone.le)
    have inner : Inner signalled ((signalled.setDeferred []).writeClaim i v) :=
      (inner_setDeferred ..).trans (inner_writeClaim ..)
    have state : ((signalled.setDeferred []).engine i).state = .running := (congrArg Engine.state (engine i) :).trans running
    simp only [State.decideDeferred]
    refine ⟨_, rfl, ?_, ?_, ?_, ?_, ?_⟩
    · simp [reused]
    · rw [frame_answered, reused, frame_giveFrame, frame_setFrame_self, frame_setDeferred, frame]
      rfl
    · rw [engine_answered, reused, giveFrame_engine]
    · rw [engine_answered, reused, giveFrame_engine, engine_setFrame, state]
      rfl
    · rw [answered_replies, replies_of_inner inner, link]

end Deferred

end Completion

end Sys2Proof.Proofs

namespace Sys2Proof.Proofs

open Sys2Proof.Machine Sys2Proof.Laws

/-! ### CLOSE at the stream engine (R58) -/

section CloseEngine

variable {s : State} {m : Message} {rest : List Message} {i : StreamId} {release : Bool} {p : PortId}

theorem exec_closeStream (h : s.AtEngine i (.closeStream i release) m rest) :
    exec (.closeStream i release) s = .next (s.closeStream i release) := by
  have claim : s.claimDue (.closeStream i release) .releasingMap = false := by
    simp [State.claimDue, State.isAt, h.current]
  show execCloseStream i release s = _
  rw [execCloseStream, claim, if_neg (by simp)]
  exact takeStep_due (commandDue_at h) _

theorem closes_iff {state : StreamState} : state.closes = true ↔ state ∈ [StreamState.ready, .done, .failed] := by
  cases state <;> decide

theorem closeStream_refused (h : s.command.queue = m :: rest)
    (open_ : (s.engine i).state ∉ [StreamState.ready, .done, .failed]) :
    s.closeStream i release = s.answered m rest [0x05] := by
  rw [State.closeStream, if_neg (by rw [closes_iff]; exact open_)]
  exact refuse_answered h _

/-- R52, R58: the port is unbound, and the context returned to IDLE with its counters. -/
theorem closeEngine_bound (port : (s.engine i).port = some p) :
    s.closeEngine i =
      (s.setPort p Port.unbound).setEngine i { Engine.reset with counters := (s.engine i).counters } := by
  rw [State.closeEngine, modPortOf_bound port]

theorem closeStream_kept (closes : (s.engine i).state ∈ [StreamState.ready, .done, .failed]) :
    s.closeStream i false = (s.closeEngine i).produceReply (pairPayload 0 0) := by
  rw [State.closeStream, if_pos (closes_iff.mpr closes)]
  rfl

theorem closeStream_releases (closes : (s.engine i).state ∈ [StreamState.ready, .done, .failed]) :
    s.closeStream i true = ((s.closeEngine i).setStage (.closeStream i true) .releasingMap).sendClaim .host := by
  rw [State.closeStream, if_pos (closes_iff.mpr closes)]
  rfl

end CloseEngine

/-! ### The release of the whole map (R38) -/

section ReleaseMap

variable {s : State} {m : Message} {rest : List Message} {i w : StreamId} {v u : VPage} {f g : FrameId}
  {others : List StreamId}

/-- The map unit takes the release of the map of a stream that a CLOSE has returned to IDLE. -/
structure ReleasingMap (s : State) (i : StreamId) : Prop where
  current : s.command.current = some ⟨.closeStream i true, .releasingMap⟩
  out : s.heldInReset = none
  pool : s.mapUnit.initInProgress = false
  oldest : s.mapUnit.claims.head? = some .host
  idle : (s.engine i).state = .idle

/-- The state from which the entries are passed over: the claim taken, and the cache purged (R46). -/
def purged (s : State) (i : StreamId) : State := s.claimTaken.purge i 0 512

theorem ReleasingMap.exec_close (h : ReleasingMap s i) :
    exec (.closeStream i true) s = .next (s.claimTaken.releaseMap i) := by
  have due : s.claimDue (.closeStream i true) .releasingMap = true := by
    simp [State.claimDue, State.isAt, h.current, State.oldestClaim, State.mapUnitTakes, h.out, h.pool, h.oldest]
  show execCloseStream i true s = _
  rw [execCloseStream, if_pos due]
  rfl

theorem ReleasingMap.purgeInUse (h : ReleasingMap s i) (v : VPage) (n : Nat) : (s.engine i).purgeInUse v n = false := by
  simp [Engine.purgeInUse, h.idle, StreamState.isActive]

theorem releaseMap_answered (queue : s.command.queue = m :: rest) :
    s.claimTaken.releaseMap i =
      (let r := (purged s i).releasePages i (pagesFrom 0 512)
       r.state.answered m rest (pairPayload r.entries r.frames)) := by
  have command : ((purged s i).releasePages i (pagesFrom 0 512)).state.command.queue = m :: rest := by
    rw [(inner_releasePages _ i _).command]
    exact queue
  rw [State.releaseMap]
  exact produceReply_answered command _

/-- R38: the release of the map is the UNMAP of its 512 pages. -/
theorem ReleasingMap.same_as_unmap (h : ReleasingMap s i) (queued : s.command.queue ≠ []) :
    exec (.closeStream i true) s =
      exec (.unmap i 0 512) { s with command := { s.command with current := some ⟨.unmap i 0 512, .handed⟩ } } := by
  obtain ⟨m, rest, queue⟩ := List.exists_cons_of_ne_nil queued
  let command : CommandUnit := { s.command with current := some ⟨.unmap i 0 512, .handed⟩ }
  have due : (s.setCommand command).AtMapUnit (.unmap i 0 512) m rest := ⟨⟨rfl, queue⟩, h.out, h.pool, h.oldest⟩
  have unmapped : exec (.unmap i 0 512) (s.setCommand command) = _ := exec_unmap_released due (h.purgeInUse 0 512)
  have apart : ((s.setCommand command).claimTaken.purge i 0 512).releasePages i (pagesFrom 0 512) = _ :=
    releasePages_setCommand (purged s i) command i (pagesFrom 0 512)
  rw [h.exec_close, releaseMap_answered queue]
  refine Eq.trans ?_ unmapped.symm
  rw [apart]
  generalize (purged s i).releasePages i (pagesFrom 0 512) = r
  rfl

theorem cacheDrop_all (cache : Cache) : cacheDrop cache 0 512 = emptyCache := by
  refine Vector.ext fun k bound => ?_
  rw [cacheDrop, Vector.getElem_map]
  cases held : cache[k] with
  | none => simp [emptyCache]
  | some e => simp [emptyCache, inPageRange]

theorem purged_eq (s : State) (i : StreamId) :
    purged s i = s.claimTaken.setEngine i { s.engine i with cache := emptyCache } := by
  rw [purged, State.purge, cacheDrop_all]
  rfl

theorem mem_all_pages (v : VPage) : v ∈ pagesFrom 0 512 := by
  simp [mem_pagesFrom]

theorem entry_returnToQueue (j : StreamId) (v : VPage) : (s.returnToQueue f).entry j v = s.entry j v := by
  by_cases mark : s.mapUnit.lowMark ≤ (s.mapUnit.freeQueue ++ [f]).length
  · rw [returnToQueue_marked mark]
    rfl
  · rw [returnToQueue_below mark]
    rfl

theorem entry_release (nobody : s.mapUnit.waiters = []) (j : StreamId) (v : VPage) :
    (s.release f).entry j v = s.entry j v := by
  by_cases last : (s.frame f).refcount - 1 = 0
  · rw [release_last nobody last, entry_returnToQueue, entry_setFrame]
  · rw [release_counted last, entry_setFrame]

/-- R32: with no waiter the pages passed over become absent, and the maps of other streams stay. -/
theorem releasePages_clears (nobody : s.mapUnit.waiters = []) (idle : ∀ v, (s.engine i).purgeInUse v 1 = false)
    (vs : List VPage) :
    (∀ v, s.entry i v = none ∨ v ∈ vs → (s.releasePages i vs).state.entry i v = none) ∧
      ∀ j v, j ≠ i → (s.releasePages i vs).state.entry j v = s.entry j v := by
  induction vs generalizing s with
  | nil => exact ⟨fun v gone => gone.resolve_right List.not_mem_nil, fun _ _ _ => rfl⟩
  | cons x vs ih =>
    cases present : s.entry i x with
    | none =>
      rw [releasePages_absent present]
      obtain ⟨gone, kept⟩ := ih nobody idle
      refine ⟨fun v absent => gone v ?_, kept⟩
      rcases absent with absent | inside
      · exact .inl absent
      · exact (List.mem_cons.mp inside).imp_left fun same : v = x => by rw [same, present]
    | some e =>
      let t := (s.setEntry i x none).release e.frame
      have t_entry : ∀ j v, t.entry j v = (s.setEntry i x none).entry j v := entry_release (s := s.setEntry i x none) nobody
      have t_engine : t.engine i = s.engine i := engine_release (s := s.setEntry i x none) nobody i
      obtain ⟨gone, kept⟩ := ih (s := t) (waiters_release (s := s.setEntry i x none) nobody) (by rw [t_engine]; exact idle)
      rw [releasePages_present present (idle x)]
      refine ⟨fun v absent => gone v ?_, fun j v other => (kept j v other).trans ?_⟩
      · rw [t_entry]
        by_cases same : v = x
        · exact .inl (same ▸ entry_setEntry_self ..)
        · rw [entry_setEntry_elsewhere (.inr same)]
          exact absent.imp_right fun inside => (List.mem_cons.mp inside).resolve_left same
      · rw [t_entry, entry_setEntry_elsewhere (.inl other)]

/-- A stream at the head of the waiters that is to allocate. -/
structure Allocating (s : State) (w : StreamId) (u : VPage) (others : List StreamId) : Prop where
  waits : s.mapUnit.waiters = w :: others
  live : (s.engine w).restart = .none
  state : (s.engine w).state = .waitFault
  running : (s.engine w).endReason = none
  record : (s.engine w).faultRecord = some ⟨u, .poolEmpty⟩
  policy : (s.engine w).faultPolicy = some .allocate
  absent : s.entry w u = none

/-- What the release of pages does whose first frame brought to refcount 0 goes to a waiter (R15, R32). -/
structure HandsFirst (s : State) (r : ReleaseCount) (i : StreamId) (vs : List VPage) (w : StreamId) (u : VPage)
    (f : FrameId) (more : List FrameId) (others : List StreamId) : Prop where
  entries : r.entries = (namedFrames s i vs).length
  frames : r.frames = more.length + 1
  absent : ∀ v ∈ vs, r.state.entry i v = none
  spared : ∀ v ∉ vs, r.state.entry i v = s.entry i v
  named : r.state.entry w u = some ⟨f, .readWrite⟩
  kept : ∀ j v, j ≠ i → (j ≠ w ∨ v ≠ u) → r.state.entry j v = s.entry j v
  given : r.state.frame f =
    { s.frame f with
      state := .bound, refcount := 1, fill := 0, isSealed := false, generation := (s.frame f).generation + 1
      writer := some w }
  lost : ∀ g ∈ namedFrames s i vs, g ≠ f → r.state.frame g =
    if (s.frame g).refcount = 1 then { s.frame g with refcount := 0, state := .free, writer := none }
    else { s.frame g with refcount := (s.frame g).refcount - 1 }
  unnamed : ∀ g ∉ namedFrames s i vs, r.state.frame g = s.frame g
  waiters : r.state.mapUnit.waiters = others
  queue : r.state.mapUnit.freeQueue = s.mapUnit.freeQueue ++ more
  armed : r.state.mapUnit.lowArmed =
    (s.mapUnit.lowArmed || (!more.isEmpty && s.mapUnit.lowMark ≤ (s.mapUnit.freeQueue ++ more).length))
  waiter : r.state.engine w =
    { s.engine w with
      state := .running, currentPage := some ⟨u, f⟩, position := ⟨u, 0⟩, faultRecord := none
      cache := cacheInstall (s.engine w).cache u f .readWrite }
  gate : ∀ q, (s.engine w).port = some q → (r.state.port q).gateOpen = true

/-- A page whose entry is absent adds nothing. -/
theorem HandsFirst.after_absent {r : ReleaseCount} {vs : List VPage} {more : List FrameId}
    (h : HandsFirst s r i vs w u f more others) (absent : s.entry i v = none) (fresh : v ∉ vs) :
    HandsFirst s r i (v :: vs) w u f more others := by
  have names : namedFrames s i (v :: vs) = namedFrames s i vs := by simp [namedFrames, absent]
  refine { h with
    entries := by rw [names]; exact h.entries
    absent := fun x inside => ?_
    spared := fun x outside => h.spared x fun inside => outside (List.mem_cons_of_mem _ inside)
    lost := by rw [names]; exact h.lost
    unnamed := by rw [names]; exact h.unnamed }
  rcases List.mem_cons.mp inside with rfl | inside
  · rw [h.spared x fresh, absent]
  · exact h.absent x inside

/-- The state in which a page has left its map, and its frame, named again, has lost a reference (R16). -/
def countedDown (s : State) (i : StreamId) (v : VPage) (g : FrameId) : State :=
  (s.setEntry i v none).setFrame g { s.frame g with refcount := (s.frame g).refcount - 1 }

theorem entry_countedDown {g : FrameId} {j : StreamId} {x : VPage} (elsewhere : j ≠ i ∨ x ≠ v) :
    (countedDown s i v g).entry j x = s.entry j x :=
  entry_setEntry_elsewhere elsewhere

theorem frame_countedDown_other {g a : FrameId} (other : a ≠ g) : (countedDown s i v g).frame a = s.frame a := by
  rw [countedDown, frame_setFrame_other _ _ _ _ other.symm, frame_setEntry]

theorem namedFrames_countedDown {g : FrameId} {vs : List VPage} (fresh : v ∉ vs) :
    namedFrames (countedDown s i v g) i vs = namedFrames s i vs :=
  List.filterMap_congr fun x inside => by rw [entry_countedDown (.inr fun same : x = v => fresh (same ▸ inside))]

/-- A page whose frame is named elsewhere too adds one to the entries, and no frame. -/
theorem HandsFirst.after_counted {r : ReleaseCount} {vs : List VPage} {more : List FrameId} {g : FrameId} {held : Access}
    (h : HandsFirst (countedDown s i v g) r i vs w u f more others) (present : s.entry i v = some ⟨g, held⟩)
    (fresh : v ∉ vs) (fresh_g : g ∉ namedFrames s i vs) (other : f ≠ g) (again : (s.frame g).refcount ≠ 1) :
    HandsFirst s ⟨r.state, r.entries + 1, r.frames⟩ i (v :: vs) w u f more others := by
  have names : namedFrames s i (v :: vs) = g :: namedFrames s i vs := by simp [namedFrames, present]
  have frame_g : (countedDown s i v g).frame g = { s.frame g with refcount := (s.frame g).refcount - 1 } :=
    frame_setFrame_self ..
  obtain ⟨entries, frames, absent, spared, named, kept, given, lost, unnamed, waiters, queue, armed, waiter, gate⟩ := h
  rw [namedFrames_countedDown fresh] at entries lost unnamed
  refine ⟨by rw [names, List.length_cons, entries], frames, fun x inside => ?_, fun x outside => ?_, named,
    fun j x stream elsewhere => ?_, ?_, fun a inside other => ?_, fun a outside => ?_, waiters, queue, armed, waiter, gate⟩
  · rcases List.mem_cons.mp inside with rfl | inside
    · exact (spared x fresh).trans (entry_setEntry_self ..)
    · exact absent x inside
  · rw [List.mem_cons, not_or] at outside
    exact (spared x outside.2).trans (entry_countedDown (.inr outside.1))
  · exact (kept j x stream elsewhere).trans (entry_countedDown (.inl stream))
  · rw [given, frame_countedDown_other other]
  · rw [names] at inside
    rcases List.mem_cons.mp inside with rfl | inside
    · rw [unnamed a fresh_g, frame_g, if_neg again]
    · rw [lost a inside other, frame_countedDown_other fun same : a = g => fresh_g (same ▸ inside)]
  · rw [names, List.mem_cons, not_or] at outside
    rw [unnamed a outside.2, frame_countedDown_other outside.1]

/-- The first page, whose frame is handed to the waiter; the frames brought to 0 after it return to the queue. -/
theorem handsFirst_head {more : List FrameId} {vs : List VPage} {access : Access} (present : s.entry i v = some ⟨f, access⟩)
    (one : (s.frame f).refcount = 1) (fresh : v ∉ vs) (distinct : vs.Nodup) (other : w ≠ i)
    (idle : ∀ v, (s.engine i).purgeInUse v 1 = false) (fresh_f : f ∉ namedFrames s i vs)
    (apart : (namedFrames s i vs).Nodup) (held : ∀ g ∈ namedFrames s i vs, 1 ≤ (s.frame g).refcount)
    (waiting : Allocating s w u others) (last : (namedFrames s i vs).filter (fun g => (s.frame g).refcount == 1) = more)
    (settled : more = [] ∨ others = []) : HandsFirst s (s.releasePages i (v :: vs)) i (v :: vs) w u f more others := by
  have names : namedFrames s i (v :: vs) = f :: namedFrames s i vs := by simp [namedFrames, present]
  have start_entry : ∀ j x, (j ≠ i ∨ x ≠ v) → (s.setEntry i v none).entry j x = s.entry j x := fun j x h =>
    entry_setEntry_elsewhere h
  have start_absent : (s.setEntry i v none).entry w u = none := (start_entry w u (.inl other)).trans waiting.absent
  have handed : HandedTo (s.setEntry i v none) ((s.setEntry i v none).release f) f w u others :=
    release_allocates one waiting.waits waiting.live waiting.record start_absent waiting.policy
  rw [releasePages_present present (idle v), one]
  generalize (s.setEntry i v none).release f = b at handed
  have b_entry : ∀ x ∈ vs, b.entry i x = s.entry i x := fun x inside =>
    (handed.entries i x (.inl other.symm)).trans (start_entry i x (.inr fun same => fresh (same ▸ inside)))
  have b_frame : ∀ g, g ≠ f → b.frame g = s.frame g := fun g h =>
    handed.frames g h fun held present => by cases start_absent.symm.trans present
  have b_named : ∀ g ∈ namedFrames s i vs, b.frame g = s.frame g := fun g inside =>
    b_frame g fun same => fresh_f (same ▸ inside)
  have names_b : namedFrames b i vs = namedFrames s i vs := List.filterMap_congr fun x inside => by rw [b_entry x inside]
  have filter_b : (namedFrames b i vs).filter (fun g => (b.frame g).refcount == 1) = more := by
    rw [names_b, ← last]
    exact List.filter_congr fun g inside => by rw [b_named g inside]
  have engine_b : ∀ v, (b.engine i).purgeInUse v 1 = false := by
    rw [handed.engines i other.symm]
    exact idle
  have waiters_b : b.mapUnit.waiters = others := (congrArg MapUnit.waiters handed.mapUnit :)
  obtain ⟨entries, frames, state, absent, kept, lost, unnamed⟩ :=
    releasePages_returned (s := b) (i := i) vs distinct engine_b (by rw [names_b]; exact apart)
      (by
        rw [names_b]
        intro g inside
        rw [b_named g inside]
        exact held g inside)
      (by
        rw [filter_b]
        exact settled.symm.imp_left fun none => waiters_b.trans none)
  rw [filter_b] at frames state
  rw [names_b] at entries lost unnamed
  generalize b.releasePages i vs = r at entries frames state absent kept lost unnamed
  have mapUnit_r := congrArg State.mapUnit state
  have queue_b : b.mapUnit.freeQueue = s.mapUnit.freeQueue := (congrArg MapUnit.freeQueue handed.mapUnit :)
  have armed_b : b.mapUnit.lowArmed = s.mapUnit.lowArmed := (congrArg MapUnit.lowArmed handed.mapUnit :)
  have mark_b : b.mapUnit.lowMark = s.mapUnit.lowMark := (congrArg MapUnit.lowMark handed.mapUnit :)
  rw [queue_b, armed_b, mark_b] at mapUnit_r
  constructor
  case entries =>
    rw [names, List.length_cons, ← entries]
  case frames =>
    rw [← frames]
    rfl
  case absent =>
    intro x inside
    rcases List.mem_cons.mp inside with rfl | inside
    · rw [kept i x (.inr fresh), handed.entries i x (.inl other.symm)]
      exact entry_setEntry_self ..
    · exact absent x inside
  case spared =>
    intro x outside
    rw [List.mem_cons, not_or] at outside
    rw [kept i x (.inr outside.2), handed.entries i x (.inl other.symm), start_entry i x (.inr outside.1)]
  case named => exact (kept w u (.inl other)).trans handed.named
  case kept =>
    intro j x stream elsewhere
    rw [kept j x (.inl stream), handed.entries j x elsewhere, start_entry j x (.inl stream)]
  case given => exact (unnamed f fresh_f).trans handed.renewed
  case lost =>
    intro g inside g_f
    have late := (List.mem_cons.mp (names ▸ inside)).resolve_left g_f
    rw [lost g late, b_named g late]
  case unnamed =>
    intro g outside
    rw [names, List.mem_cons, not_or] at outside
    rw [unnamed g outside.2, b_frame g outside.1]
  case waiters => exact (congrArg MapUnit.waiters mapUnit_r :).trans waiters_b
  case queue => exact (congrArg MapUnit.freeQueue mapUnit_r :)
  case armed => exact (congrArg MapUnit.lowArmed mapUnit_r :)
  case waiter =>
    refine (congrArg (fun t : State => t.engine w) state :).trans (handed.waiter.trans ?_)
    rw [if_pos start_absent, engine_setEntry, waiting.state, waiting.running]
    rfl
  case gate =>
    intro q port
    exact (congrArg (fun t : State => (t.port q).gateOpen) state :).trans
      (handed.gate waiting.state waiting.running q port)

theorem Allocating.countedDown {g : FrameId} (h : Allocating s w u others) (other : w ≠ i) :
    Allocating (countedDown s i v g) w u others :=
  { h with absent := (entry_countedDown (.inl other)).trans h.absent }

/-- R15, R32: the pages before the first frame brought to refcount 0 lose their entries; that frame is handed over. -/
theorem releasePages_handsFirst {more : List FrameId} (vs : List VPage) (distinct : vs.Nodup) (other : w ≠ i)
    (idle : ∀ v, (s.engine i).purgeInUse v 1 = false) (apart : (namedFrames s i vs).Nodup)
    (held : ∀ g ∈ namedFrames s i vs, 1 ≤ (s.frame g).refcount) (waiting : Allocating s w u others)
    (first : (namedFrames s i vs).filter (fun g => (s.frame g).refcount == 1) = f :: more)
    (settled : more = [] ∨ others = []) : HandsFirst s (s.releasePages i vs) i vs w u f more others := by
  induction vs generalizing s with
  | nil => cases first
  | cons v vs ih =>
    obtain ⟨fresh, distinct⟩ := List.nodup_cons.mp distinct
    cases present : s.entry i v with
    | none =>
      have names : namedFrames s i (v :: vs) = namedFrames s i vs := by simp [namedFrames, present]
      rw [names] at apart held first
      rw [releasePages_absent present]
      exact (ih distinct idle apart held waiting first).after_absent present fresh
    | some e =>
      obtain ⟨g, access⟩ := e
      have names : namedFrames s i (v :: vs) = g :: namedFrames s i vs := by simp [namedFrames, present]
      rw [names] at apart held first
      obtain ⟨fresh_g, apart⟩ := List.nodup_cons.mp apart
      obtain ⟨held_g, held⟩ := List.forall_mem_cons.mp held
      by_cases one : (s.frame g).refcount = 1
      · rw [List.filter_cons_of_pos (by simpa using one)] at first
        obtain ⟨rfl, last⟩ := List.cons.inj first
        exact handsFirst_head present one fresh distinct other idle fresh_g apart held waiting last settled
      · rw [List.filter_cons_of_neg (by simpa using one)] at first
        have f_named : f ∈ namedFrames s i vs := List.mem_of_mem_filter (first ▸ List.mem_cons_self ..)
        have same : ∀ a ∈ namedFrames s i vs, (countedDown s i v g).frame a = s.frame a := fun a inside =>
          frame_countedDown_other fun same => fresh_g (same ▸ inside)
        have counted : (s.setEntry i v none).release g = countedDown s i v g :=
          release_counted (s := s.setEntry i v none) (f := g) (by rw [frame_setEntry]; omega)
        rw [releasePages_present present (idle v), counted, if_neg (by simp only; omega)]
        refine HandsFirst.after_counted (ih distinct idle ?_ ?_ (waiting.countedDown other) ?_) present fresh fresh_g
          (fun same => fresh_g (same ▸ f_named)) one
        · rw [namedFrames_countedDown fresh]
          exact apart
        · rw [namedFrames_countedDown fresh]
          intro a inside
          rw [same a inside]
          exact held a inside
        · rw [namedFrames_countedDown fresh, ← first]
          exact List.filter_congr fun a inside => by rw [same a inside]

/-- Settles O35. -/
theorem closeReturnsToIdleAndReleases : Obligations.CloseReturnsToIdleAndReleases := by
  refine ⟨?_, ?_, fun s i current queued out pool oldest idle =>
    ReleasingMap.same_as_unmap ⟨current, out, pool, oldest, idle⟩ queued, ?_⟩
  · intro s m rest i release p h
    refine ⟨fun open_ => ?_, fun closes port => ?_⟩
    · rw [exec_closeStream h, closeStream_refused h.queue open_]
    · intro closed
      have bound : s.closeEngine i = closed := closeEngine_bound port
      refine ⟨fun kept => ?_, fun releases => ?_⟩
      · subst kept
        rw [exec_closeStream h, closeStream_kept closes, bound]
        exact congrArg _ (produceReply_answered (s := closed) h.queue _)
      · subst releases
        rw [exec_closeStream h, closeStream_releases closes, bound]
        rfl
  · intro s m rest i current queue out pool oldest nobody idle named freed queue'
    have h : ReleasingMap s i := ⟨current, out, pool, oldest, idle⟩
    obtain ⟨gone, kept⟩ := releasePages_clears (s := purged s i) (i := i) nobody
      (fun v => (purgeInUse_purge (s := s.claimTaken)).trans (h.purgeInUse v 1)) (pagesFrom 0 512)
    have returned := releasePages_returned (s := purged s i) (i := i) (pagesFrom 0 512) (pagesFrom_nodup ..)
      (fun v => (purgeInUse_purge (s := s.claimTaken)).trans (h.purgeInUse v 1))
    have inner := inner_releasePages (purged s i) i (pagesFrom 0 512)
    have run := h.exec_close
    rw [releaseMap_answered queue] at run
    have all := mem_all_pages
    have names : namedFrames (purged s i) i (pagesFrom 0 512) = named := rfl
    rw [names] at returned
    generalize pagesFrom 0 512 = pages at run gone kept returned inner all
    generalize (purged s i).releasePages i pages = r at run gone kept returned inner
    refine ⟨_, ⟨m.kind + 0x80, m.tag, pairPayload r.entries r.frames⟩, run, fun v => gone v (.inr (all v)),
      fun j v other => kept j v other, ?_, rfl, rfl, rfl, rfl, fun apart held => ?_⟩
    · rw [answered_replies, replies_of_inner inner]
      rfl
    · obtain ⟨entries, frames, state, _, _, lost, others⟩ := returned apart held (.inl nobody)
      refine ⟨?_, lost, others⟩
      dsimp only
      rw [entries, frames]
      refine congrArg (fun t : State => t.answered m rest (pairPayload named.length freed.length)) ?_
      exact state.trans (congrArg (fun x : State => x.setMapUnit _) (purged_eq s i))
  · intro s m rest i w u f more others current queue out pool oldest idle waits live state running record policy absent
      named apart held first settled queue'
    have h : ReleasingMap s i := ⟨current, out, pool, oldest, idle⟩
    have other : w ≠ i := fun same => by simp [same, idle] at state
    have engine : (purged s i).engine w = s.engine w := engine_setEngine_other _ _ _ _ other.symm
    have waiting : Allocating (purged s i) w u others :=
      ⟨waits, by rw [engine]; exact live, by rw [engine]; exact state, by rw [engine]; exact running,
        by rw [engine]; exact record, by rw [engine]; exact policy, absent⟩
    have hands := releasePages_handsFirst (s := purged s i) (pagesFrom 0 512) (pagesFrom_nodup ..) other
      (fun v => (purgeInUse_purge (s := s.claimTaken)).trans (h.purgeInUse v 1)) apart held waiting first settled
    have inner := inner_releasePages (purged s i) i (pagesFrom 0 512)
    have run := h.exec_close
    rw [releaseMap_answered queue] at run
    have all := mem_all_pages
    have names : namedFrames (purged s i) i (pagesFrom 0 512) = named := rfl
    have entries := hands.entries
    have lost := hands.lost
    have unnamed := hands.unnamed
    rw [names] at entries lost unnamed
    generalize pagesFrom 0 512 = pages at run hands inner all entries lost unnamed
    generalize (purged s i).releasePages i pages = r at run hands inner entries lost unnamed
    refine ⟨_, run, fun v => hands.absent v (all v), hands.named, fun j v stream elsewhere => hands.kept j v stream elsewhere,
      hands.given, lost, unnamed, hands.waiters, hands.queue, hands.armed, hands.waiter.trans (by rw [engine]), ?_, rfl, ?_⟩
    · intro q port
      exact hands.gate q (by rw [engine]; exact port)
    · rw [answered_replies, replies_of_inner inner]
      rw [entries, hands.frames]
      rfl

end ReleaseMap

end Sys2Proof.Proofs

namespace Sys2Proof.Proofs

open Sys2Proof.Machine Sys2Proof.Laws

/-! ### SHARE and its checks (R35, R36) -/

section ShareChecks

variable {s : State} {m : Message} {rest : List Message} {i j : StreamId} {access held : Access} {v w : VPage}
  {count : Nat} {f : FrameId}

theorem exec_share (h : s.AtMapUnit (.share i j access v w count) m rest) :
    exec (.share i j access v w count) s = .next (s.claimTaken.shareRange i j access v w count) :=
  takeHostClaim_at h fun s => s.shareRange i j access v w count

/-- Whether a map names a frame at any page. -/
theorem mapNames_iff_entry : s.mapNames j f = true ↔ ∃ u other, s.entry j u = some ⟨f, other⟩ := by
  rw [mapNames_iff]
  refine exists_congr fun u => ?_
  simp only [poolView, Option.map_eq_some_iff]
  constructor
  · rintro ⟨⟨_, other⟩, present, rfl⟩
    exact ⟨other, present⟩
  · rintro ⟨other, present⟩
    exact ⟨_, present, rfl⟩

theorem shareRange_self : s.shareRange i i access v w count = s.refuse .badCombination := by
  simp [State.shareRange]

theorem shareRange_absent (apart : i ≠ j) (absent : ∃ x ∈ pagesFrom v count, s.entry i x = none) :
    s.shareRange i j access v w count = s.refuse .absent := by
  have check : ((pagesFrom v count).any fun x => (s.entry i x).isNone) = true := by
    simpa using absent
  simp only [State.shareRange, if_neg apart, check, if_true]

/-- The checks of the sources passed: every one is present. -/
def SourcesPresent (s : State) (i : StreamId) (v : VPage) (count : Nat) : Prop :=
  ∀ x ∈ pagesFrom v count, s.entry i x ≠ none

theorem shareRange_sources (apart : i ≠ j) (present : SourcesPresent s i v count) :
    s.shareRange i j access v w count =
      if (pagesFrom w count).any fun x => (s.entry j x).isSome then s.refuse .exists_
      else if (pagesFrom v count).any fun x => (s.entry i x).any fun e => s.mapNames j e.frame then s.refuse .exists_
      else
        ((((pagesFrom v count).zip (pagesFrom w count)).foldl
          (fun (s : State) pages => s.sharePage i j access pages) s).retry j w count).produceReply
          (countPayload count) := by
  have check : ((pagesFrom v count).any fun x => (s.entry i x).isNone) = false := by
    simpa [SourcesPresent] using present
  simp only [State.shareRange, if_neg apart, check, Bool.false_eq_true, if_false]

theorem shareRange_occupied (apart : i ≠ j) (present : SourcesPresent s i v count)
    (occupied : ∃ x ∈ pagesFrom w count, s.entry j x ≠ none) :
    s.shareRange i j access v w count = s.refuse .exists_ := by
  have check : ((pagesFrom w count).any fun x => (s.entry j x).isSome) = true := by
    simpa [Option.isSome_iff_ne_none] using occupied
  rw [shareRange_sources apart present, if_pos check]

theorem shareRange_named (apart : i ≠ j) (present : SourcesPresent s i v count)
    (named : ∃ x ∈ pagesFrom v count, ∃ e, s.entry i x = some e ∧ s.mapNames j e.frame = true) :
    s.shareRange i j access v w count = s.refuse .exists_ := by
  have check : ((pagesFrom v count).any fun x => (s.entry i x).any fun e => s.mapNames j e.frame) = true := by
    obtain ⟨x, inside, e, source, names⟩ := named
    exact List.any_eq_true.mpr ⟨x, inside, by rw [source]; exact names⟩
  rw [shareRange_sources apart present, if_pos check, ite_self]

/-- The state in which a SHARE has made the destination's entries (R36). -/
def shared (s : State) (i j : StreamId) (access : Access) (v w : VPage) (count : Nat) : State :=
  ((pagesFrom v count).zip (pagesFrom w count)).foldl (fun (s : State) pages => s.sharePage i j access pages) s

theorem shareRange_shares (apart : i ≠ j) (present : SourcesPresent s i v count)
    (absent : ∀ x ∈ pagesFrom w count, s.entry j x = none)
    (unnamed : ∀ x ∈ pagesFrom v count, ∀ e, s.entry i x = some e → s.mapNames j e.frame = false) :
    s.shareRange i j access v w count =
      ((shared s i j access v w count).retry j w count).produceReply (countPayload count) := by
  have free : ((pagesFrom w count).any fun x => (s.entry j x).isSome) = false := by
    simpa using absent
  have other : ((pagesFrom v count).any fun x => (s.entry i x).any fun e => s.mapNames j e.frame) = false := by
    simpa [Option.any_eq_false] using unnamed
  rw [shareRange_sources apart present, if_neg (by simp [free]), if_neg (by simp [other])]
  rfl

theorem inner_shared : Inner s (shared s i j access v w count) := by
  refine inner_foldl _ _ (fun t pages => ?_) _
  unfold State.sharePage
  split
  · exact .refl _
  · exact (inner_setEntry ..).trans (inner_setFrame ..)

/-- R36: a SHARE that passes its checks retries the destination and answers with its pages. -/
theorem exec_share_shares (h : s.AtMapUnit (.share i j access v w count) m rest) (apart : i ≠ j)
    (present : SourcesPresent s i v count) (absent : ∀ x ∈ pagesFrom w count, s.entry j x = none)
    (unnamed : ∀ x ∈ pagesFrom v count, ∀ e, s.entry i x = some e → s.mapNames j e.frame = false) :
    exec (.share i j access v w count) s = .next
      (((shared s.claimTaken i j access v w count).retry j w count).answered m rest (countPayload count)) := by
  have inner : Inner s.claimTaken ((shared s.claimTaken i j access v w count).retry j w count) :=
    inner_shared.trans (inner_retry ..)
  have command : ((shared s.claimTaken i j access v w count).retry j w count).command.queue = m :: rest := by
    rw [inner.command]
    exact h.queue
  rw [exec_share h, shareRange_shares (s := s.claimTaken) apart present absent unnamed]
  exact congrArg _ (produceReply_answered command _)

/-- The pages of a range with the pages that they are shared to. -/
theorem pagesFrom_zip (inside : v.val + count ≤ 512) (inside' : w.val + count ≤ 512) :
    ((pagesFrom v count).zip (pagesFrom w count)).map Prod.fst = pagesFrom v count ∧
      ((pagesFrom v count).zip (pagesFrom w count)).map Prod.snd = pagesFrom w count := by
  constructor
  · exact List.map_fst_zip (by rw [pagesFrom_length inside, pagesFrom_length inside'])
  · exact List.map_snd_zip (by rw [pagesFrom_length inside, pagesFrom_length inside'])

theorem mem_pagesFrom_zip (inside : v.val + count ≤ 512) (inside' : w.val + count ≤ 512) {k : Nat} (below : k < count)
    {x y : VPage} (source : x.val = v.val + k) (destination : y.val = w.val + k) :
    (x, y) ∈ (pagesFrom v count).zip (pagesFrom w count) := by
  rw [pagesFrom_eq_map inside, pagesFrom_eq_map inside', List.zip_map', List.mem_map]
  refine ⟨k, List.mem_range.mpr below, Prod.ext (Fin.ext ?_) (Fin.ext ?_)⟩
  · simp only [Fin.val_ofNat]
    omega
  · simp only [Fin.val_ofNat]
    omega

/-- What the sharing of pages writes (R36). -/
structure SharedTo (s t : State) (i j : StreamId) (access : Access) (pages : List (VPage × VPage)) : Prop where
  state : t = s.setMapUnit { s.mapUnit with maps := t.mapUnit.maps, frames := t.mapUnit.frames }
  made : ∀ x ∈ pages, t.entry j x.2 = (s.entry i x.1).map fun e => ⟨e.frame, access⟩
  kept : ∀ l u, (l ≠ j ∨ u ∉ pages.map Prod.snd) → t.entry l u = s.entry l u
  gained : ∀ f ∈ namedFrames s i (pages.map Prod.fst), t.frame f = { s.frame f with refcount := (s.frame f).refcount + 1 }
  frames : ∀ f ∉ namedFrames s i (pages.map Prod.fst), t.frame f = s.frame f

theorem sharedTo (apart : i ≠ j) (pages : List (VPage × VPage)) (destinations : (pages.map Prod.snd).Nodup)
    (present : ∀ x ∈ pages, s.entry i x.1 ≠ none) (different : (namedFrames s i (pages.map Prod.fst)).Nodup) :
    SharedTo s (pages.foldl (fun (s : State) x => s.sharePage i j access x) s) i j access pages := by
  induction pages generalizing s with
  | nil => exact ⟨rfl, nofun, fun _ _ _ => rfl, nofun, fun _ _ => rfl⟩
  | cons x pages ih =>
    obtain ⟨e, source⟩ := Option.ne_none_iff_exists'.mp (present x (List.mem_cons_self ..))
    obtain ⟨fresh, destinations⟩ := List.nodup_cons.mp destinations
    let t := (s.setEntry j x.2 (some ⟨e.frame, access⟩)).setFrame e.frame
      { s.frame e.frame with refcount := (s.frame e.frame).refcount + 1 }
    have step : s.sharePage i j access x = t := by simp [State.sharePage, source, t]
    have names : namedFrames s i ((x :: pages).map Prod.fst) = e.frame :: namedFrames s i (pages.map Prod.fst) := by
      simp [namedFrames, source]
    have t_entry : ∀ l u, (l ≠ j ∨ u ≠ x.2) → t.entry l u = s.entry l u := fun l u h => entry_setEntry_elsewhere h
    have t_source : ∀ u, t.entry i u = s.entry i u := fun u => t_entry i u (.inl apart)
    have t_names : namedFrames t i (pages.map Prod.fst) = namedFrames s i (pages.map Prod.fst) :=
      List.filterMap_congr fun u _ => by rw [t_source]
    have t_frame : ∀ g, g ≠ e.frame → t.frame g = s.frame g := fun g h => frame_setFrame_other _ _ _ _ h.symm
    rw [names] at different
    obtain ⟨other, different⟩ := List.nodup_cons.mp different
    have later := ih (s := t) destinations (fun y hy => by rw [t_source]; exact present y (List.mem_cons_of_mem _ hy))
      (by rw [t_names]; exact different)
    rw [List.foldl_cons, step]
    generalize pages.foldl (fun (s : State) x => s.sharePage i j access x) t = u at later
    obtain ⟨state, made, kept, gained, frames⟩ := later
    rw [t_names] at gained frames
    refine ⟨state, fun y hy => ?_, fun l p outside => ?_, fun g hg => ?_, fun g hg => ?_⟩
    · rcases List.mem_cons.mp hy with rfl | hy
      · rw [kept j y.2 (.inr fresh), source]
        exact (entry_setFrame ..).trans (entry_setEntry_self ..)
      · rw [made y hy, t_source]
    · rw [List.map_cons, List.mem_cons, not_or] at outside
      rw [kept l p (outside.imp_right And.right), t_entry l p (outside.imp_right And.left)]
    · rw [names] at hg
      rcases List.mem_cons.mp hg with rfl | hg
      · rw [frames _ other]
        exact frame_setFrame_self ..
      · rw [gained g hg, t_frame g fun same => other (same ▸ hg)]
    · rw [names, List.mem_cons, not_or] at hg
      rw [frames g hg.2, t_frame g hg.1]

/-- R36: the entries that a SHARE of a range makes. -/
theorem shared_to (apart : i ≠ j) (inside : v.val + count ≤ 512) (inside' : w.val + count ≤ 512)
    (present : SourcesPresent s i v count) (different : (namedFrames s i (pagesFrom v count)).Nodup) :
    SharedTo s (shared s i j access v w count) i j access ((pagesFrom v count).zip (pagesFrom w count)) := by
  obtain ⟨sources, destinations⟩ := pagesFrom_zip inside inside'
  refine sharedTo apart _ (by rw [destinations]; exact pagesFrom_nodup ..) (fun x hx => ?_) (by rw [sources]; exact different)
  exact present x.1 (sources ▸ List.mem_map_of_mem hx)

/-- R36: a SHARE of one page. -/
theorem shared_one (source : s.entry i v = some ⟨f, held⟩) :
    shared s i j access v w 1 =
      (s.setEntry j w (some ⟨f, access⟩)).setFrame f { s.frame f with refcount := (s.frame f).refcount + 1 } := by
  simp [shared, pagesFrom_one, State.sharePage, source]

end ShareChecks

/-! ### The write claim of a stream that waits on a page (R28, R101, R105) -/

section WaitingClaim

variable {s : State} {j : StreamId} {w : VPage} {f : FrameId} {access held : Access} {q : PortId}

theorem writeClaim_setAside (present : s.entry j w = some ⟨f, held⟩) (hold : (s.frame f).hostHold = true) :
    s.writeClaim j w = s.setDeferred (s.mapUnit.deferred ++ [⟨j, .write w⟩]) := by
  rw [State.writeClaim, decideWrite_setAside present hold]
  rfl

theorem writeClaim_fails (present : s.entry j w = some ⟨f, .readOnly⟩) (unheld : (s.frame f).hostHold = false) :
    s.writeClaim j w = s.enterFailed j w := by
  rw [State.writeClaim, decideWrite_fail present unheld]
  rfl

theorem writeClaim_writesInPlace (present : s.entry j w = some ⟨f, .readWrite⟩) (unheld : (s.frame f).hostHold = false)
    (fresh : (s.frame f).isSealed = false ∧ (s.frame f).fill = 0 ∧ (s.frame f).writer = none) :
    s.writeClaim j w = (s.setFrame f { s.frame f with writer := some j }).giveFrame j w f .readWrite := by
  rw [State.writeClaim, decideWrite_inPlace present unheld fresh]
  rfl

theorem writeClaim_waitsForTheQueue (present : s.entry j w = some ⟨f, .readWrite⟩) (unheld : (s.frame f).hostHold = false)
    (used : Used s f) (shared : 2 ≤ (s.frame f).refcount) (empty : s.mapUnit.freeQueue = []) :
    s.writeClaim j w = (s.setWaiters (s.mapUnit.waiters ++ [j])).enterFault j w .poolEmpty := by
  rw [State.writeClaim, empty, List.head?_nil, decideWrite_waitPool present unheld used shared]
  rfl

theorem retry_capture (state : (s.engine j).state = .waitFault) (record : (s.engine j).faultRecord = some ⟨w, .absent⟩)
    (direction : (s.engine j).direction = some .capture) : s.retry j w 1 = s.writeClaim j w := by
  simp only [State.retry, state, record, inPageRange_one.mpr rfl, direction, if_true]

theorem retry_replay (state : (s.engine j).state = .waitFault) (record : (s.engine j).faultRecord = some ⟨w, .absent⟩)
    (direction : (s.engine j).direction = some .replay) (present : s.entry j w = some ⟨f, access⟩) :
    s.retry j w 1 = (s.giveReplayPage j w ⟨f, access⟩).evaluateEntry j := by
  simp only [State.retry, state, record, inPageRange_one.mpr rfl, direction, present, if_true]

/-- The engine of a replay stream in WAIT_FAULT whose page has come (R115, R121). -/
def entersPage (e : Engine) (w : VPage) (f : FrameId) (access : Access) (r : FrameRecord) : Engine :=
  { e with
    state := if 0 < r.fill ∨ r.isSealed = true then .running else .waitData
    cache := cacheInstall e.cache w f access, currentPage := some ⟨w, f⟩, position := ⟨w, 0⟩, faultRecord := none
    lookFill := if 0 < r.fill then some r.fill else none
    due := if 0 < r.fill ∨ r.isSealed = false then .none else .leave }

theorem giveReplayPage_evaluateEntry :
    (s.giveReplayPage j w ⟨f, access⟩).evaluateEntry j = s.setEngine j (entersPage (s.engine j) w f access (s.frame f)) := by
  rw [State.giveReplayPage, State.modEngine, evaluateEntry_current rfl]
  refine congrArg (s.setEngine j) ?_
  rcases Nat.eq_zero_or_pos (s.frame f).fill with empty | filled
  · cases closed : (s.frame f).isSealed <;> simp [entersPage, empty, closed]
  · simp [entersPage, filled]

end WaitingClaim

/-! ### The replies of SHARE (R35) -/

section Replies

variable {s : State} {m : Message} {rest : List Message} {i j : StreamId} {access held : Access} {v w : VPage}
  {count : Nat} {f : FrameId}

theorem exec_share_refused {status : Status} (h : s.AtMapUnit (.share i j access v w count) m rest)
    (refused : s.claimTaken.shareRange i j access v w count = s.claimTaken.refuse status) :
    exec (.share i j access v w count) s = .next (s.claimTaken.answered m rest [statusCode status]) := by
  rw [exec_share h, refused, claimTaken_refuses h.toHanded]

/-- R35: a SHARE of the one page `v`, whose frame the destination does not name. -/
theorem exec_share_one (h : s.AtMapUnit (.share i j access v w 1) m rest) (apart : i ≠ j)
    (source : s.entry i v = some ⟨f, held⟩) (absent : s.entry j w = none)
    (unnamed : ∀ u other, s.entry j u ≠ some ⟨f, other⟩) :
    exec (.share i j access v w 1) s = .next
      ((((s.claimTaken.setEntry j w (some ⟨f, access⟩)).setFrame f
        { s.frame f with refcount := (s.frame f).refcount + 1 }).retry j w 1).answered m rest [0x00, 0x01, 0x00]) := by
  rw [exec_share_shares h apart, shared_one (s := s.claimTaken) (held := held) source, frame_claimTaken]
  · rfl
  · simp [SourcesPresent, pagesFrom_one, source]
  · simp [pagesFrom_one, absent]
  · intro x inside e present
    rw [pagesFrom_one, List.mem_singleton] at inside
    rw [inside, source, Option.some_inj] at present
    rw [← present, Bool.eq_false_iff, Ne, mapNames_iff_entry]
    rintro ⟨u, other, named⟩
    exact unnamed u other named

theorem inPageRange_iff_mem {u : VPage} : inPageRange w count u = true ↔ u ∈ pagesFrom w count := by
  rw [mem_pagesFrom]
  simp only [inPageRange, Bool.and_eq_true, decide_eq_true_eq, Fin.le_def]

/-- R35: the checks of SHARE, in their order, and the SHARE that passes them. -/
theorem shareOfOnePage (h : s.AtMapUnit (.share i j access v w 1) m rest) :
    (i = j → exec (.share i j access v w 1) s = .next (s.claimTaken.answered m rest [0x06])) ∧
    (i ≠ j → s.entry i v = none →
      exec (.share i j access v w 1) s = .next (s.claimTaken.answered m rest [0x07])) ∧
    ∀ f held, i ≠ j → s.entry i v = some ⟨f, held⟩ →
      (∀ e, s.entry j w = some e →
        exec (.share i j access v w 1) s = .next (s.claimTaken.answered m rest [0x08])) ∧
      (∀ u other, s.entry j u = some ⟨f, other⟩ →
        exec (.share i j access v w 1) s = .next (s.claimTaken.answered m rest [0x08])) ∧
      ((∀ u other, s.entry j u ≠ some ⟨f, other⟩) → s.entry j w = none →
        ((s.engine j).state = .waitFault → (s.engine j).faultRecord ≠ some ⟨w, .absent⟩) →
        exec (.share i j access v w 1) s = .next
          (((s.claimTaken.setEntry j w (some ⟨f, access⟩)).setFrame f
            { s.frame f with refcount := (s.frame f).refcount + 1 }).answered m rest [0x00, 0x01, 0x00])) := by
  refine ⟨fun same => ?_, fun apart absent => ?_, fun f held apart source => ?_⟩
  · subst same
    exact exec_share_refused h shareRange_self
  · exact exec_share_refused h (shareRange_absent apart ⟨v, by simp [pagesFrom_one], absent⟩)
  · have present : SourcesPresent s.claimTaken i v 1 := by simp [SourcesPresent, pagesFrom_one, source]
    refine ⟨fun e occupied => ?_, fun u other named => ?_, fun unnamed absent elsewhere => ?_⟩
    · exact exec_share_refused h
        (shareRange_occupied apart present ⟨w, by simp [pagesFrom_one], by simp [occupied]⟩)
    · refine exec_share_refused h (shareRange_named apart present ⟨v, by simp [pagesFrom_one], ⟨f, held⟩, source, ?_⟩)
      exact mapNames_iff_entry.mpr ⟨u, other, named⟩
    · rw [exec_share_one h apart source absent unnamed, retry_elsewhere fun state u inside => ?_]
      rw [inPageRange_one.mp inside]
      exact elsewhere state

/-- R36: the SHARE of a range whose destination does not wait on one of its pages. -/
theorem shareOfRange (h : s.AtMapUnit (.share i j access v w count) m rest) (apart : i ≠ j)
    (inside : v.val + count ≤ 512) (inside' : w.val + count ≤ 512)
    (elsewhere : (s.engine j).state = .waitFault →
      ∀ u ∈ pagesFrom w count, (s.engine j).faultRecord ≠ some ⟨u, .absent⟩)
    (present : SourcesPresent s i v count) (absent : ∀ u ∈ pagesFrom w count, s.entry j u = none)
    (different : (namedFrames s i (pagesFrom v count)).Nodup)
    (unnamed : ∀ f ∈ namedFrames s i (pagesFrom v count), ∀ u other, s.entry j u ≠ some ⟨f, other⟩) :
    ∃ t, exec (.share i j access v w count) s = .next (t.answered m rest (countPayload count)) ∧
      SharedTo s.claimTaken t i j access ((pagesFrom v count).zip (pagesFrom w count)) := by
  have sharing : SharedTo s.claimTaken (shared s.claimTaken i j access v w count) i j access _ :=
    shared_to apart inside inside' present different
  refine ⟨_, ?_, sharing⟩
  have engine : (shared s.claimTaken i j access v w count).engine j = s.engine j :=
    (congrArg (fun t : State => t.engine j) sharing.state :)
  rw [exec_share_shares h apart present absent fun x member e source => ?unnamed, retry_elsewhere fun state u member => ?_]
  · rw [engine] at state ⊢
    exact elsewhere state u (inPageRange_iff_mem.mp member)
  case unnamed =>
    rw [Bool.eq_false_iff, Ne, mapNames_iff_entry]
    rintro ⟨u, other, named⟩
    exact unnamed e.frame (List.mem_filterMap.mpr ⟨x, member, by rw [source]; rfl⟩) u other named

end Replies

/-! ### A SHARE to the page on which the destination waits (R28, R36, R105, R115) -/

section WaitingDestination

variable {s t : State} {j : StreamId} {w : VPage} {f g : FrameId} {queue : List FrameId} {access : Access}

/-- What SHARE has written when it retries the destination. -/
structure PageShared (s t : State) (j : StreamId) (w : VPage) (f : FrameId) (access : Access) : Prop where
  entry : t.entry j w = some ⟨f, access⟩
  frame : t.frame f = { s.frame f with refcount := (s.frame f).refcount + 1 }
  frames : ∀ g, g ≠ f → t.frame g = s.frame g
  engine : t.engine j = s.engine j
  port : ∀ p, t.port p = s.port p
  link : t.link = s.link
  freeQueue : t.mapUnit.freeQueue = s.mapUnit.freeQueue
  deferred : t.mapUnit.deferred = s.mapUnit.deferred
  waiters : t.mapUnit.waiters = s.mapUnit.waiters

theorem pageShared (s : State) (j : StreamId) (w : VPage) (f : FrameId) (access : Access) :
    PageShared s
      ((s.claimTaken.setEntry j w (some ⟨f, access⟩)).setFrame f
        { s.frame f with refcount := (s.frame f).refcount + 1 }) j w f access where
  entry := by simp
  frame := by simp
  frames g other := by rw [frame_setFrame_other _ _ _ _ other.symm, frame_setEntry, frame_claimTaken]
  engine := rfl
  port _ := rfl
  link := rfl
  freeQueue := rfl
  deferred := rfl
  waiters := rfl

/-- R121: a replay stream enters the page. -/
theorem PageShared.replay (h : PageShared s t j w f access) (state : (s.engine j).state = .waitFault)
    (record : (s.engine j).faultRecord = some ⟨w, .absent⟩) (direction : (s.engine j).direction = some .replay) :
    t.retry j w 1 =
      t.setEngine j
        (entersPage (s.engine j) w f access { s.frame f with refcount := (s.frame f).refcount + 1 }) := by
  rw [retry_replay (by rw [h.engine]; exact state) (by rw [h.engine]; exact record) (by rw [h.engine]; exact direction)
    h.entry, giveReplayPage_evaluateEntry, h.engine, h.frame]

/-- R70, R110: what a stream that fails at a page leaves, and what it shows the host. -/
structure FailsAt (s t : State) (j : StreamId) (w : VPage) : Prop where
  mapUnit : t.mapUnit = s.mapUnit
  state : (t.engine j).state = .failed
  endReason : (t.engine j).endReason = some .failed
  currentPage : (t.engine j).currentPage = none
  activeSlot : (t.engine j).activeSlot = none
  faultRecord : (t.engine j).faultRecord = none
  position : (t.engine j).position = ⟨w, 0⟩
  link : t.link = s.link.post (some j) (.streamEnd .failed ⟨w, 0⟩ (some w))
  closed : ∀ p, (s.engine j).port = some p → (t.port p).gateOpen = false
  emptied : ∀ p, (s.engine j).port = some p → (t.port p).fifo = []
  dropped : ∀ p, (s.engine j).port = some p →
    (t.engine j).counters.wordsDropped = saturatingAdd (s.engine j).counters.wordsDropped (s.port p).fifo.length

theorem enterFailed_failsAt (s : State) (j : StreamId) (w : VPage) : FailsAt s (s.enterFailed j w) j w where
  mapUnit := enterFailed_mapUnit
  state := by rw [engine_enterFailed]
  endReason := by rw [engine_enterFailed]
  currentPage := by rw [engine_enterFailed]
  activeSlot := by rw [engine_enterFailed]
  faultRecord := by rw [engine_enterFailed]
  position := by rw [engine_enterFailed]
  link := enterFailed_link
  closed p port := by simp [enterFailed_bound port]
  emptied p port := by simp [enterFailed_bound port]
  dropped p port := by simp [enterFailed_bound port]

theorem FailsAt.entry (h : FailsAt s t j w) (l : StreamId) (u : VPage) : t.entry l u = s.entry l u := by
  rw [State.entry, h.mapUnit, State.entry]

theorem FailsAt.frame (h : FailsAt s t j w) (g : FrameId) : t.frame g = s.frame g := by
  rw [State.frame, h.mapUnit, State.frame]

/-- R106, R107: what a stream that still waits shows the host. -/
structure WaitsOn (s t : State) (j : StreamId) (w : VPage) (reason : FaultReason) : Prop where
  mapUnit : t.mapUnit = s.mapUnit
  state : (t.engine j).state = .waitFault
  faultRecord : (t.engine j).faultRecord = some ⟨w, reason⟩
  currentPage : (t.engine j).currentPage = none
  link : t.link = s.link.post (some j) (.fault w reason)
  opened : ∀ p, (s.engine j).port = some p → t.port p = { s.port p with gateOpen := (s.engine j).endReason.isNone }
  counted : (t.engine j).counters.faultsTaken = saturatingAdd (s.engine j).counters.faultsTaken 1

theorem enterFault_waitsOn (state : (s.engine j).state = .waitFault) (reason : FaultReason) :
    WaitsOn s (s.enterFault j w reason) j w reason where
  mapUnit := by simp [enterFault_gate state]
  state := by simp [enterFault_gate state, state]
  faultRecord := by simp [enterFault_gate state]
  currentPage := by simp [enterFault_gate state]
  link := by simp [enterFault_gate state]
  opened p port := by simp [enterFault_waiting state port]
  counted := by simp [enterFault_gate state]

theorem WaitsOn.entry {reason : FaultReason} (h : WaitsOn s t j w reason) (l : StreamId) (u : VPage) :
    t.entry l u = s.entry l u := by
  rw [State.entry, h.mapUnit, State.entry]

theorem WaitsOn.frame {reason : FaultReason} (h : WaitsOn s t j w reason) (g : FrameId) : t.frame g = s.frame g := by
  rw [State.frame, h.mapUnit, State.frame]

theorem giveFrame_engine_waiting (state : (s.engine j).state = .waitFault) (running : (s.engine j).endReason = none) :
    (s.giveFrame j w g access).engine j =
      { s.engine j with
        state := .running, cache := cacheInstall (s.engine j).cache w g access, currentPage := some ⟨w, g⟩
        position := ⟨w, 0⟩, faultRecord := none } := by
  rw [giveFrame_engine, state, running]
  rfl

/-- R102: the frame is fresh, so the stream writes in it. -/
theorem PageShared.writes (h : PageShared s t j w f .readWrite) (unheld : (s.frame f).hostHold = false)
    (fresh : (s.frame f).isSealed = false ∧ (s.frame f).fill = 0 ∧ (s.frame f).writer = none) :
    t.writeClaim j w =
      (t.setFrame f { s.frame f with refcount := (s.frame f).refcount + 1, writer := some j }).giveFrame j w f
        .readWrite := by
  rw [writeClaim_writesInPlace h.entry (by rw [h.frame]; exact unheld) (by rw [h.frame]; exact fresh), h.frame]

/-- R104: the frame is used and now shared, so the stream detaches onto the head of the free-frame queue. -/
theorem PageShared.detaches (h : PageShared s t j w f .readWrite) (unheld : (s.frame f).hostHold = false)
    (used : Used s f) (named : 1 ≤ (s.frame f).refcount) (head : s.mapUnit.freeQueue = g :: queue) (apart : g ≠ f) :
    DetachesOnto t (t.writeClaim j w) j w f g queue :=
  writeClaim_detaches h.entry (by rw [h.frame]; exact unheld) (by rw [Used, h.frame]; exact used)
    (by rw [h.frame]; exact Nat.succ_le_succ named) (h.freeQueue.trans head) apart

/-- R106: no frame is free, so the stream waits for the pool. -/
theorem PageShared.waits (h : PageShared s t j w f .readWrite) (unheld : (s.frame f).hostHold = false)
    (used : Used s f) (named : 1 ≤ (s.frame f).refcount) (empty : s.mapUnit.freeQueue = [])
    (state : (s.engine j).state = .waitFault) :
    WaitsOn (t.setWaiters (s.mapUnit.waiters ++ [j])) (t.writeClaim j w) j w .poolEmpty := by
  rw [writeClaim_waitsForTheQueue h.entry (by rw [h.frame]; exact unheld) (by rw [Used, h.frame]; exact used)
    (by rw [h.frame]; exact Nat.succ_le_succ named) (h.freeQueue.trans empty), h.waiters]
  exact enterFault_waitsOn (by rw [engine_setWaiters, h.engine]; exact state) _

end WaitingDestination

/-- Settles O33. -/
theorem shareNamesTheFrame : Obligations.ShareNamesTheFrame := by
  refine ⟨fun s m rest i j access v w h => shareOfOnePage h, ?range, ?waiting⟩
  case range =>
    intro s m rest i j access v w count h apart inside inside' elsewhere present absent named different unnamed
    obtain ⟨t, run, sharing⟩ := shareOfRange h apart inside inside' elsewhere present absent different unnamed
    obtain ⟨sources, destinations⟩ := pagesFrom_zip inside inside'
    obtain ⟨state, made, kept, gained, frames⟩ := sharing
    rw [sources] at gained frames
    rw [destinations] at kept
    refine ⟨_, run, ?_, fun k below x y source destination => ?_, fun l u outside => ?_, gained, frames⟩
    · exact congrArg (fun x : State => x.answered m rest (countPayload count)) state
    · exact made (x, y) (mem_pagesFrom_zip inside inside' below source destination)
    · refine kept l u (outside.imp_right fun outside member => ?_)
      obtain ⟨low, high⟩ := mem_pagesFrom.mp member
      rcases outside with below | above
      · exact absurd low (not_le.mpr below)
      · omega
  case waiting =>
    intro s m rest i j access v w f held h apart source absent unnamed state record running
    have run := exec_share_one h apart source absent unnamed
    have page := pageShared s j w f access
    generalize (s.claimTaken.setEntry j w (some ⟨f, access⟩)).setFrame f
        { s.frame f with refcount := (s.frame f).refcount + 1 } = t at run page
    have state_t : (t.engine j).state = .waitFault := by rw [page.engine, state]
    have record_t : (t.engine j).faultRecord = some ⟨w, .absent⟩ := by rw [page.engine, record]
    have running_t : (t.engine j).endReason = none := by rw [page.engine, running]
    refine ⟨_, run, ?_, fun replay => ?_, fun capture => ?_⟩
    · rw [answered_replies, replies_of_inner (inner_retry ..), page.link]
    · rw [page.replay state record replay]
      refine ⟨?_, ?_, ?_, ?_, ?_, ?_, ?_⟩
      · simp [page.entry]
      · simp [page.frame]
      all_goals simp [entersPage]
    · rw [retry_capture state_t record_t (by rw [page.engine]; exact capture)]
      refine ⟨fun hold => ?_, fun unheld readOnly => ?_, fun unheld readWrite => ?_⟩
      · rw [writeClaim_setAside page.entry (by rw [page.frame]; exact hold)]
        exact ⟨page.entry, page.frame, page.engine, congrArg (· ++ [_]) page.deferred⟩
      · subst readOnly
        rw [writeClaim_fails page.entry (by rw [page.frame]; exact unheld)]
        have fails := enterFailed_failsAt t j w
        generalize t.enterFailed j w = x at fails
        refine ⟨(fails.entry j w).trans page.entry, (fails.frame f).trans page.frame, fails.state, fails.endReason,
          fails.currentPage, fails.activeSlot, fails.faultRecord, fails.position, ?_, fun p port => ?_⟩
        · rw [answered_notices, fails.link, page.link]
        · have port_t : (t.engine j).port = some p := by rw [page.engine, port]
          refine ⟨fails.closed p port_t, fails.emptied p port_t, (fails.dropped p port_t).trans ?_⟩
          rw [page.engine, page.port]
          rfl
      · subst readWrite
        intro fresh opened entered
        refine ⟨fun unused => ?_, fun used named => ⟨fun g queue head other => ?_, fun empty => ?_⟩⟩
        · rw [page.writes unheld unused]
          refine ⟨?_, ?_, ?_, ?_, fun p port => ?_⟩
          · simp [page.entry]
          · simp
          · simp [page.freeQueue]
          · rw [engine_answered, giveFrame_engine_waiting (by exact state_t) (by exact running_t), engine_setFrame,
              page.engine]
          · rw [port_answered, page.writes unheld unused, giveFrame_gate (q := p) (by exact state_t) (by exact running_t)
              (by rw [engine_setFrame, page.engine, port]), port_setFrame, page.port]
        · have detached := page.detaches unheld used named head other
          refine ⟨detached.named, detached.left.trans ?_, detached.renewed.trans ?_, detached.freeQueue,
            detached.engine.trans ?_, fun p port => ?_⟩
          · rw [page.frame, Nat.add_sub_cancel]
          · rw [page.frames g other]
          · rw [page.engine, state, running]
            rfl
          · rw [port_answered, detached.gate state_t running_t p (by rw [page.engine]; exact port), page.port]
        · have waits := page.waits unheld used named empty state
          refine ⟨(waits.entry j w).trans page.entry, (waits.frame f).trans page.frame, waits.state, waits.faultRecord,
            waits.currentPage, ?_, ?_, fun p port => ?_, waits.counted.trans ?_⟩
          · rw [answered_mapUnit, waits.mapUnit]
            rfl
          · rw [answered_notices, waits.link, setWaiters_link, page.link]
          · have port_t : ((t.setWaiters (s.mapUnit.waiters ++ [j])).engine j).port = some p := by
              rw [engine_setWaiters, page.engine, port]
            rw [port_answered, waits.opened p port_t, engine_setWaiters, running_t, port_setWaiters, page.port]
            rfl
          · rw [engine_setWaiters, page.engine]
            rfl

end Sys2Proof.Proofs

namespace Sys2Proof.Proofs

open Sys2Proof.Machine Sys2Proof.Laws

/-! ### UNMAP of a current page (R24, R31) -/

section UnmapInUse

variable {s : State} {m : Message} {rest : List Message} {i : StreamId} {first : VPage} {count : Nat} {e : Engine}

/-- R24: a purge is answered IN_USE exactly for the current page of an active stream. -/
theorem purgeInUse_iff :
    e.purgeInUse first count = true ↔
      (∃ c, e.currentPage = some c ∧ first.val ≤ c.vpage.val ∧ c.vpage.val < first.val + count) ∧
        e.state ∈ [StreamState.running, .paused, .waitData, .stopping] := by
  have active : e.state.isActive = true ↔ e.state ∈ [StreamState.running, .paused, .waitData, .stopping] := by
    cases e.state <;> decide
  rw [Engine.purgeInUse, Bool.and_eq_true, active, and_comm]
  cases e.currentPage with
  | none => simp
  | some c => simp [inPageRange]

theorem exec_unmap_inUse (h : s.AtMapUnit (.unmap i first count) m rest)
    (used : (s.engine i).purgeInUse first count = true) :
    exec (.unmap i first count) s = .next (s.claimTaken.answered m rest [0x09]) := by
  rw [exec_unmap h, State.unmapRange, engine_claimTaken, if_pos used, claimTaken_refuses h.toHanded]
  rfl

/-- Settles O29, by what a purge answers (R24). -/
theorem unmapIsRefusedForACurrentPage : Obligations.UnmapIsRefusedForACurrentPage := by
  intro s m rest i first count h
  refine ⟨fun current active => exec_unmap_inUse h (purgeInUse_iff.mpr ⟨current, active⟩), fun otherwise => ?_⟩
  have idle : (s.engine i).purgeInUse first count = false := by
    rw [Bool.eq_false_iff, Ne, purgeInUse_iff]
    rintro ⟨⟨c, current, low, high⟩, active⟩
    rcases otherwise with outside | inactive
    · have := outside c current
      omega
    · exact inactive active
  let released := (s.claimTaken.purge i first count).releasePages i (pagesFrom first count)
  have inner : Inner (s.claimTaken.purge i first count) released.state := inner_releasePages ..
  have replies : released.state.link.replies = s.link.replies := (replies_of_inner inner).trans rfl
  refine ⟨_, ⟨m.kind + 0x80, m.tag, pairPayload released.entries released.frames⟩, exec_unmap_released h idle, ?_, rfl⟩
  exact congrArg (· ++ _) replies

end UnmapInUse

/-! ### PROTECT (R33, R34) -/

section Protect

variable {s : State} {m : Message} {rest : List Message} {i : StreamId} {access : Access} {first : VPage} {count : Nat}

theorem exec_protect (h : s.AtMapUnit (.protect i access first count) m rest) :
    exec (.protect i access first count) s = .next (s.claimTaken.protectRange i access first count) :=
  takeHostClaim_at h fun s => s.protectRange i access first count

/-- The state in which a PROTECT has set the access of these pages. -/
def protectedAt (s : State) (i : StreamId) (access : Access) (vs : List VPage) : State :=
  vs.foldl (fun (s : State) v => s.setAccess i access v) s

/-- What a PROTECT of pages writes: their access, and nothing else. -/
structure ProtectedTo (s t : State) (i : StreamId) (access : Access) (vs : List VPage) : Prop where
  state : t = s.setMapUnit { s.mapUnit with maps := t.mapUnit.maps }
  set : ∀ v ∈ vs, t.entry i v = (s.entry i v).map fun e => { e with access := access }
  kept : ∀ j v, (j ≠ i ∨ v ∉ vs) → t.entry j v = s.entry j v

theorem protectedTo (s : State) (i : StreamId) (access : Access) (vs : List VPage) :
    ProtectedTo s (protectedAt s i access vs) i access vs := by
  induction vs generalizing s with
  | nil => exact ⟨rfl, nofun, fun _ _ _ => rfl⟩
  | cons u vs ih =>
    obtain ⟨state, set, kept⟩ := ih (s.setAccess i access u)
    have first_entry : ∀ j v, (j ≠ i ∨ v ≠ u) → (s.setAccess i access u).entry j v = s.entry j v :=
      fun j v other => entry_setEntry_elsewhere other
    have set_entry : (s.setAccess i access u).entry i u = (s.entry i u).map fun e => { e with access := access } :=
      entry_setEntry_self ..
    refine ⟨state, fun v member => ?_, fun j v outside => ?_⟩
    · by_cases later : v ∈ vs
      · refine (set v later).trans ?_
        by_cases same : v = u
        · rw [same, set_entry, Option.map_map]
          rfl
        · rw [first_entry i v (.inr same)]
      · obtain rfl := (List.mem_cons.mp member).resolve_right later
        exact (kept i v (.inr later)).trans set_entry
    · rw [List.mem_cons, not_or] at outside
      exact (kept j v (outside.imp_right And.right)).trans (first_entry j v (outside.imp_right And.left))

theorem exec_protect_absent (h : s.AtMapUnit (.protect i access first count) m rest)
    (absent : ∃ v ∈ pagesFrom first count, s.entry i v = none) :
    exec (.protect i access first count) s = .next (s.claimTaken.answered m rest [0x07]) := by
  have check : ((pagesFrom first count).any fun v => (s.claimTaken.entry i v).isNone) = true := by
    simpa using absent
  rw [exec_protect h, State.protectRange, if_pos check, claimTaken_refuses h.toHanded]
  rfl

/-- R33: the range has passed the check of its entries, and the purge decides. -/
theorem protectRange_present (present : ∀ v ∈ pagesFrom first count, s.entry i v ≠ none) :
    s.protectRange i access first count =
      if (s.engine i).purgeInUse first count then s.refuse .inUse
      else
        (protectedAt (s.purge i first count) i access (pagesFrom first count)).produceReply (countPayload count) := by
  have check : ((pagesFrom first count).any fun v => (s.entry i v).isNone) = false := by
    simpa using present
  rw [State.protectRange, check]
  rfl

theorem exec_protect_inUse (h : s.AtMapUnit (.protect i access first count) m rest)
    (present : ∀ v ∈ pagesFrom first count, s.entry i v ≠ none)
    (used : (s.engine i).purgeInUse first count = true) :
    exec (.protect i access first count) s = .next (s.claimTaken.answered m rest [0x09]) := by
  rw [exec_protect h, protectRange_present (s := s.claimTaken) present, engine_claimTaken, if_pos used,
    claimTaken_refuses h.toHanded]
  rfl

theorem exec_protect_sets (h : s.AtMapUnit (.protect i access first count) m rest)
    (present : ∀ v ∈ pagesFrom first count, s.entry i v ≠ none)
    (idle : (s.engine i).purgeInUse first count = false) :
    exec (.protect i access first count) s = .next
      ((protectedAt (s.claimTaken.purge i first count) i access (pagesFrom first count)).answered m rest
        (countPayload count)) := by
  have command : (protectedAt (s.claimTaken.purge i first count) i access (pagesFrom first count)).command.queue =
      m :: rest := by
    rw [(protectedTo ..).state]
    exact h.queue
  rw [exec_protect h, protectRange_present (s := s.claimTaken) present, engine_claimTaken, if_neg (by simp [idle])]
  exact congrArg _ (produceReply_answered command _)

/-- Settles O32, by induction on the pages of the range. -/
theorem protectSetsTheAccess : Obligations.ProtectSetsTheAccess := by
  intro s m rest i access first count h _
  refine ⟨fun v low high absent => exec_protect_absent h ⟨v, mem_pagesFrom.mpr ⟨low, high⟩, absent⟩, fun inside => ?_⟩
  have present : ∀ v ∈ pagesFrom first count, s.entry i v ≠ none := fun v member =>
    inside v (mem_pagesFrom.mp member).1 (mem_pagesFrom.mp member).2
  refine ⟨exec_protect_inUse h present, fun idle => ?_⟩
  obtain ⟨state, set, kept⟩ := protectedTo (s.claimTaken.purge i first count) i access (pagesFrom first count)
  refine ⟨_, exec_protect_sets h present idle, ?_, fun v low high => set v (mem_pagesFrom.mpr ⟨low, high⟩),
    fun j v outside => kept j v (outside.imp_right fun out member => ?_)⟩
  · exact congrArg (fun t : State => t.answered m rest (countPayload count)) state
  · obtain ⟨low, high⟩ := mem_pagesFrom.mp member
    rcases out with out | out
    · exact absurd low (not_le.mpr out)
    · omega

end Protect

end Sys2Proof.Proofs

namespace Sys2Proof.Proofs

open Sys2Proof.Machine Sys2Proof.Laws

/-! ### A MAP of the page on which its stream waits (R28, R109, R110, R121) -/

section MapRetry

variable {s : State} {m : Message} {rest : List Message} {i : StreamId} {v : VPage} {f : FrameId} {access : Access}
  {asked : Option FrameId}

/-- The state in which a MAP retries its stream: the frame issued, and named by the entry (R27). -/
def mapping (s : State) (i : StreamId) (access : Access) (v : VPage) (f : FrameId) : State :=
  (s.claimTaken.issueFromQueue f none).setEntry i v (some ⟨f, access⟩)

theorem frame_mapping :
    (mapping s i access v f).frame f = { (s.frame f).renewed none with state := .bound, refcount := 1 } := by
  simp [mapping, State.issueFromQueue, State.issue]

theorem engine_mapping : (mapping s i access v f).engine i = s.engine i := by
  simp [mapping, State.issueFromQueue, State.issue]

theorem entry_mapping : (mapping s i access v f).entry i v = some ⟨f, access⟩ := entry_setEntry_self ..

/-- R27: a MAP that passes its checks issues the frame, retries its stream and answers. -/
theorem exec_map_issues (h : s.AtMapUnit (.map i access v asked) m rest) (absent : s.entry i v = none)
    (free : asked = none ∧ s.mapUnit.freeQueue.head? = some f ∨ asked = some f ∧ (s.frame f).state = .free) :
    exec (.map i access v asked) s = .next
      (((mapping s i access v f).retry i v 1).answered m rest
        (pairPayload f.val ((mapping s i access v f).frame f).generation.toNat)) := by
  have inner : Inner s.claimTaken ((mapping s i access v f).retry i v 1) :=
    ((inner_issueFromQueue ..).trans (inner_setEntry ..)).trans (inner_retry ..)
  have command : ((mapping s i access v f).retry i v 1).command.queue = m :: rest := by
    rw [inner.command]
    exact h.queue
  rw [exec_map h, mapPage_issues (s := s.claimTaken) absent free]
  exact congrArg _ (produceReply_answered command _)

/-- Settles O28: the retry finds a fresh frame under the access asked for, so that a replay stream enters an empty page,
and a capture stream writes in place or fails. -/
theorem mapRetriesTheFaultedStream : Obligations.MapRetriesTheFaultedStream := by
  intro s m rest i access v asked f direction h absent free unheld waits record running moves
  have frame := frame_mapping (s := s) (i := i) (access := access) (v := v) (f := f)
  have entry := entry_mapping (s := s) (i := i) (access := access) (v := v) (f := f)
  have engine := engine_mapping (s := s) (i := i) (access := access) (v := v) (f := f)
  refine ⟨_, exec_map_issues h absent free, ?_⟩
  generalize mapping s i access v f = t at frame entry engine
  rw [← engine] at waits record running moves ⊢
  have unheld_t : (t.frame f).hostHold = false := by rw [frame]; exact unheld
  rw [entry_answered, engine_answered, frame_answered]
  cases direction with
  | replay =>
    rw [retry_replay waits record moves entry, giveReplayPage_evaluateEntry, frame, engine_setEngine_self,
      entry_setEngine]
    exact ⟨entry, rfl, rfl, fun _ => ⟨rfl, rfl, rfl⟩, nofun, nofun⟩
  | capture =>
    rw [retry_capture waits record moves]
    cases access with
    | readWrite =>
      rw [writeClaim_writesInPlace entry unheld_t (by rw [frame]; exact ⟨rfl, rfl, rfl⟩), entry_giveFrame,
        entry_setFrame, giveFrame_engine_waiting (by exact waits) (by exact running), frame_giveFrame,
        frame_setFrame_self, frame]
      exact ⟨entry, rfl, rfl, nofun, fun _ _ => ⟨rfl, rfl, rfl, rfl, rfl⟩, nofun⟩
    | readOnly =>
      have fails := enterFailed_failsAt t i v
      rw [writeClaim_fails entry unheld_t, fails.entry, fails.frame, frame]
      refine ⟨entry, fails.faultRecord, ?_, nofun, nofun, fun _ _ =>
        ⟨fails.state, fails.currentPage, fails.activeSlot, fails.endReason, rfl⟩⟩
      rw [engine_enterFailed]

end MapRetry

end Sys2Proof.Proofs

namespace Sys2Proof.Proofs

open Sys2Proof.Machine Sys2Proof.Laws

/-! ### The completion of a replay burst (R67, R114, R115, R117) -/

section ReplayBurst

variable {s t : State} {i : StreamId} {p : PortId} {b : Burst} {c : CurrentPage} {e : Engine}

/-- R114: a live stream goes on, with the position advanced, by its state. -/
theorem exec_replayBurstComplete (out : s.heldInReset = none) (flight : s.arbiter.inFlight = some b)
    (own : b.requester = requesterOf i) (reads : b.isWrite = false) (live : (s.engine i).restart = .none) :
    exec (.replayBurstComplete i) s = .next
      ((s.endBurst.setEngine i ((s.engine i).advanced b.length)).afterReplay i
        (bytesWords (s.storeBytes b.frame b.offset b.length))) := by
  have due : (s.heldInReset.isNone && s.streamBurst i false) = true := by
    simp [out, State.streamBurst, flight, own, reads]
  have still : ((s.engine i).advanced b.length).restart = .none := live
  show execReplayBurstComplete i s = _
  rw [execReplayBurstComplete, takeStep_due due, flight]
  simp only [State.completeReplay, State.modEngine, engine_endBurst, engine_setEngine_self, still, reduceCtorEq,
    if_false]

/-- The words of a burst are appended to the FIFO of its stream. -/
theorem setFifo_appended (port : e.port = some p) (words : List Word) :
    (t.setEngine i e).setFifo i ((t.setEngine i e).fifoOf i ++ words) =
      (t.setPort p { t.port p with fifo := (t.port p).fifo ++ words }).setEngine i e := by
  have bound : ((t.setEngine i e).engine i).port = some p := by rw [engine_setEngine_self, port]
  rw [setFifo_bound bound, fifoOf_bound bound]
  rfl

theorem afterReplay_running (running : e.state = .running) (port : e.port = some p) (words : List Word) :
    (t.setEngine i e).afterReplay i words =
      ((t.setPort p { t.port p with fifo := (t.port p).fifo ++ words }).setEngine i e).evaluatePage i := by
  rw [State.afterReplay, engine_setEngine_self, running]
  exact congrArg (fun u : State => u.evaluatePage i) (setFifo_appended port words)

theorem afterReplay_paused (paused : e.state = .paused) (port : e.port = some p) (words : List Word) :
    (t.setEngine i e).afterReplay i words =
      (t.setPort p { t.port p with fifo := (t.port p).fifo ++ words }).setEngine i e := by
  rw [State.afterReplay, engine_setEngine_self, paused]
  exact setFifo_appended port words

/-- R67, R71: in STOPPING the words are discarded, and the stream enters DONE. -/
theorem afterReplay_stopping {reason : EndReason} (stopping : e.state = .stopping) (ending : e.endReason = some reason)
    (port : e.port = some p) (words : List Word) :
    (t.setEngine i e).afterReplay i words =
      ((t.setPort p { t.port p with gateOpen := false }).setEngine i
        { e with
          state := .done, currentPage := none, activeSlot := none, faultRecord := none, lookFill := none
          due := .none }).post (some i) (.streamEnd reason e.position none) := by
  have ends : (t.setEngine i e).afterReplay i words = (t.setEngine i e).enterDone i reason := by
    rw [State.afterReplay, engine_setEngine_self, stopping, ending]
    rfl
  rw [ends, enterDone_bound (p := p) (by rw [engine_setEngine_self, port]), setPort_setEngine, setEngine_setEngine,
    engine_setEngine_self, port_setEngine, ← ending]

/-! ### The evaluation of the page of a stream in RUNNING (R115, R117) -/

/-- R115: a page that is not at its end is kept. -/
theorem evaluatePage_kept (current : e.currentPage = some c)
    (kept : e.position.offset < (t.frame c.frame).fill ∨ (t.frame c.frame).isSealed = false) :
    (t.setEngine i e).evaluatePage i = (t.setEngine i e).evaluateEntry i := by
  have look : (t.setEngine i e).fillLook c.frame e.position.offset ≠ .sealedEnd := by
    rcases kept with below | opened
    · simp [State.fillLook, below]
    · simp only [State.fillLook, frame_setEngine, opened]
      split <;> simp
  simp only [State.evaluatePage, engine_setEngine_self, current]
  split
  · contradiction
  · rfl
  · rfl

/-- R115: below the fill the stream goes on with its look. -/
theorem evaluatePage_below (running : e.state = .running) (current : e.currentPage = some c)
    (below : e.position.offset < (t.frame c.frame).fill) :
    (t.setEngine i e).evaluatePage i =
      t.setEngine i { e with lookFill := some (t.frame c.frame).fill, due := .none } := by
  rw [evaluatePage_kept current (.inl below), evaluateEntry_current current, if_pos below, ← running]

/-- R115: at the fill of an unsealed frame it waits. -/
theorem evaluatePage_open (current : e.currentPage = some c) (atFill : (t.frame c.frame).fill ≤ e.position.offset)
    (opened : (t.frame c.frame).isSealed = false) :
    (t.setEngine i e).evaluatePage i = t.setEngine i { e with state := .waitData, lookFill := none, due := .none } := by
  rw [evaluatePage_kept current (.inr opened), evaluateEntry_current current, if_neg (Nat.not_lt.mpr atFill),
    if_neg (by simp [opened])]

/-- R117: at the fill of a sealed frame it leaves the page. -/
theorem evaluatePage_sealed (current : e.currentPage = some c) (atFill : (t.frame c.frame).fill ≤ e.position.offset)
    (closed : (t.frame c.frame).isSealed = true) :
    (t.setEngine i e).evaluatePage i = (t.setEngine i e).leaveReplayPage i c.vpage := by
  have look : (t.setEngine i e).fillLook c.frame e.position.offset = .sealedEnd := by
    simp [State.fillLook, closed, Nat.not_lt.mpr atFill]
  simp only [State.evaluatePage, engine_setEngine_self, current, look]

/-- R88, R97: a leave with no pages to go counts the page alone. -/
theorem countLeave_running (running : e.state = .running) (toGo : e.pagesToGo = none) (v : VPage) :
    { e.countLeave v with state := .running, lookFill := none, due := .none } =
      { e with
        lookFill := none, due := .none
        counters := { e.counters with pagesCompleted := e.counters.pagesCompleted + 1 }
        activationPages := BitVec.ofNat 32 (min (e.activationPages.toNat + 1) 0xFFFFFFFF) } := by
  have kept : e.pagesToGoAfterLeave v = e.pagesToGo := by simp [Engine.pagesToGoAfterLeave, toGo]
  rw [Engine.countLeave, kept, ← running]
  rfl

/-- Settles O52, by the state that the burst finds the stream in, and in RUNNING by what the page's fill look finds. -/
theorem replayBurstAdvancesTheStream : Obligations.ReplayBurstAdvancesTheStream := by
  intro s i p b c out flight own reads live port current offset moved words given
  have run : exec (.replayBurstComplete i) s = .next ((s.endBurst.setEngine i moved).afterReplay i words) :=
    exec_replayBurstComplete out flight own reads live
  rw [run]
  refine ⟨fun running => ?_, fun paused => congrArg _ (afterReplay_paused (e := moved) paused port words),
    fun reason stopping ending => congrArg _ (afterReplay_stopping (e := moved) stopping ending port words)⟩
  have evaluates : (s.endBurst.setEngine i moved).afterReplay i words = (given.setEngine i moved).evaluatePage i :=
    afterReplay_running (e := moved) running port words
  rw [evaluates]
  refine ⟨fun below => ?_, fun atFill opened => ?_, fun atFill closed toGo => ?_⟩
  · exact congrArg _ (evaluatePage_below running current below)
  · exact congrArg _ (evaluatePage_open current atFill opened)
  · intro left
    rw [evaluatePage_sealed (t := given) (e := moved) current atFill closed]
    have counted : { moved.countLeave c.vpage with state := .running, lookFill := none, due := .none } = left :=
      countLeave_running (e := moved) running toGo c.vpage
    refine ⟨fun release => ?_, fun d keep active => ?_⟩
    · rw [leaveReplayPage_release (e := moved) release, counted]
    · intro last inside
      rw [leaveReplayPage_keep (e := moved) keep, counted,
        afterReplayLeave_next (e := left) (d := d) active toGo inside, nextPageOf_eq]

end ReplayBurst

end Sys2Proof.Proofs

namespace Sys2Proof.Proofs

open Sys2Proof.Machine Sys2Proof.Laws

/-! ### The law of a translation cache (R39, R41, R42, R46) -/

section RankedCaches

variable {cache : Cache} {es : List CacheEntry} {v : VPage} {f : FrameId} {access : Access}

/-- The law of R39 on the occupied entries of a cache: no page and no rank twice, and every rank below their number. -/
structure RankedEntries (es : List CacheEntry) : Prop where
  pages : (es.map fun e => e.vpage).Nodup
  ranks : (es.map fun e => e.rank).Nodup
  below : ∀ e ∈ es, e.rank < es.length

/-- A cache under its law. -/
def Ranked (cache : Cache) : Prop := RankedEntries (occupiedEntries cache)

theorem RankedEntries.perm (h : RankedEntries es) : (es.map fun e => e.rank).Perm (List.range es.length) := by
  refine (List.subperm_of_subset h.ranks fun r hr => ?_).perm_of_length_le (by simp)
  obtain ⟨e, mem, rfl⟩ := List.mem_map.mp hr
  exact List.mem_range.mpr (h.below e mem)

theorem cacheOk_iff {e : Engine} : e.CacheOk ↔ Ranked e.cache := by
  constructor
  · intro ok
    refine ⟨ok.apart, ok.ranked.nodup_iff.mpr List.nodup_range, fun x mem => ?_⟩
    exact List.mem_range.mp (ok.ranked.subset (List.mem_map_of_mem mem))
  · exact fun ranked => ⟨ranked.pages, ranked.perm⟩

theorem RankedEntries.page_inj (h : RankedEntries es) {x y : CacheEntry} (hx : x ∈ es) (hy : y ∈ es)
    (same : x.vpage = y.vpage) : x = y :=
  List.inj_on_of_nodup_map h.pages hx hy same

theorem RankedEntries.rank_inj (h : RankedEntries es) {x y : CacheEntry} (hx : x ∈ es) (hy : y ∈ es)
    (same : x.rank = y.rank) : x = y :=
  List.inj_on_of_nodup_map h.ranks hx hy same

theorem RankedEntries.of_perm {es' : List CacheEntry} (h : RankedEntries es) (p : es'.Perm es) : RankedEntries es' :=
  ⟨(p.map _).nodup_iff.mpr h.pages, (p.map _).nodup_iff.mpr h.ranks,
    fun e mem => p.length_eq ▸ h.below e (p.subset mem)⟩

/-- Entries rewritten one by one keep the law, if no two come to one page or to one rank. -/
theorem RankedEntries.map (h : RankedEntries es) {g : CacheEntry → CacheEntry}
    (pages : ∀ x ∈ es, ∀ y ∈ es, (g x).vpage = (g y).vpage → x = y)
    (ranks : ∀ x ∈ es, ∀ y ∈ es, (g x).rank = (g y).rank → x = y)
    (below : ∀ x ∈ es, (g x).rank < es.length) : RankedEntries (es.map g) := by
  have entries : es.Nodup := List.Nodup.of_map _ h.pages
  refine ⟨?_, ?_, fun e mem => ?_⟩
  · rw [List.map_map]
    exact entries.map_on pages
  · rw [List.map_map]
    exact entries.map_on ranks
  · obtain ⟨x, hx, rfl⟩ := List.mem_map.mp mem
    simpa using below x hx

/-! #### The entries of a cache after an update -/

theorem mem_occupied {e : CacheEntry} : e ∈ occupiedEntries cache ↔ some e ∈ cache.toList := by
  simp [occupiedEntries]

/-- Entries kept or dropped by what they hold, and rewritten one by one. -/
theorem occupied_map_filter (p : CacheEntry → Bool) (g : CacheEntry → CacheEntry) :
    occupiedEntries (cache.map fun place => (place.filter p).map g) = ((occupiedEntries cache).filter p).map g := by
  simp only [occupiedEntries, Vector.toList_map, ← List.filterMap_eq_map, List.filterMap_filter,
    List.filterMap_filterMap]
  refine List.filterMap_congr fun place _ => ?_
  cases place with
  | none => rfl
  | some e => cases kept : p e <;> simp [Option.filter, kept]

theorem occupied_map (g : CacheEntry → CacheEntry) :
    occupiedEntries (cache.map (Option.map g)) = (occupiedEntries cache).map g := by
  have all : (fun place : Option CacheEntry => (place.filter fun _ => true).map g) = Option.map g := by
    funext place
    cases place <;> rfl
  have kept := occupied_map_filter (cache := cache) (fun _ => true) g
  rwa [all, List.filter_true] at kept

/-- An entry put into an empty place. -/
theorem occupied_set_empty {k : Fin 4} (empty : cache[k] = none) (e : CacheEntry) :
    (occupiedEntries (cache.set k (some e))).Perm (e :: occupiedEntries cache) := by
  have place : k.val < cache.toList.length := by simp
  have split : cache.toList = cache.toList.take k ++ none :: cache.toList.drop (k + 1) := by
    conv_lhs => rw [← List.take_append_drop k cache.toList, List.drop_eq_getElem_cons place]
    simpa using empty
  simp only [occupiedEntries, Vector.toList_set, List.set_eq_take_append_cons_drop, place, if_true]
  conv_rhs => rw [split]
  simp

/-! #### Lookups (R41, R43) -/

theorem touchRank_vpage (r : Nat) (x : CacheEntry) : (touchRank r x).vpage = x.vpage := by
  unfold touchRank
  split
  · rfl
  · split <;> rfl

theorem touchRank_rank (r : Nat) (x : CacheEntry) :
    (touchRank r x).rank = if x.rank = r then 0 else if x.rank < r then x.rank + 1 else x.rank := by
  unfold touchRank
  split
  · rfl
  · split <;> rfl

/-- R41: the entries below the one touched move up by one, into the place that it leaves. -/
theorem RankedEntries.touch (h : RankedEntries es) {old : CacheEntry} (mem : old ∈ es) {g : CacheEntry → CacheEntry}
    (pages : ∀ x ∈ es, (g x).vpage = x.vpage) (ranks : ∀ x ∈ es, (g x).rank = (touchRank old.rank x).rank) :
    RankedEntries (es.map g) := by
  have bound := h.below old mem
  refine h.map (fun x hx y hy same => ?_) (fun x hx y hy same => ?_) fun x hx => ?_
  · rw [pages x hx, pages y hy] at same
    exact h.page_inj hx hy same
  · rw [ranks x hx, ranks y hy, touchRank_rank, touchRank_rank] at same
    refine h.rank_inj hx hy ?_
    grind
  · have := h.below x hx
    rw [ranks x hx, touchRank_rank]
    grind

theorem ranked_cacheTouch {e : CacheEntry} (h : Ranked cache) (found : cacheLookup cache v = some e) :
    Ranked (cacheTouch cache e.rank) := by
  have mem := mem_occupied.mpr (mem_of_cacheLookup found).1
  rw [Ranked, cacheTouch, occupied_map]
  exact h.touch mem (fun x _ => touchRank_vpage ..) fun _ _ => rfl

/-! #### Installation (R42) -/

/-- R42: an entry of rank 0 is added, and every other one moves up by one. -/
theorem RankedEntries.add (h : RankedEntries es) {e : CacheEntry} (first : e.rank = 0)
    (fresh : ∀ x ∈ es, x.vpage ≠ e.vpage) :
    RankedEntries (e :: es.map fun x => { x with rank := x.rank + 1 }) := by
  refine ⟨?_, ?_, ?_⟩
  · rw [List.map_cons, List.map_map, List.nodup_cons]
    exact ⟨by simpa using fresh, h.pages⟩
  · have raised := h.ranks.map (f := fun r => r + 1) (fun x y same => by simpa using same)
    rw [List.map_map] at raised
    simpa [first, Function.comp_def] using raised
  · intro x mem
    rcases List.mem_cons.mp mem with rfl | mem
    · simp [first]
    · obtain ⟨y, hy, rfl⟩ := List.mem_map.mp mem
      simpa using h.below y hy

/-- R42: in a full cache the new entry takes the place of the last one. -/
theorem RankedEntries.replaceLast {n : Nat} (h : RankedEntries es) (full : es.length = n + 1) {e : CacheEntry}
    (first : e.rank = 0) (fresh : ∀ x ∈ es, x.vpage ≠ e.vpage) :
    RankedEntries (es.map fun x => if x.rank = n then e else { x with rank := x.rank + 1 }) := by
  refine h.map (fun x hx y hy same => ?_) (fun x hx y hy same => ?_) fun x hx => ?_
  · by_cases last : x.rank = n <;> by_cases last' : y.rank = n
    · exact h.rank_inj hx hy (last.trans last'.symm)
    · simp only [last, last', if_true, if_false] at same
      exact absurd same.symm (fresh y hy)
    · simp only [last, last', if_true, if_false] at same
      exact absurd same (fresh x hx)
    · simp only [last, last', if_false] at same
      exact h.page_inj hx hy same
  · refine h.rank_inj hx hy ?_
    grind
  · have := h.below x hx
    grind

theorem occupied_length_of_full (full : emptyIndex cache = none) : (occupiedEntries cache).length = 4 := by
  rw [occupiedEntries, List.length_filterMap_eq_countP, List.countP_eq_length.mpr]
  · simp
  · intro x mem
    obtain ⟨e, rfl⟩ := occupied_of_full full x mem
    rfl

theorem ranked_cacheInstall (h : Ranked cache) (v : VPage) (f : FrameId) (access : Access) :
    Ranked (cacheInstall cache v f access) := by
  unfold cacheInstall
  cases found : cacheLookup cache v with
  | some old =>
    obtain ⟨held, page⟩ := mem_of_cacheLookup found
    have mem := mem_occupied.mpr held
    have own : ∀ x ∈ occupiedEntries cache, x.vpage = v → x = old := fun x hx same =>
      h.page_inj hx mem (same.trans page.symm)
    simp only [Ranked, occupied_map]
    refine h.touch mem (fun x hx => ?_) fun x hx => ?_
    · split
      · rename_i same
        exact same.symm
      · exact touchRank_vpage ..
    · split
      · rename_i same
        rw [own x hx same, touchRank_rank, if_pos rfl]
      · rfl
  | none =>
    have fresh : ∀ x ∈ occupiedEntries cache, x.vpage ≠ v := fun x hx =>
      cacheLookup_eq_none.mp found x (mem_occupied.mp hx)
    cases room : emptyIndex cache with
    | some k =>
      have empty : cache[k] = none := by simpa using List.find?_some room
      refine RankedEntries.of_perm ?_ (occupied_set_empty (by simpa using empty) _)
      rw [occupied_map]
      exact h.add rfl fresh
    | none =>
      simp only [Ranked, occupied_map]
      exact h.replaceLast (n := 3) (occupied_length_of_full room) rfl fresh

/-! #### Purges (R41, R46) -/

theorem countP_lt_range {n r : Nat} (le : r ≤ n) : (List.range n).countP (fun k => k < r) = r := by
  induction n generalizing r with
  | zero => simpa using (Nat.le_zero.mp le).symm
  | succ n ih =>
    rw [List.range_succ, List.countP_append]
    rcases Nat.lt_or_eq_of_le le with below | rfl
    · rw [ih (Nat.lt_succ_iff.mp below)]
      simpa using Nat.lt_succ_iff.mp below
    · rw [List.countP_eq_length.mpr fun k hk => by simpa using (List.mem_range.mp hk).le]
      simp

/-- A rank is the number of the entries of lower rank. -/
theorem RankedEntries.countP_eq_rank (h : RankedEntries es) {e : CacheEntry} (mem : e ∈ es) :
    es.countP (fun x => x.rank < e.rank) = e.rank := by
  have same := h.perm.countP_eq fun k => decide (k < e.rank)
  rw [countP_lt_range (h.below e mem).le, List.countP_map] at same
  exact same

/-- An entry with its rank among the entries kept. -/
def closedUp (kept : List CacheEntry) (e : CacheEntry) : CacheEntry :=
  { e with rank := kept.countP fun x => x.rank < e.rank }

/-- The places of a cache gone through for what its entries of one kind hold. -/
theorem filterMap_places {α : Type} {g : Option CacheEntry → Option α} {p : CacheEntry → Bool} {h : CacheEntry → α}
    (empty : g none = none) (held : ∀ e, g (some e) = if p e then some (h e) else none) :
    cache.toList.filterMap g = ((occupiedEntries cache).filter p).map h := by
  simp only [occupiedEntries, ← List.filterMap_eq_map, List.filterMap_filter, List.filterMap_filterMap]
  refine List.filterMap_congr fun place _ => ?_
  cases place with
  | none => exact empty
  | some e => exact held e

/-- R41, R46: what a purge makes of the places of a cache. -/
theorem cacheDrop_eq (cache : Cache) (first : VPage) (count : Nat) :
    cacheDrop cache first count = cache.map fun place =>
      (place.filter fun e => !inPageRange first count e.vpage).map fun e =>
        { e with
          rank := e.rank -
            ((occupiedEntries cache).filter fun x => inPageRange first count x.vpage).countP
              fun x => x.rank < e.rank } := by
  unfold cacheDrop
  rw [filterMap_places (p := fun e => inPageRange first count e.vpage) (h := fun e => e.rank) rfl fun e => rfl]
  refine Vector.ext fun k bound => ?_
  rw [Vector.getElem_map, Vector.getElem_map]
  cases cache[k] with
  | none => rfl
  | some e =>
    cases inside : inPageRange first count e.vpage <;>
      simp [Option.filter, inside, List.filter_map, List.countP_eq_length_filter, Function.comp_def]

/-- R41, R46: a purge keeps the entries outside its range, and closes up their ranks. -/
theorem Ranked.occupied_cacheDrop (h : Ranked cache) (first : VPage) (count : Nat) :
    let kept := (occupiedEntries cache).filter fun e => !inPageRange first count e.vpage
    occupiedEntries (cacheDrop cache first count) = kept.map (closedUp kept) := by
  intro kept
  rw [cacheDrop_eq, occupied_map_filter]
  refine List.map_congr_left fun e mem => ?_
  have parts := List.countP_eq_countP_filter_add (occupiedEntries cache) (fun x => decide (x.rank < e.rank))
    fun x => inPageRange first count x.vpage
  rw [h.countP_eq_rank (List.mem_of_mem_filter mem)] at parts
  rw [closedUp, CacheEntry.mk.injEq]
  exact ⟨rfl, rfl, rfl, Nat.sub_eq_of_eq_add' parts⟩

theorem countP_lt_countP {α : Type} {l : List α} {p q : α → Bool} {x : α} (mem : x ∈ l) (le : ∀ y ∈ l, p y → q y)
    (new : q x = true) (old : p x = false) : l.countP p < l.countP q := by
  classical
  have split := List.perm_cons_erase mem
  rw [split.countP_eq p, split.countP_eq q, List.countP_cons_of_neg (by simp [old]), List.countP_cons_of_pos new]
  exact Nat.lt_succ_of_le (List.countP_mono_left fun y hy => le y (List.mem_of_mem_erase hy))

/-- Entries ranked by the number of those below them are ranked. -/
theorem RankedEntries.closeUp (h : RankedEntries es) {kept : List CacheEntry} (sub : kept.Sublist es) :
    RankedEntries (kept.map (closedUp kept)) := by
  have pages : (kept.map fun e => e.vpage).Nodup := h.pages.sublist (sub.map _)
  have rises : ∀ x ∈ kept, ∀ y, x.rank < y.rank → (closedUp kept x).rank < (closedUp kept y).rank :=
    fun x mem y less => countP_lt_countP mem (fun z _ => by simpa using fun low => low.trans less)
      (by simpa using less) (by simp)
  refine ⟨?_, ?_, ?_⟩
  · rw [List.map_map]
    exact pages
  · rw [List.map_map]
    refine List.Nodup.map_on (fun x hx y hy same => h.rank_inj (sub.subset hx) (sub.subset hy) ?_) pages.of_map
    rcases Nat.lt_trichotomy x.rank y.rank with less | equal | less
    · exact absurd same (rises x hx y less).ne
    · exact equal
    · exact absurd same (rises y hy x less).ne'
  · intro e mem
    obtain ⟨x, hx, rfl⟩ := List.mem_map.mp mem
    rw [List.length_map]
    exact List.countP_lt_length_iff.mpr ⟨x, hx, by simp⟩

theorem ranked_cacheDrop (h : Ranked cache) (first : VPage) (count : Nat) : Ranked (cacheDrop cache first count) := by
  rw [Ranked, h.occupied_cacheDrop]
  exact h.closeUp List.filter_sublist

theorem ranked_emptyCache : Ranked emptyCache := by
  have none_held : occupiedEntries emptyCache = [] := rfl
  rw [Ranked, none_held]
  exact ⟨List.nodup_nil, List.nodup_nil, nofun⟩

end RankedCaches
end Sys2Proof.Proofs

namespace Sys2Proof.Proofs

open Sys2Proof.Machine Sys2Proof.Laws

/-! ### What leaves the translation caches as they are -/

section CachesKept

/-- The translation caches of the stream engines. -/
def cachesIn (engines : Vector Engine 8) : Vector Cache 8 := engines.map fun e => e.cache

variable (s : State) (i : StreamId)

theorem cachesIn_get (engines : Vector Engine 8) (j : StreamId) : (cachesIn engines)[j] = (engines[j]).cache := by
  simp [cachesIn]

@[simp] theorem cachesIn_set_same {e : Engine} (same : e.cache = (s.engine i).cache) :
    cachesIn (s.engines.set i e) = cachesIn s.engines := by
  have kept : (s.engines.map fun e => e.cache).set i e.cache = s.engines.map fun e => e.cache := by
    refine Vector.ext fun k bound => ?_
    rw [same, Vector.getElem_set, Vector.getElem_map]
    split
    · rename_i own
      subst own
      rfl
    · rfl
  simpa [cachesIn] using kept

theorem cachesIn_map_same {g : Engine → Engine} (same : ∀ e, (g e).cache = e.cache) :
    cachesIn (s.engines.map g) = cachesIn s.engines := by
  simp [cachesIn, same]

/-! #### Engines -/

@[simp] theorem cache_setSlot (e : Engine) (name : SlotName) (d : Option Descriptor) :
    (e.setSlot name d).cache = e.cache := by
  cases name <;> rfl
@[simp] theorem cache_activate (e : Engine) (name : SlotName) : (e.activate name).cache = e.cache := by
  simp only [Engine.activate]
@[simp] theorem cache_countLeave (e : Engine) (v : VPage) : (e.countLeave v).cache = e.cache := by
  simp only [Engine.countLeave]
@[simp] theorem cache_advanced (e : Engine) (n : Nat) : (e.advanced n).cache = e.cache := by simp only [Engine.advanced]
@[simp] theorem cache_emptyActiveSlot (e : Engine) : e.emptyActiveSlot.cache = e.cache := by
  unfold Engine.emptyActiveSlot; split <;> simp

@[simp] theorem caches_produceReply (payload : List Byte) :
    cachesIn (s.produceReply payload).engines = cachesIn s.engines := by
  unfold State.produceReply; split <;> rfl
@[simp] theorem caches_refuse (status : Status) : cachesIn (s.refuse status).engines = cachesIn s.engines :=
  caches_produceReply ..
@[simp] theorem caches_replyOk : cachesIn s.replyOk.engines = cachesIn s.engines := caches_produceReply ..
@[simp] theorem caches_signal (f : FrameId) : cachesIn (s.signal f).engines = cachesIn s.engines :=
  cachesIn_map_same s fun e => by split <;> rfl
@[simp] theorem caches_discardCapture : cachesIn (s.discardCapture i).engines = cachesIn s.engines := by
  simp [State.discardCapture]
@[simp] theorem caches_enterDone (r : EndReason) : cachesIn (s.enterDone i r).engines = cachesIn s.engines := by
  simp [State.enterDone]
@[simp] theorem caches_enterFailed (v : VPage) : cachesIn (s.enterFailed i v).engines = cachesIn s.engines := by
  simp [State.enterFailed]
@[simp] theorem caches_sendSeal (c : Option Nat → EngineClaim) :
    cachesIn (s.sendSeal i c).engines = cachesIn s.engines := rfl
@[simp] theorem caches_reportFill (f : FrameId) (o : Nat) :
    cachesIn (s.reportFill i f o).engines = cachesIn s.engines := by
  unfold State.reportFill; split <;> rfl
@[simp] theorem caches_stopInFault (r : EndReason) : cachesIn (s.stopInFault i r).engines = cachesIn s.engines := by
  unfold State.stopInFault; dsimp only; split <;> simp
@[simp] theorem caches_enterFault (v : VPage) (r : FaultReason) :
    cachesIn (s.enterFault i v r).engines = cachesIn s.engines := by
  unfold State.enterFault; dsimp only; split <;> simp


/-! #### Frames and the pool -/

@[simp] theorem caches_issueFor (f : FrameId) (handed : Bool) :
    cachesIn (s.issueFor i f handed).engines = cachesIn s.engines := by
  unfold State.issueFor; split <;> simp [State.issueFromQueue, State.issue]
@[simp] theorem caches_issueFromQueue (f : FrameId) (w : Option StreamId) :
    cachesIn (s.issueFromQueue f w).engines = cachesIn s.engines := by
  simp [State.issueFromQueue, State.issue]
@[simp] theorem caches_returnToQueue (f : FrameId) : cachesIn (s.returnToQueue f).engines = cachesIn s.engines := by
  unfold State.returnToQueue; dsimp only; split <;> simp
@[simp] theorem caches_setFill (f : FrameId) (n : Nat) : cachesIn (s.setFill f n).engines = cachesIn s.engines := by
  unfold State.setFill; dsimp only; split <;> simp
@[simp] theorem caches_sealFrame (f : FrameId) : cachesIn (s.sealFrame f).engines = cachesIn s.engines := by
  unfold State.sealFrame; split <;> simp
@[simp] theorem caches_sealAt (f : FrameId) (carried : Option Nat) :
    cachesIn (s.sealAt f carried).engines = cachesIn s.engines := by
  unfold State.sealAt; split <;> simp

/-! #### Pages -/

@[simp] theorem caches_sendWrite : cachesIn (s.sendWrite i).engines = cachesIn s.engines := rfl
@[simp] theorem caches_evaluateEntry : cachesIn (s.evaluateEntry i).engines = cachesIn s.engines := by
  unfold State.evaluateEntry
  split
  · rfl
  · split <;> simp
@[simp] theorem caches_goToNextPage : cachesIn (s.goToNextPage i).engines = cachesIn s.engines := by
  simp [State.goToNextPage]
@[simp] theorem caches_enterChained : cachesIn (s.enterChained i).engines = cachesIn s.engines := by
  unfold State.enterChained; split <;> simp
@[simp] theorem caches_finishEmptying (r : EndReason) :
    cachesIn (s.finishEmptying i r).engines = cachesIn s.engines := by
  simp [State.finishEmptying]
@[simp] theorem caches_endSegment (v : VPage) (r : EndReason) :
    cachesIn (s.endSegment i v r).engines = cachesIn s.engines := by
  unfold State.endSegment
  split
  · dsimp only
    split <;> simp
  · simp
@[simp] theorem caches_completeSegment (v : VPage) : cachesIn (s.completeSegment i v).engines = cachesIn s.engines := by
  unfold State.completeSegment
  split
  · dsimp only
    split
    · split <;> simp
    · simp
  · rfl
@[simp] theorem caches_advancePage (v : VPage) : cachesIn (s.advancePage i v).engines = cachesIn s.engines := by
  simp [State.advancePage]
@[simp] theorem caches_leaveInDrain (v : VPage) : cachesIn (s.leaveInDrain i v).engines = cachesIn s.engines := by
  unfold State.leaveInDrain
  dsimp only
  split
  · simp
  · split <;> simp
@[simp] theorem caches_leaveCapturePage (v : VPage) :
    cachesIn (s.leaveCapturePage i v).engines = cachesIn s.engines := by
  unfold State.leaveCapturePage
  dsimp only
  split
  · simp
  · split <;> simp
@[simp] theorem caches_afterReplayLeave (v : VPage) :
    cachesIn (s.afterReplayLeave i v).engines = cachesIn s.engines := by
  unfold State.afterReplayLeave; dsimp only; split <;> simp
@[simp] theorem caches_leaveReplayPage (v : VPage) : cachesIn (s.leaveReplayPage i v).engines = cachesIn s.engines := by
  unfold State.leaveReplayPage; dsimp only; split <;> simp
@[simp] theorem caches_evaluatePage : cachesIn (s.evaluatePage i).engines = cachesIn s.engines := by
  unfold State.evaluatePage
  split
  · rfl
  · split <;> simp
@[simp] theorem caches_passOver (v : VPage) : cachesIn (s.passOver i v).engines = cachesIn s.engines := by
  unfold State.passOver; dsimp only; split <;> simp
@[simp] theorem caches_endWhenDrained : cachesIn (s.endWhenDrained i).engines = cachesIn s.engines := by
  unfold State.endWhenDrained; split <;> simp

/-! #### Bursts and transfers -/

@[simp] theorem caches_grantHost (q : BurstRequest) : cachesIn (s.grantHost q).engines = cachesIn s.engines := by
  unfold State.grantHost
  split
  · rfl
  · dsimp only
    split <;> simp [State.granted]
@[simp] theorem caches_grantReplay (q : BurstRequest) : cachesIn (s.grantReplay i q).engines = cachesIn s.engines := by
  simp [State.grantReplay, State.granted]
@[simp] theorem caches_grantTo (r : Requester) : cachesIn (s.grantTo r).engines = cachesIn s.engines := by
  unfold State.grantTo
  split
  · rfl
  · split
    · split <;> simp [State.grantCapture, State.granted]
    · simp
@[simp] theorem caches_afterCapture : cachesIn (s.afterCapture i).engines = cachesIn s.engines := by
  unfold State.afterCapture
  split
  · rfl
  · dsimp only
    split <;> simp
@[simp] theorem caches_afterReplay (ws : List Word) : cachesIn (s.afterReplay i ws).engines = cachesIn s.engines := by
  unfold State.afterReplay; split <;> simp
@[simp] theorem caches_continueTransfer (x : Transfer) :
    cachesIn (s.continueTransfer x).engines = cachesIn s.engines := by
  unfold State.continueTransfer
  dsimp only
  split
  · rfl
  · split <;> simp
@[simp] theorem caches_completeHostBurst (b : Burst) :
    cachesIn (s.completeHostBurst b).engines = cachesIn s.engines := by
  unfold State.completeHostBurst
  split
  · rfl
  · split <;> simp [State.storeWrite]
@[simp] theorem caches_readPage (v : VPage) (o n : Nat) :
    cachesIn (s.readPage i v o n).engines = cachesIn s.engines := by
  unfold State.readPage
  split
  · simp
  · dsimp only
    split
    · simp
    · rfl
@[simp] theorem caches_writePage (v : VPage) (o : Nat) (data : List Byte) :
    cachesIn (s.writePage i v o data).engines = cachesIn s.engines := by
  unfold State.writePage
  split
  · simp
  · simp only [State.beginTransfer]
    split_ifs <;> simp
@[simp] theorem caches_sealCommand (v : VPage) : cachesIn (s.sealCommand i v).engines = cachesIn s.engines := by
  unfold State.sealCommand
  split
  · simp
  · dsimp only
    split <;> simp

/-! #### Claims, commands, lanes and the link -/

@[simp] theorem caches_takeLeaveSeal (f : FrameId) (carried : Option Nat) :
    cachesIn (s.takeLeaveSeal i f carried).engines = cachesIn s.engines := by
  simp [State.takeLeaveSeal]
@[simp] theorem caches_giveUpPlace (carried : Option Nat) :
    cachesIn (s.giveUpPlace i carried).engines = cachesIn s.engines := by
  unfold State.giveUpPlace; dsimp only; split <;> simp
@[simp] theorem caches_endBySeal : cachesIn (s.endBySeal i).engines = cachesIn s.engines := by
  unfold State.endBySeal; split <;> simp
@[simp] theorem caches_answerStop : cachesIn (s.answerStop i).engines = cachesIn s.engines := by
  unfold State.answerStop; split <;> simp
@[simp] theorem caches_takeSignal : cachesIn (s.takeSignal i).engines = cachesIn s.engines := by
  unfold State.takeSignal
  split
  · rfl
  · dsimp only
    split <;> simp
@[simp] theorem caches_takeCommand : cachesIn s.takeCommand.engines = cachesIn s.engines := by
  unfold State.takeCommand
  split
  · rfl
  · split
    · simp
    · unfold State.handCommand
      dsimp only
      split <;> rfl
@[simp] theorem caches_sendRestart (scope : RestartScope) :
    cachesIn (s.sendRestart scope).engines = cachesIn s.engines :=
  cachesIn_map_same s fun _ => rfl
@[simp] theorem caches_linkError (r : LinkErrorReason) : cachesIn (s.linkError r).engines = cachesIn s.engines := rfl
@[simp] theorem caches_setTransaction (x : TransactionState) :
    cachesIn (s.setTransaction x).engines = cachesIn s.engines := rfl
@[simp] theorem caches_csFall : cachesIn s.csFall.engines = cachesIn s.engines := by
  unfold State.csFall; dsimp only; split <;> rfl
@[simp] theorem caches_csRise : cachesIn s.csRise.engines = cachesIn s.engines := by
  unfold State.csRise State.endTransaction
  dsimp only
  split
  · split <;> rfl
  · rfl
@[simp] theorem caches_takeForAdmission (m : Message) :
    cachesIn (s.takeForAdmission m).engines = cachesIn s.engines := by
  unfold State.takeForAdmission
  split
  · split <;> rfl
  · rfl
@[simp] theorem caches_offerWord (p : PortId) (w : Word) :
    cachesIn (s.offerWord p i w).engines = cachesIn s.engines := by
  unfold State.offerWord; dsimp only; split <;> simp
@[simp] theorem caches_askWord (p : PortId) : cachesIn (s.askWord p i).engines = cachesIn s.engines := by
  unfold State.askWord
  dsimp only
  split
  · unfold State.underrun
    split <;> simp
  · unfold State.afterWord
    split <;> simp
@[simp] theorem caches_commandsReady : cachesIn s.commandsReady.engines = cachesIn s.engines := by
  unfold State.commandsReady
  split
  · simp
  · split <;> rfl

/-! #### Stream commands -/

@[simp] theorem caches_armSlot (name : SlotName) (d : Descriptor) :
    cachesIn (s.armSlot i name d).engines = cachesIn s.engines := by
  simp only [State.armSlot]
  split_ifs <;> simp
@[simp] theorem caches_pauseStream : cachesIn (s.pauseStream i).engines = cachesIn s.engines := by
  unfold State.pauseStream; split <;> simp
@[simp] theorem caches_replyToStop (c : HostCommand) : cachesIn (s.replyToStop i c).engines = cachesIn s.engines := by
  unfold State.replyToStop; split <;> simp
@[simp] theorem caches_endReplay (r : EndReason) : cachesIn (s.endReplay i r).engines = cachesIn s.engines := by
  unfold State.endReplay; dsimp only; split <;> simp
@[simp] theorem caches_cutCapture : cachesIn (s.cutCapture i).engines = cachesIn s.engines := by
  simp [State.cutCapture]
@[simp] theorem caches_cutReplay : cachesIn (s.cutReplay i).engines = cachesIn s.engines := by
  unfold State.cutReplay; split <;> simp
@[simp] theorem caches_stopStream : cachesIn (s.stopStream i).engines = cachesIn s.engines := by
  unfold State.stopStream
  split
  · unfold State.stopCapture
    split <;> simp
  · unfold State.stopReplay
    split <;> simp
  · simp
@[simp] theorem caches_abortStream : cachesIn (s.abortStream i).engines = cachesIn s.engines := by
  unfold State.abortStream
  split
  · unfold State.abortCapture
    split <;> (try split) <;> simp
  · unfold State.abortReplay
    split <;> (try split) <;> simp
  · simp
@[simp] theorem caches_takeTrigger : cachesIn (s.takeTrigger i).engines = cachesIn s.engines := by
  simp [State.takeTrigger]
@[simp] theorem caches_triggerStream : cachesIn (s.triggerStream i).engines = cachesIn s.engines := by
  unfold State.triggerStream; dsimp only; split <;> simp
@[simp] theorem caches_takeEdge : cachesIn (s.takeEdge i).engines = cachesIn s.engines := by
  unfold State.takeEdge; dsimp only; split <;> simp

end CachesKept
end Sys2Proof.Proofs

namespace Sys2Proof.Proofs

open Sys2Proof.Machine Sys2Proof.Laws

/-! ### The updates of the translation caches keep their law -/

section CachesOk

variable {s t : State}

/-- Every translation cache is under its law. -/
structure CachesRanked (s : State) : Prop where
  ranked : ∀ i, Ranked (s.engine i).cache

theorem cachesOk_iff : s.CachesOk ↔ CachesRanked s :=
  ⟨fun ok => ⟨fun i => cacheOk_iff.mp (ok i)⟩, fun h i => cacheOk_iff.mpr (h.ranked i)⟩

theorem CachesRanked.of_same (ok : CachesRanked s) (same : cachesIn t.engines = cachesIn s.engines) :
    CachesRanked t := by
  refine ⟨fun j => ?_⟩
  have cache : (t.engine j).cache = (s.engine j).cache := by
    rw [State.engine, State.engine, ← cachesIn_get, ← cachesIn_get, same]
  rw [cache]
  exact ok.ranked j

theorem CachesRanked.setEngine (ok : CachesRanked s) (i : StreamId) {e : Engine} (ranked : Ranked e.cache) :
    CachesRanked (s.setEngine i e) := by
  refine ⟨fun j => ?_⟩
  by_cases own : i = j
  · subst own
    rwa [engine_setEngine_self]
  · rw [engine_setEngine_other _ _ _ _ own]
    exact ok.ranked j

theorem CachesRanked.modEngine (ok : CachesRanked s) (i : StreamId) (g : Engine → Engine)
    (ranked : Ranked (g (s.engine i)).cache) : CachesRanked (s.modEngine i g) :=
  ok.setEngine i ranked

theorem CachesRanked.purge (ok : CachesRanked s) (i : StreamId) (first : VPage) (count : Nat) :
    CachesRanked (s.purge i first count) :=
  ok.setEngine i (ranked_cacheDrop (ok.ranked i) ..)

theorem CachesRanked.produceReply (ok : CachesRanked s) (payload : List Byte) : CachesRanked (s.produceReply payload) :=
  ok.of_same (caches_produceReply s payload)

theorem CachesRanked.refuse (ok : CachesRanked s) (status : Status) : CachesRanked (s.refuse status) :=
  ok.produceReply _

/-! #### Frames given and released (R42, R46, R105) -/

theorem CachesRanked.giveFrame (ok : CachesRanked s) (i : StreamId) (v : VPage) (f : FrameId) (access : Access) :
    CachesRanked (s.giveFrame i v f access) := by
  refine ⟨fun j => ?_⟩
  by_cases own : i = j
  · subst own
    rw [giveFrame_engine]
    exact ranked_cacheInstall (ok.ranked i) ..
  · rw [giveFrame_engine_other s i v own]
    exact ok.ranked j

theorem CachesRanked.applyWrite (ok : CachesRanked s) (i : StreamId) (v : VPage) (handed : Bool) (d : WriteDecision) :
    CachesRanked (s.applyWrite i v handed d) := by
  cases d with
  | allocate f => exact (ok.of_same (by simp)).giveFrame ..
  | inPlace f => exact (ok.of_same (by simp)).giveFrame ..
  | reuse f => exact (ok.of_same (by simp)).giveFrame ..
  | detach old f => exact ((ok.purge i v 1).of_same (by simp)).giveFrame ..
  | waitAbsent => exact ok.of_same (by simp [State.applyWrite])
  | setAside => exact ok.of_same (by simp [State.applyWrite])
  | fail => exact ok.of_same (by simp [State.applyWrite])
  | waitPool => exact ok.of_same (by simp [State.applyWrite])

theorem CachesRanked.handOff (ok : CachesRanked s) (ws : List StreamId) (f : FrameId) :
    CachesRanked (s.handOff ws f) := by
  induction ws generalizing s with
  | nil => exact ok.of_same (by simp [State.handOff])
  | cons w ws ih =>
    have left : CachesRanked (s.setWaiters ws) := ok.of_same (by simp)
    unfold State.handOff
    dsimp only
    split
    · exact ih left
    · split
      · exact ih left
      · split
        · exact left.applyWrite ..
        · exact ih (left.applyWrite ..)

theorem CachesRanked.release (ok : CachesRanked s) (f : FrameId) : CachesRanked (s.release f) := by
  unfold State.release
  dsimp only
  split
  · exact (ok.of_same (by simp)).handOff ..
  · exact ok.of_same (by simp)

theorem CachesRanked.releasePages (ok : CachesRanked s) (i : StreamId) (vs : List VPage) :
    CachesRanked (s.releasePages i vs).state := by
  induction vs generalizing s with
  | nil => exact ok
  | cons v vs ih =>
    unfold State.releasePages
    split
    · exact ih ok
    · split
      · exact ih ok
      · exact ih ((ok.of_same (by simp)).release _)

/-! #### Replay pages (R43, R44, R119) -/

theorem CachesRanked.giveReplayPage (ok : CachesRanked s) (i : StreamId) (v : VPage) (entry : MapEntry) :
    CachesRanked (s.giveReplayPage i v entry) :=
  ok.setEngine i (ranked_cacheInstall (ok.ranked i) ..)

theorem CachesRanked.enterReplayPage (ok : CachesRanked s) (i : StreamId) : CachesRanked (s.enterReplayPage i) := by
  unfold State.enterReplayPage
  dsimp only
  split
  · rename_i entry hit
    exact (ok.modEngine i _ (ranked_cacheTouch (ok.ranked i) hit)).of_same (caches_evaluateEntry ..)
  · exact ok.of_same (by simp)

theorem CachesRanked.answerRead (ok : CachesRanked s) (i : StreamId) (v : VPage) : CachesRanked (s.answerRead i v) := by
  unfold State.answerRead
  split
  · rename_i entry _
    exact (ok.giveReplayPage i v entry).of_same (caches_evaluateEntry ..)
  · split <;> exact ok.of_same (by simp)

theorem CachesRanked.continuePageChange (ok : CachesRanked s) (i : StreamId) :
    CachesRanked (s.continuePageChange i) := by
  unfold State.continuePageChange
  split
  · split
    · exact ok.enterReplayPage i
    · exact ok.enterReplayPage i
    · exact ok.of_same (by simp)
    · exact ok
  · exact ok

theorem CachesRanked.requestBurst (ok : CachesRanked s) (i : StreamId) (n : Nat) (isWrite : Bool) :
    CachesRanked (s.requestBurst i n isWrite) := by
  unfold State.requestBurst
  split
  · exact ok
  · rename_i entry found
    obtain ⟨c, _, hit⟩ := Option.bind_eq_some_iff.mp found
    exact (ok.modEngine i (fun e => e.hit entry) (ranked_cacheTouch (ok.ranked i) hit)).of_same rfl

/-! #### Claims -/

theorem CachesRanked.decideRelease (ok : CachesRanked s) (i : StreamId) (v : VPage) :
    CachesRanked (s.decideRelease i v) := by
  have purged := ok.purge i v 1
  unfold State.decideRelease
  dsimp only
  split
  · rename_i entry _
    have absent : CachesRanked ((s.purge i v 1).setEntry i v none) := purged.of_same rfl
    exact (absent.release entry.frame).of_same (caches_afterReplayLeave ..)
  · exact purged.of_same (caches_afterReplayLeave ..)

theorem CachesRanked.takeRelease (ok : CachesRanked s) (i : StreamId) (v : VPage) :
    CachesRanked (s.takeRelease i v) := by
  unfold State.takeRelease
  dsimp only
  split
  · exact ok.of_same (by simp)
  · exact (ok.of_same (by simp)).decideRelease ..

theorem CachesRanked.retry (ok : CachesRanked s) (i : StreamId) (first : VPage) (count : Nat) :
    CachesRanked (s.retry i first count) := by
  unfold State.retry
  split
  · split
    · split
      · exact ok.applyWrite ..
      · exact (ok.giveReplayPage ..).of_same (caches_evaluateEntry ..)
      · exact ok
    · exact ok
  · exact ok

theorem CachesRanked.foldl {α : Type} (f : State → α → State) (keeps : ∀ u a, CachesRanked u → CachesRanked (f u a))
    (l : List α) (ok : CachesRanked s) : CachesRanked (l.foldl f s) := by
  induction l generalizing s with
  | nil => exact ok
  | cons a l ih => exact ih (keeps s a ok)

theorem CachesRanked.decideDeferred (ok : CachesRanked s) (d : DeferredClaim) : CachesRanked (s.decideDeferred d) := by
  unfold State.decideDeferred
  split
  · exact ok.applyWrite ..
  · exact ok.decideRelease ..

theorem CachesRanked.completeWrite (ok : CachesRanked s) (x : Transfer) : CachesRanked (s.completeWrite x) := by
  unfold State.completeWrite State.decideAllDeferred
  dsimp only
  refine (CachesRanked.foldl State.decideDeferred (fun u d hu => hu.decideDeferred d) _ ?_).produceReply _
  exact ok.of_same (by simp)

/-! #### Map commands -/

theorem CachesRanked.mapPage (ok : CachesRanked s) (i : StreamId) (access : Access) (v : VPage)
    (frame : Option FrameId) :
    CachesRanked (s.mapPage i access v frame) := by
  have mapped : ∀ f, CachesRanked (s.mapFrame i access v f) := fun f =>
    ((ok.of_same (by simp)).retry i v 1).produceReply _
  unfold State.mapPage
  split
  · exact ok.refuse _
  · split
    · exact ok.refuse _
    · exact mapped _
  · split
    · exact ok.refuse _
    · exact mapped _

theorem CachesRanked.unmapRange (ok : CachesRanked s) (i : StreamId) (first : VPage) (count : Nat) :
    CachesRanked (s.unmapRange i first count) := by
  unfold State.unmapRange
  split
  · exact ok.refuse _
  · exact ((ok.purge ..).releasePages ..).produceReply _

theorem CachesRanked.releaseMap (ok : CachesRanked s) (i : StreamId) : CachesRanked (s.releaseMap i) := by
  unfold State.releaseMap
  exact ((ok.purge i 0 512).releasePages i (pagesFrom 0 512)).produceReply _

theorem CachesRanked.protectRange (ok : CachesRanked s) (i : StreamId) (access : Access) (first : VPage) (count : Nat) :
    CachesRanked (s.protectRange i access first count) := by
  unfold State.protectRange
  split
  · exact ok.refuse _
  · split
    · exact ok.refuse _
    · have set := CachesRanked.foldl (fun u v => u.setAccess i access v) (fun u v hu => hu.of_same rfl)
        (pagesFrom first count) (ok.purge i first count)
      exact set.produceReply _

theorem CachesRanked.sharePage (ok : CachesRanked s) (i j : StreamId) (access : Access) (pages : VPage × VPage) :
    CachesRanked (s.sharePage i j access pages) := by
  unfold State.sharePage
  split
  · exact ok
  · exact ok.of_same (by simp)

theorem CachesRanked.shareRange (ok : CachesRanked s) (i j : StreamId) (access : Access) (first second : VPage)
    (count : Nat) : CachesRanked (s.shareRange i j access first second count) := by
  unfold State.shareRange
  dsimp only
  split_ifs
  · exact ok.refuse _
  · exact ok.refuse _
  · exact ok.refuse _
  · exact ok.refuse _
  · have made := CachesRanked.foldl (fun u pages => u.sharePage i j access pages)
      (fun u pages hu => hu.sharePage i j access pages) ((pagesFrom first count).zip (pagesFrom second count)) ok
    exact (made.retry j second count).produceReply _

/-! #### Stream commands -/

theorem CachesRanked.openPort (ok : CachesRanked s) (i : StreamId) (direction : Direction) (p : PortId)
    (fault : FaultPolicy) (policy : ReleasePolicy) : CachesRanked (s.openPort i direction p fault policy) := by
  have bound : CachesRanked (s.setPort p (.boundTo i direction)) := ok.of_same rfl
  unfold State.openPort
  split_ifs
  · exact ok.refuse _
  · exact ok.refuse _
  · exact ok.refuse _
  · exact (bound.setEngine i ranked_emptyCache).produceReply _

theorem CachesRanked.closeStream (ok : CachesRanked s) (i : StreamId) (release : Bool) :
    CachesRanked (s.closeStream i release) := by
  have closed : CachesRanked (s.closeEngine i) :=
    (ok.of_same (by simp)).setEngine i ranked_emptyCache
  unfold State.closeStream
  split
  · dsimp only
    split
    · exact closed.of_same rfl
    · exact closed.produceReply _
  · exact ok.refuse _

theorem CachesRanked.enterPage (ok : CachesRanked s) (i : StreamId) : CachesRanked (s.enterPage i) := by
  unfold State.enterPage
  split
  · exact ok.of_same rfl
  · exact ok.enterReplayPage i
  · exact ok

theorem CachesRanked.startSlot (ok : CachesRanked s) (i : StreamId) (name : SlotName) :
    CachesRanked (s.startSlot i name) := by
  unfold State.startSlot
  dsimp only
  split_ifs
  · exact ok.refuse _
  · exact ok.refuse _
  · have begun : CachesRanked (s.setEngine i
        { (s.engine i).activate name with
          state := .running, faultRecord := none, endReason := none, lookFill := none, due := .none }) :=
      ok.setEngine i (ok.ranked i)
    have opened := begun.of_same (t := State.setGate _ i true) (by rw [setGate_engines])
    exact (opened.enterPage i).produceReply _

theorem CachesRanked.resumeStream (ok : CachesRanked s) (i : StreamId) : CachesRanked (s.resumeStream i) := by
  unfold State.resumeStream State.resumeReplay
  dsimp only
  split_ifs
  · have opened : CachesRanked ((s.setGate i true).modEngine i fun e => { e with state := .running }) :=
      ok.of_same (by simp)
    refine CachesRanked.produceReply ?_ _
    split
    · exact opened.of_same (by simp)
    · exact opened.enterReplayPage i
  · exact ok.of_same (by simp)
  · exact ok.refuse _

/-! #### RESTART and resets (R40, R166, R168) -/

theorem CachesRanked.answerRestart (ok : CachesRanked s) (i : StreamId) : CachesRanked (s.answerRestart i) :=
  (ok.of_same (by simp)).setEngine i ranked_emptyCache

theorem CachesRanked.stopEngine (ok : CachesRanked s) (i : StreamId) : CachesRanked (s.stopEngine i) := by
  unfold State.stopEngine
  dsimp only
  split_ifs
  · exact ok.of_same (by simp)
  · exact ok.of_same (by simp)
  · exact (ok.of_same (by simp)).answerRestart i

theorem CachesRanked.completeCapture (ok : CachesRanked s) (i : StreamId) (b : Burst) :
    CachesRanked (s.completeCapture i b) := by
  have landed : CachesRanked (s.landCapture i b) := ok.of_same (by simp [State.landCapture, State.storeWrite])
  unfold State.completeCapture
  dsimp only
  split
  · exact landed.answerRestart i
  · exact landed.of_same (by simp)

theorem CachesRanked.completeReplay (ok : CachesRanked s) (i : StreamId) (b : Burst) :
    CachesRanked (s.completeReplay i b) := by
  have landed : CachesRanked (s.endBurst.modEngine i fun e => e.advanced b.length) := ok.of_same (by simp)
  unfold State.completeReplay
  dsimp only
  split
  · exact landed.answerRestart i
  · exact landed.of_same (by simp)

theorem CachesRanked.of_reset (engines : t.engines = Vector.replicate 8 Engine.reset) : CachesRanked t := by
  refine ⟨fun j => ?_⟩
  have reset : t.engine j = Engine.reset := by simp [State.engine, engines]
  rw [reset]
  exact ranked_emptyCache

theorem CachesRanked.restart (s : State) (scope : RestartScope) (n : Nat) : CachesRanked (s.restart scope n) := by
  have cleared : ∀ u : State, CachesRanked u.clearStreams := fun u => CachesRanked.of_reset rfl
  cases scope with
  | streams => exact (cleared s.restartMapUnit).of_same (caches_produceReply ..)
  | all => exact (cleared s.restartMapUnit.clearMaps).of_same rfl

end CachesOk

/-! ### Every step keeps the law of the caches -/

section CachesEveryStep

variable {s t : State} {i : StreamId} {occasion : Bool} {effect : State → State}

theorem ranked_takeStep (ok : CachesRanked s) (h : takeStep occasion s effect = .next t)
    (keeps : ∀ u, CachesRanked u → CachesRanked (effect u)) : CachesRanked t := by
  rcases takeStep_next h with rfl | ⟨_, rfl⟩
  · exact ok
  · exact keeps s ok

theorem ranked_takeStep_same (ok : CachesRanked s) (h : takeStep occasion s effect = .next t)
    (same : ∀ u, cachesIn (effect u).engines = cachesIn u.engines) : CachesRanked t :=
  ranked_takeStep ok h fun u hu => hu.of_same (same u)

theorem ranked_takeHostClaim {command : HostCommand} (ok : CachesRanked s)
    (h : takeHostClaim command s effect = .next t) (keeps : ∀ u, CachesRanked u → CachesRanked (effect u)) :
    CachesRanked t :=
  ranked_takeStep ok h fun _ hu => keeps _ (hu.of_same rfl)

theorem ranked_takeEngineClaim {work : EngineClaim → State → Option State} (ok : CachesRanked s)
    (h : takeEngineClaim i s work = .next t) (keeps : ∀ c u u', work c u = some u' → CachesRanked u → CachesRanked u') :
    CachesRanked t := by
  rcases takeEngineClaim_next_cases h with rfl | ⟨c, _, answer⟩
  · exact ok
  · exact keeps c _ _ answer (ok.of_same rfl)

theorem ranked_readClaim (ok : CachesRanked s) (h : execReadClaim i s = .next t) : CachesRanked t := by
  have taken : CachesRanked s.dropOldestClaim := ok.of_same rfl
  unfold execReadClaim at h
  split at h
  case h_1 => cases h; exact taken.answerRead ..
  all_goals cases h; exact ok.continuePageChange i

theorem ranked_closeStream {release : Bool} (ok : CachesRanked s) (h : execCloseStream i release s = .next t) :
    CachesRanked t := by
  have taken : CachesRanked s.dropOldestClaim := ok.of_same rfl
  unfold execCloseStream at h
  split at h
  · exact Host.Outcome.next.inj h ▸ taken.releaseMap i
  · exact ranked_takeStep ok h fun _ hu => hu.closeStream ..

/-- No row of the table breaks the law of the caches. -/
theorem ranked_exec (row : Instr) (ok : CachesRanked s) (h : exec row s = .next t) : CachesRanked t := by
  cases row with
  -- The claims of the command unit that install or purge.
  | map =>
    simp only [exec, execMap] at h
    exact ranked_takeHostClaim ok h fun _ hu => hu.mapPage ..
  | unmap =>
    simp only [exec, execUnmap] at h
    exact ranked_takeHostClaim ok h fun _ hu => hu.unmapRange ..
  | protect =>
    simp only [exec, execProtect] at h
    exact ranked_takeHostClaim ok h fun _ hu => hu.protectRange ..
  | share =>
    simp only [exec, execShare] at h
    exact ranked_takeHostClaim ok h fun _ hu => hu.shareRange ..
  | closeStream => exact ranked_closeStream ok h
  | writeDataCompletion =>
    simp only [exec, execWriteDataCompletion] at h
    refine ranked_takeStep ok h fun u hu => ?_
    have taken : CachesRanked u.dropOldestClaim := hu.of_same rfl
    split
    · exact taken.completeWrite _
    · exact hu
  -- The claims of the stream engines that install or purge.
  | writeClaim =>
    simp only [exec, execWriteClaim] at h
    refine ranked_takeEngineClaim ok h fun c _ _ answer hu => ?_
    cases c <;> cases answer
    exact hu.applyWrite ..
  | releaseClaim =>
    simp only [exec, execReleaseClaim] at h
    refine ranked_takeEngineClaim ok h fun c _ _ answer hu => ?_
    cases c <;> cases answer
    exact hu.takeRelease ..
  | readClaim => exact ranked_readClaim ok h
  -- The lookups of stream commands and of burst requests.
  | start =>
    simp only [exec, execStart] at h
    exact ranked_takeStep ok h fun _ hu => hu.startSlot ..
  | resume =>
    simp only [exec, execResume] at h
    exact ranked_takeStep ok h fun _ hu => hu.resumeStream _
  | captureBurstRequest | replayBurstRequest =>
    simp only [exec, execCaptureBurstRequest, execReplayBurstRequest] at h
    exact ranked_takeStep ok h fun _ hu => hu.requestBurst ..
  -- The steps that empty a cache, or all of them.
  | openStream =>
    simp only [exec, execOpenStream] at h
    exact ranked_takeStep ok h fun _ hu => hu.openPort ..
  | engineRestart =>
    simp only [exec, execEngineRestart] at h
    exact ranked_takeStep ok h fun _ hu => hu.stopEngine _
  | captureBurstComplete =>
    simp only [exec, execCaptureBurstComplete] at h
    refine ranked_takeStep ok h fun u hu => ?_
    split
    · exact hu.completeCapture ..
    · exact hu
  | replayBurstComplete =>
    simp only [exec, execReplayBurstComplete] at h
    refine ranked_takeStep ok h fun u hu => ?_
    split
    · exact hu.completeReplay ..
    · exact hu
  | restartClaim =>
    cases h
    split
    · exact CachesRanked.restart ..
    · exact ok
  | powerOn | pinReset => cases h; exact CachesRanked.of_reset rfl
  -- The claims that leave the caches.
  | queryMap | queryFrame | poolStatus | readData | writeData | sealPage | setPoolMark =>
    simp only [exec, execQueryMap, execQueryFrame, execPoolStatus, execReadData, execWriteData, execSealPage,
      execSetPoolMark] at h
    exact ranked_takeHostClaim ok h fun _ hu => hu.of_same (by simp)
  | endingSealClaim | leaveSealClaim | fillReport =>
    simp only [exec, execEndingSealClaim, execLeaveSealClaim, execFillReport] at h
    refine ranked_takeEngineClaim ok h fun c _ _ answer hu => hu.of_same ?_
    cases c <;> cases answer
    simp
  -- The steps whose effect is split by what they find, and that leave the caches.
  | arbiterGrant | hostBurstComplete | inboundMessage =>
    simp only [exec, execArbiterGrant, execHostBurstComplete, execInboundMessage] at h
    exact ranked_takeStep_same ok h fun u => by split <;> simp
  | captureStrobe | replayStrobe =>
    cases h
    refine ok.of_same ?_
    split
    · split <;> simp
    · rfl
  | poolInitAppend =>
    cases h
    refine ok.of_same ?_
    split
    · split <;> rfl
    · rfl
  -- Every other step leaves the caches.
  | hello | restartStreams | restartAll | arm | pause | stop | abort | trigger | queryStream | commandTake | csNFall
  | badStart | oversize | readSelect | sendComplete | csNRise | triggerEdge | pendingEdgeTaken | waitDataSignal
  | resetEnd | poolInitComplete | writeTransactionStart =>
    simp only [exec, execHello, execRestartStreams, execRestartAll, execArm, execPause, execStop, execAbort,
      execTrigger, execQueryStream, execCommandTake, execCsNFall, execBadStart, execOversize, execReadSelect,
      execSendComplete, execCsNRise, execTriggerEdge, execPendingEdgeTaken, execWaitDataSignal, execResetEnd,
      execPoolInitComplete, execWriteTransactionStart] at h
    exact ranked_takeStep_same ok h fun u => by simp [State.startUp, State.completeInit]

end CachesEveryStep

/-- Settles O9: every row keeps the law of the caches, which reads nothing of the queue of offered steps. -/
theorem cachesStayRanked : Obligations.CachesStayRanked := by
  intro s t ok h
  unfold step at h
  split at h
  · cases h
    exact ok
  · rename_i row rest _
    have offered : CachesRanked { s with pending := rest } := (cachesOk_iff.mp ok).of_same rfl
    exact cachesOk_iff.mpr (ranked_exec row offered h)

end Sys2Proof.Proofs

namespace Sys2Proof.Proofs

open Sys2Proof.Machine Sys2Proof.Laws

/-! ### Burst requests (R43, R64, R93, R94, R112, R130) -/

section BurstRequests

variable {s : State} {i : StreamId} {p : PortId} {c : CurrentPage} {entry : CacheEntry}

theorem requesterIdle_iff {r : Requester} :
    s.requesterIdle r = true ↔ s.arbiter.requests[r] = none ∧ s.burstInFlight r = false := by
  simp [State.requesterIdle]

/-- R43: the lookup of a burst request finds the current page. -/
theorem requestBurst_found (current : (s.engine i).currentPage = some c)
    (found : cacheLookup (s.engine i).cache c.vpage = some entry) (length : Nat) (isWrite : Bool) :
    s.requestBurst i length isWrite =
      (s.setEngine i ((s.engine i).hit entry)).request (requesterOf i)
        { frame := entry.frame, offset := (s.engine i).position.offset, length := length, isWrite := isWrite } := by
  have lookup : s.burstLookup i = some entry := by simp [State.burstLookup, current, found]
  simp only [State.requestBurst, lookup, State.modEngine]

/-- Without a current page there is nothing to look up. -/
theorem requestBurst_without_page (current : (s.engine i).currentPage = none) (length : Nat) (isWrite : Bool) :
    s.requestBurst i length isWrite = s := by
  simp [State.requestBurst, State.burstLookup, current]

/-- R64, R93: what makes a capture stream ask for a burst. -/
theorem captureWants_iff (port : (s.engine i).port = some p) (capture : (s.engine i).direction = some .capture) :
    s.captureWants i = true ↔
      (s.engine i).position.offset < 4096 ∧
        ((s.engine i).state = .running ∧ 32 ≤ (s.port p).fifo.length ∨
          (s.engine i).state = .stopping ∧ (s.engine i).endReason = some .stopped ∧ 0 < (s.port p).fifo.length) := by
  simp only [State.captureWants, capture, fifoOf_bound port]
  cases (s.engine i).state <;> simp [List.length_pos_iff]

/-- R112: what makes a replay stream ask for a burst. -/
theorem replayWants_iff (port : (s.engine i).port = some p) (replay : (s.engine i).direction = some .replay) :
    s.replayWants i = true ↔
      (s.engine i).state = .running ∧ (s.port p).fifo.length ≤ 224 ∧
        ∃ fill, (s.engine i).lookFill = some fill ∧ (s.engine i).position.offset < fill := by
  have look : 0 < (s.engine i).bytesToRead ↔
      ∃ fill, (s.engine i).lookFill = some fill ∧ (s.engine i).position.offset < fill := by
    unfold Engine.bytesToRead
    split <;> rename_i found <;> simp [found]
  simp only [State.replayWants, replay, fifoOf_bound port, ← look, Bool.and_eq_true, decide_eq_true_eq, beq_iff_eq]
  tauto

/-- R93: a capture request with its conditions met. -/
theorem exec_captureBurstRequest_asks (live : s.engineLive i = true) (idle : s.requesterIdle (requesterOf i) = true)
    (wants : s.captureWants i = true) :
    exec (.captureBurstRequest i) s = .next
      (s.requestBurst i (captureLength (s.fifoOf i).length (s.engine i).position.offset) true) := by
  show execCaptureBurstRequest i s = _
  rw [execCaptureBurstRequest, takeStep_due (by rw [live, idle, wants]; rfl)]

/-- R112: a replay request with its conditions met. -/
theorem exec_replayBurstRequest_asks (live : s.engineLive i = true) (idle : s.requesterIdle (requesterOf i) = true)
    (wants : s.replayWants i = true) :
    exec (.replayBurstRequest i) s = .next (s.requestBurst i (s.engine i).bytesToRead false) := by
  show execReplayBurstRequest i s = _
  rw [execReplayBurstRequest, takeStep_due (by rw [live, idle, wants]; rfl)]

theorem exec_captureBurstRequest_off (off : s.requesterIdle (requesterOf i) = false ∨ s.captureWants i = false) :
    exec (.captureBurstRequest i) s = .next s := by
  show execCaptureBurstRequest i s = _
  rw [execCaptureBurstRequest, takeStep_not_due (by rcases off with off | off <;> simp [off])]

theorem exec_replayBurstRequest_off (off : s.requesterIdle (requesterOf i) = false ∨ s.replayWants i = false) :
    exec (.replayBurstRequest i) s = .next s := by
  show execReplayBurstRequest i s = _
  rw [execReplayBurstRequest, takeStep_not_due (by rcases off with off | off <;> simp [off])]

/-- Without a current page neither direction's request does anything. -/
theorem exec_burstRequest_without_page (current : (s.engine i).currentPage = none) :
    exec (.captureBurstRequest i) s = .next s ∧ exec (.replayBurstRequest i) s = .next s := by
  have nothing : ∀ (occasion : Bool) (length : State → Nat) isWrite,
      takeStep occasion s (fun s => s.requestBurst i (length s) isWrite) = .next s := fun occasion length isWrite => by
    rw [takeStep, requestBurst_without_page current, ite_self]
  exact ⟨nothing _ (fun s => captureLength (s.fifoOf i).length (s.engine i).position.offset) true,
    nothing _ (fun s => (s.engine i).bytesToRead) false⟩

/-- R93, R94: the requests of a capture stream. -/
theorem captureBurstRequests (live : s.engineLive i = true) (idle : s.requesterIdle (requesterOf i) = true)
    (port : (s.engine i).port = some p) (current : (s.engine i).currentPage = some c)
    (found : cacheLookup (s.engine i).cache c.vpage = some entry) (capture : (s.engine i).direction = some .capture) :
    let offset := (s.engine i).position.offset
    let words := (s.port p).fifo.length
    (offset < 4096 →
      (s.engine i).state = .running ∧ 32 ≤ words ∨
        (s.engine i).state = .stopping ∧ (s.engine i).endReason = some .stopped ∧ 0 < words →
      exec (.captureBurstRequest i) s = .next
        ((s.setEngine i ((s.engine i).hit entry)).request (requesterOf i)
          { frame := entry.frame, offset := offset, length := 2 * min (min 32 words) ((4096 - offset) / 2)
            isWrite := true })) ∧
    (4096 ≤ offset ∨ (s.engine i).state = .running ∧ words < 32 ∨ (s.engine i).state ∉ [.running, .stopping] ∨
        (s.engine i).state = .stopping ∧ ((s.engine i).endReason ≠ some .stopped ∨ words = 0) →
      exec (.captureBurstRequest i) s = .next s) := by
  have wants := captureWants_iff port capture
  refine ⟨fun inside due => ?_, fun shut => ?_⟩
  · rw [exec_captureBurstRequest_asks live idle (wants.mpr ⟨inside, due⟩), requestBurst_found current found,
      fifoOf_bound port]
    rfl
  · refine exec_captureBurstRequest_off (.inr (Bool.eq_false_iff.mpr fun due => ?_))
    obtain ⟨inside, ⟨running, enough⟩ | ⟨stopping, ended, left⟩⟩ := wants.mp due
    · simp only [running, List.mem_cons, true_or, not_true, reduceCtorEq, false_and, true_and, or_false] at shut
      omega
    · simp only [stopping, ended, List.mem_cons, true_or, or_true, not_true, ne_eq, reduceCtorEq, false_and, true_and,
        false_or] at shut
      omega

/-- R112, R113: the requests of a replay stream. -/
theorem replayBurstRequests (live : s.engineLive i = true) (idle : s.requesterIdle (requesterOf i) = true)
    (port : (s.engine i).port = some p) (current : (s.engine i).currentPage = some c)
    (found : cacheLookup (s.engine i).cache c.vpage = some entry) (replay : (s.engine i).direction = some .replay) :
    let offset := (s.engine i).position.offset
    let words := (s.port p).fifo.length
    (∀ fill, (s.engine i).state = .running → (s.engine i).lookFill = some fill → offset < fill → words ≤ 224 →
      exec (.replayBurstRequest i) s = .next
        ((s.setEngine i ((s.engine i).hit entry)).request (requesterOf i)
          { frame := entry.frame, offset := offset, length := min 64 (fill - offset), isWrite := false })) ∧
    ((s.engine i).state ≠ .running ∨ 224 < words ∨ (s.engine i).lookFill = none ∨
        (∃ fill, (s.engine i).lookFill = some fill ∧ fill ≤ offset) →
      exec (.replayBurstRequest i) s = .next s) := by
  have wants := replayWants_iff port replay
  refine ⟨fun fill running look below room => ?_, fun shut => ?_⟩
  · have length : (s.engine i).bytesToRead = min 64 (fill - (s.engine i).position.offset) := by
      simp [Engine.bytesToRead, look]
    rw [exec_replayBurstRequest_asks live idle (wants.mpr ⟨running, room, fill, look, below⟩),
      requestBurst_found current found, length]
  · refine exec_replayBurstRequest_off (.inr (Bool.eq_false_iff.mpr fun due => ?_))
    obtain ⟨running, room, fill, look, below⟩ := wants.mp due
    simp only [running, look, ne_eq, not_true, reduceCtorEq, Option.some.injEq, exists_eq_left', false_or] at shut
    omega

/-- Settles O49: the conditions of each direction, and what shuts a request out in both. -/
theorem burstRequestsNameTheFrameLookedUp : Obligations.BurstRequestsNameTheFrameLookedUp := by
  constructor
  · intro s i p c entry out restart unasked landed port current found looked offset words
    have live : s.engineLive i = true := by simp [State.engineLive, out, Engine.isLive, restart]
    have idle : s.requesterIdle (requesterOf i) = true := requesterIdle_iff.mpr ⟨unasked, landed⟩
    exact ⟨captureBurstRequests live idle port current found, replayBurstRequests live idle port current found⟩
  · intro s i
    refine ⟨fun other => ?_, fun other => ?_, fun shut => ?_⟩
    · exact exec_captureBurstRequest_off (.inr (by simp [State.captureWants, other]))
    · exact exec_replayBurstRequest_off (.inr (by simp [State.replayWants, other]))
    · rcases shut with waits | flies | pageless
      · have busy : s.requesterIdle (requesterOf i) = false :=
          Bool.eq_false_iff.mpr fun idle => waits (requesterIdle_iff.mp idle).1
        exact ⟨exec_captureBurstRequest_off (.inl busy), exec_replayBurstRequest_off (.inl busy)⟩
      · have busy : s.requesterIdle (requesterOf i) = false := by simp [State.requesterIdle, flies]
        exact ⟨exec_captureBurstRequest_off (.inl busy), exec_replayBurstRequest_off (.inl busy)⟩
      · exact exec_burstRequest_without_page pageless

end BurstRequests

end Sys2Proof.Proofs

namespace Sys2Proof.Proofs

open Sys2Proof.Machine Sys2Proof.Laws

/-! ### A replay page entered by a lookup that hits (R44, R115) -/

section Lookups

variable {s t : State} {i : StreamId} {e : Engine} {entry : CacheEntry} {m : Message} {rest : List Message}

/-- The engine after a lookup that hits: the hit counted, the entry at rank 0, its page current. -/
def lookedUp (e : Engine) (entry : CacheEntry) : Engine :=
  { e with
    cache := cacheTouch e.cache entry.rank, currentPage := some ⟨e.position.vpage, entry.frame⟩
    counters := { e.counters with cacheHits := e.counters.cacheHits + 1 } }

/-- With data in the frame the stream goes on. -/
theorem enterReplayPage_below (hit : cacheLookup e.cache e.position.vpage = some entry) (start : e.position.offset = 0)
    (filled : 0 < (s.frame entry.frame).fill) :
    (s.setEngine i e).enterReplayPage i =
      s.setEngine i
        { lookedUp e entry with state := .running, lookFill := some (s.frame entry.frame).fill, due := .none } := by
  rw [enterReplayPage_hit hit, evaluateEntry_current rfl, if_pos (start ▸ filled)]
  rfl

/-- At fill 0 of a sealed frame the page is to be left (log entry 8). -/
theorem enterReplayPage_sealed (hit : cacheLookup e.cache e.position.vpage = some entry)
    (empty : (s.frame entry.frame).fill = 0) (closed : (s.frame entry.frame).isSealed = true) :
    (s.setEngine i e).enterReplayPage i =
      s.setEngine i { lookedUp e entry with state := .running, lookFill := none, due := .leave } := by
  rw [enterReplayPage_hit hit, evaluateEntry_current rfl, if_neg (by simp [empty]), if_pos closed]
  rfl

/-- At fill 0 of an unsealed frame the stream waits. -/
theorem enterReplayPage_open (hit : cacheLookup e.cache e.position.vpage = some entry)
    (empty : (s.frame entry.frame).fill = 0) (opened : (s.frame entry.frame).isSealed = false) :
    (s.setEngine i e).enterReplayPage i =
      s.setEngine i { lookedUp e entry with state := .waitData, lookFill := none, due := .none } := by
  rw [enterReplayPage_hit hit, evaluateEntry_current rfl, if_neg (by simp [empty]), if_neg (by simp [opened])]
  rfl

/-- R149: work of the engines and the map unit leaves the command to be answered. -/
theorem replyOk_after (inner : Inner s t) (queue : s.command.queue = m :: rest) :
    t.replyOk = t.answered m rest [0x00] :=
  produceReply_answered (inner.command ▸ queue) _

end Lookups

/-! ### START (R59, R60, R77) -/

section Start

variable {s t : State} {i : StreamId} {e : Engine} {m : Message} {rest : List Message} {slot : SlotName}
  {d : Descriptor} {p : PortId}

/-- An engine whose activation begins at the first page of its slot (R77). -/
def begun (e : Engine) (slot : SlotName) (d : Descriptor) : Engine :=
  { e with
    state := .running, activeSlot := some slot, position := ⟨d.first, 0⟩, pagesToGo := none, triggerRecord := none
    faultRecord := none, endReason := none, activationPages := 0, lookFill := none, due := .none }

theorem exec_start (h : s.AtEngine i (.start i slot) m rest) :
    exec (.start i slot) s = .next (s.startSlot i slot) :=
  takeStep_due (commandDue_at h) fun s => s.startSlot i slot

theorem exec_start_refused (h : s.AtEngine i (.start i slot) m rest)
    (unfit : (s.engine i).state ∉ [.ready, .done] ∨ (s.engine i).slot slot = none) :
    exec (.start i slot) s = .next (s.answered m rest [0x05]) := by
  rw [exec_start h, State.startSlot]
  dsimp only
  have refused := refuse_answered h.queue .badState
  split
  · rw [refused]; rfl
  · rename_i rests
    rw [if_pos, refused]
    · rfl
    · rcases unfit with busy | empty
      · simp only [List.mem_cons, List.not_mem_nil, or_false, not_or] at busy
        exact absurd busy rests
      · simp [empty]

/-- R59, R77: the activation begins with the gate open, and the first page is entered. -/
theorem exec_start_enters (h : s.AtEngine i (.start i slot) m rest) (rests : (s.engine i).state ∈ [.ready, .done])
    (armed : (s.engine i).slot slot = some d) (port : (s.engine i).port = some p)
    (enters : ((s.setPort p { s.port p with gateOpen := true }).setEngine i
      (begun (s.engine i) slot d)).enterPage i = t) :
    exec (.start i slot) s = .next (t.answered m rest [0x00]) := by
  have ready : ¬ ((s.engine i).state ≠ .ready ∧ (s.engine i).state ≠ .done) := by
    rintro ⟨unready, undone⟩
    simp [unready, undone] at rests
  have begins : { (s.engine i).activate slot with
      state := .running, faultRecord := none, endReason := none, lookFill := none, due := .none } =
        begun (s.engine i) slot d := by
    simp [Engine.activate, begun, armed]
  have bound : ((s.setEngine i (begun (s.engine i) slot d)).engine i).port = some p := by
    rw [engine_setEngine_self]
    exact port
  rw [exec_start h, State.startSlot]
  dsimp only
  rw [if_neg ready, if_neg (by simp [armed]), begins, setGate_bound bound, setPort_setEngine, port_setEngine,
    replyOk_after (inner_enterPage ..) (by exact h.queue), enters]

theorem enterPage_capture (capture : e.direction = some .capture) :
    (s.setEngine i e).enterPage i = (s.setEngine i e).sendClaim (.engine i (.write e.position.vpage)) := by
  simp only [State.enterPage, engine_setEngine_self, capture, State.sendWrite]

theorem enterPage_replay (replay : e.direction = some .replay) :
    (s.setEngine i e).enterPage i = (s.setEngine i e).enterReplayPage i := by
  simp only [State.enterPage, engine_setEngine_self, replay]

/-- Settles O37, by the direction of the stream and by what the lookup of the first page finds. -/
theorem startEntersTheFirstPage : Obligations.StartEntersTheFirstPage := by
  intro s m rest i slot h
  refine ⟨exec_start_refused h, fun d p rests armed port => ?_⟩
  intro activated opened
  have enters : ∀ t, (opened.setEngine i activated).enterPage i = t →
      exec (.start i slot) s = .next (t.answered m rest [0x00]) := fun t => exec_start_enters h rests armed port
  refine ⟨fun capture => ?_, fun replay miss => ?_, fun entry replay hit => ?_⟩
  · exact enters _ (enterPage_capture (e := activated) capture)
  · exact enters _ ((enterPage_replay (e := activated) replay).trans (enterReplayPage_miss miss))
  · have looks : ∀ t, (opened.setEngine i activated).enterReplayPage i = t →
        exec (.start i slot) s = .next (t.answered m rest [0x00]) := fun t looked =>
      enters t ((enterPage_replay (e := activated) replay).trans looked)
    exact ⟨fun filled => looks _ (enterReplayPage_below hit rfl filled),
      fun empty closed => looks _ (enterReplayPage_sealed hit empty closed),
      fun empty unsealed => looks _ (enterReplayPage_open hit empty unsealed)⟩

end Start

end Sys2Proof.Proofs

namespace Sys2Proof.Proofs

open Sys2Proof.Machine Sys2Proof.Laws

/-! ### PAUSE (R61, R130) -/

section Pause

variable {s : State} {i : StreamId} {m : Message} {rest : List Message} {p : PortId}

theorem exec_pause (h : s.AtEngine i (.pause i) m rest) : exec (.pause i) s = .next (s.pauseStream i) :=
  takeStep_due (commandDue_at h) fun s => s.pauseStream i

theorem exec_pause_refused (h : s.AtEngine i (.pause i) m rest) (still : (s.engine i).state ∉ [.running, .waitData]) :
    exec (.pause i) s = .next (s.answered m rest [0x05]) := by
  rw [exec_pause h, State.pauseStream, if_neg (by simpa using still), refuse_answered h.queue]
  rfl

theorem exec_pause_holds (h : s.AtEngine i (.pause i) m rest) (moves : (s.engine i).state ∈ [.running, .waitData])
    (port : (s.engine i).port = some p) :
    exec (.pause i) s = .next
      ((((s.setPort p { s.port p with gateOpen := false }).withdrawRequest i).setEngine i
        { s.engine i with state := .paused, lookFill := none, due := .none }).answered m rest [0x00]) := by
  rw [exec_pause h, State.pauseStream, if_pos (by simpa using moves), setGate_bound port]
  refine congrArg _ (produceReply_answered ?_ _)
  exact h.queue

end Pause

/-! ### RESUME (R62, R115, R117, R120) -/

section Resume

variable {s t : State} {i : StreamId} {m : Message} {rest : List Message} {p : PortId}

theorem exec_resume (h : s.AtEngine i (.resume i) m rest) : exec (.resume i) s = .next (s.resumeStream i) :=
  takeStep_due (commandDue_at h) fun s => s.resumeStream i

theorem exec_resume_refused (h : s.AtEngine i (.resume i) m rest) (unpaused : (s.engine i).state ≠ .paused) :
    exec (.resume i) s = .next (s.answered m rest [0x05]) := by
  rw [exec_resume h, State.resumeStream, if_neg unpaused, refuse_answered h.queue]
  rfl

/-- A stream that has taken RESUME: its gate open, and its engine in RUNNING. -/
def resumed (s : State) (i : StreamId) (p : PortId) : State :=
  (s.setPort p { s.port p with gateOpen := true }).setEngine i { s.engine i with state := .running }

theorem resumeStream_paused (paused : (s.engine i).state = .paused) (port : (s.engine i).port = some p) :
    s.resumeStream i =
      (if (s.engine i).direction = some .replay then (resumed s i p).resumeReplay i else resumed s i p).replyOk := by
  have runs : (s.setPort p { s.port p with gateOpen := true }).modEngine i (fun e => { e with state := .running }) =
      resumed s i p := rfl
  have direction : ((resumed s i p).engine i).direction = (s.engine i).direction := by
    rw [resumed, engine_setEngine_self]
  rw [State.resumeStream, if_pos paused, setGate_bound port]
  dsimp only
  rw [runs, direction]

theorem exec_resume_capture (h : s.AtEngine i (.resume i) m rest) (paused : (s.engine i).state = .paused)
    (port : (s.engine i).port = some p) (capture : (s.engine i).direction = some .capture) :
    exec (.resume i) s = .next ((resumed s i p).answered m rest [0x00]) := by
  rw [exec_resume h, resumeStream_paused paused port, if_neg (by simp [capture])]
  exact congrArg _ (produceReply_answered (s := resumed s i p) h.queue _)

/-- R62: a replay stream with a current page evaluates it. -/
theorem exec_resume_evaluates {c : CurrentPage} (h : s.AtEngine i (.resume i) m rest)
    (paused : (s.engine i).state = .paused) (port : (s.engine i).port = some p)
    (replay : (s.engine i).direction = some .replay) (current : (s.engine i).currentPage = some c)
    (evaluates : (resumed s i p).evaluatePage i = t) : exec (.resume i) s = .next (t.answered m rest [0x00]) := by
  have goesOn : (resumed s i p).resumeReplay i = (resumed s i p).evaluatePage i := by
    simp only [State.resumeReplay, resumed, engine_setEngine_self, current]
  rw [exec_resume h, resumeStream_paused paused port, if_pos replay, goesOn,
    replyOk_after (inner_evaluatePage ..) (by exact h.queue), evaluates]

/-- R62, R120: a replay stream without a current page enters the page of its position. -/
theorem exec_resume_looks (h : s.AtEngine i (.resume i) m rest) (paused : (s.engine i).state = .paused)
    (port : (s.engine i).port = some p) (replay : (s.engine i).direction = some .replay)
    (pageless : (s.engine i).currentPage = none) (looks : (resumed s i p).enterReplayPage i = t) :
    exec (.resume i) s = .next (t.answered m rest [0x00]) := by
  have goesOn : (resumed s i p).resumeReplay i = (resumed s i p).enterReplayPage i := by
    simp only [State.resumeReplay, resumed, engine_setEngine_self, pageless]
  rw [exec_resume h, resumeStream_paused paused port, if_pos replay, goesOn,
    replyOk_after (inner_enterReplayPage ..) (by exact h.queue), looks]

/-- Settles O38: PAUSE; RESUME with a current page, by what its fill look finds; and RESUME without one, by what the
lookup of the page of the position finds. -/
theorem pauseHoldsAndResumeGoesOn : Obligations.PauseHoldsAndResumeGoesOn := by
  refine ⟨fun s m rest i p h => ⟨exec_pause_refused h, exec_pause_holds h⟩,
    fun s m rest i p h => ⟨exec_resume_refused h, fun paused port => ?_⟩,
    fun s m rest i p h paused port replay pageless => ?_⟩
  · intro opened
    refine ⟨exec_resume_capture h paused port, fun c replay current => ?_⟩
    have evaluates : ∀ t, (resumed s i p).evaluatePage i = t → exec (.resume i) s = .next (t.answered m rest [0x00]) :=
      fun t => exec_resume_evaluates h paused port replay current
    let running : Engine := { s.engine i with state := .running }
    refine ⟨fun below => ?_, fun atFill unsealed => ?_, fun atFill closed toGo => ?_⟩
    · exact evaluates _ (evaluatePage_below (e := running) rfl current below)
    · exact evaluates _ (evaluatePage_open (e := running) current atFill unsealed)
    · intro left
      have counted : { running.countLeave c.vpage with state := .running, lookFill := none, due := .none } = left :=
        countLeave_running (e := running) rfl toGo c.vpage
      have leaves : ∀ t, (opened.setEngine i running).leaveReplayPage i c.vpage = t →
          exec (.resume i) s = .next (t.answered m rest [0x00]) := fun t left =>
        evaluates t ((evaluatePage_sealed (t := opened) (e := running) current atFill closed).trans left)
      refine ⟨fun release => ?_, fun d keep active => ?_⟩
      · refine leaves _ ?_
        rw [leaveReplayPage_release (e := running) release, counted]
      · intro last inside
        refine leaves _ ?_
        rw [leaveReplayPage_keep (e := running) keep, counted,
          afterReplayLeave_next (e := left) (d := d) active toGo inside, nextPageOf_eq]
  · intro opened v
    have looks : ∀ t, (resumed s i p).enterReplayPage i = t → exec (.resume i) s = .next (t.answered m rest [0x00]) :=
      fun t => exec_resume_looks h paused port replay pageless
    let running : Engine := { s.engine i with state := .running }
    refine ⟨fun miss => looks _ (enterReplayPage_miss (e := running) miss), fun entry hit start => ?_⟩
    exact ⟨fun filled => looks _ (enterReplayPage_below (e := running) hit start filled),
      fun empty closed => looks _ (enterReplayPage_sealed (e := running) hit empty closed),
      fun empty unsealed => looks _ (enterReplayPage_open (e := running) hit empty unsealed)⟩

end Resume

end Sys2Proof.Proofs

namespace Sys2Proof.Proofs

open Sys2Proof.Machine Sys2Proof.Laws

/-! ### The read claim and the lookups of a page change (R42, R44, R53, R115, R119, R120, R121) -/

section ReadClaim

variable {s : State} {i : StreamId} {p : PortId} {v : VPage} {rest : List Claim} {f : FrameId} {access : Access}
  {d : Descriptor}

theorem exec_readClaim_answers (h : s.ClaimNext i (.read v) rest) :
    exec (.readClaim i) s = .next ((s.setClaims rest).answerRead i v) := by
  show execReadClaim i s = _
  rw [execReadClaim, claimOf_next h, ← claimTaken_of_next h]
  rfl

/-! #### An answer present (R119) -/

/-- R42, R115: the answer is installed, the page is current, and it is evaluated at its fill. -/
theorem exec_readClaim_present (h : s.ClaimNext i (.read v) rest) (present : s.entry i v = some ⟨f, access⟩) :
    exec (.readClaim i) s = .next
      ((s.setClaims rest).setEngine i (entersPage (s.engine i) v f access (s.frame f))) := by
  have given : (s.setClaims rest).answerRead i v =
      ((s.setClaims rest).giveReplayPage i v ⟨f, access⟩).evaluateEntry i := by
    have present : (s.setClaims rest).entry i v = some ⟨f, access⟩ := present
    rw [State.answerRead, present]
  rw [exec_readClaim_answers h, given, giveReplayPage_evaluateEntry]
  rfl

theorem entersPage_below {e : Engine} {r : FrameRecord} (filled : 0 < r.fill) :
    entersPage e v f access r =
      { e with
        state := .running, cache := cacheInstall e.cache v f access, currentPage := some ⟨v, f⟩, position := ⟨v, 0⟩
        faultRecord := none, lookFill := some r.fill, due := .none } := by
  simp [entersPage, filled]

theorem entersPage_sealed {e : Engine} {r : FrameRecord} (empty : r.fill = 0) (closed : r.isSealed = true) :
    entersPage e v f access r =
      { e with
        state := .running, cache := cacheInstall e.cache v f access, currentPage := some ⟨v, f⟩, position := ⟨v, 0⟩
        faultRecord := none, lookFill := none, due := .leave } := by
  simp [entersPage, empty, closed]

theorem entersPage_open {e : Engine} {r : FrameRecord} (empty : r.fill = 0) (opened : r.isSealed = false) :
    entersPage e v f access r =
      { e with
        state := .waitData, cache := cacheInstall e.cache v f access, currentPage := some ⟨v, f⟩, position := ⟨v, 0⟩
        faultRecord := none, lookFill := none, due := .none } := by
  simp [entersPage, empty, opened]

/-! #### An answer absent (R120, R121) -/

/-- R121: outside a STOP or ABORT the stream waits with its gate open. -/
theorem enterFault_flowing (ending : (s.engine i).endReason = none) (port : (s.engine i).port = some p)
    (reason : FaultReason) :
    s.enterFault i v reason =
      ((s.setPort p { s.port p with gateOpen := true }).setEngine i
        { s.engine i with
          state := .waitFault, currentPage := none, position := ⟨v, 0⟩, faultRecord := some ⟨v, reason⟩
          lookFill := none, due := .none
          counters := { (s.engine i).counters with
            faultsTaken := saturatingAdd (s.engine i).counters.faultsTaken 1 } }).post (some i) (.fault v reason) := by
  have gate : s.setGate i (s.engine i).endReason.isNone = s.setPort p { s.port p with gateOpen := true } := by
    rw [ending]
    exact setGate_bound port true
  simp only [State.enterFault, State.modEngine, engine_setGate, ending]
  simp only [ending] at gate
  rw [gate]
  cases (s.engine i).state <;> rfl

/-- R106, R121: under HOST an absent page leaves the stream waiting. -/
theorem exec_readClaim_faults (h : s.ClaimNext i (.read v) rest) (absent : s.entry i v = none)
    (host : (s.engine i).faultPolicy = some .host) (ending : (s.engine i).endReason = none)
    (port : (s.engine i).port = some p) :
    exec (.readClaim i) s = .next
      ((((s.setClaims rest).setPort p { s.port p with gateOpen := true }).setEngine i
        { s.engine i with
          state := .waitFault, currentPage := none, position := ⟨v, 0⟩, faultRecord := some ⟨v, .absent⟩
          lookFill := none, due := .none
          counters := { (s.engine i).counters with
            faultsTaken := saturatingAdd (s.engine i).counters.faultsTaken 1 } }).post (some i)
        (.fault v .absent)) := by
  have faults : (s.setClaims rest).answerRead i v = (s.setClaims rest).enterFault i v .absent := by
    have absent : (s.setClaims rest).entry i v = none := absent
    have host : ((s.setClaims rest).engine i).faultPolicy = some .host := host
    rw [State.answerRead, absent, host]
  rw [exec_readClaim_answers h, faults]
  exact congrArg _ (enterFault_flowing (s := s.setClaims rest) ending port _)

/-- R78: a page inside its segment does not complete it, and in LOOP only the pages to go do. -/
theorem completes_false {e : Engine} (active : e.activeDescriptor = some d)
    (inside : d.mode = .loop ∨ v.val + 1 ≠ d.first.val + d.count) (toGo : e.pagesToGo = none) :
    e.completes v = false := by
  simp only [Engine.completes, active, toGo, isLastPage]
  cases mode : d.mode with
  | once => simpa [mode] using inside
  | loop => rfl

/-- R120: a pass-over that does not complete the segment goes to the next page. -/
theorem passOver_next {e : Engine} (active : e.activeDescriptor = some d)
    (inside : d.mode = .loop ∨ v.val + 1 ≠ d.first.val + d.count) (toGo : e.pagesToGo = none) :
    (s.setEngine i e).passOver i v = s.setEngine i
      { e with
        position := ⟨nextPageOf d v, 0⟩, due := .enter
        counters := { e.counters with pagesSkipped := saturatingAdd e.counters.pagesSkipped 1 } } := by
  let skipped : Engine :=
    { e with counters := { e.counters with pagesSkipped := saturatingAdd e.counters.pagesSkipped 1 } }
  have counts : (s.setEngine i e).modEngine i (fun e =>
      { e with counters := { e.counters with pagesSkipped := saturatingAdd e.counters.pagesSkipped 1 } }) =
        s.setEngine i skipped := by
    simp only [State.modEngine, engine_setEngine_self, setEngine_setEngine, skipped]
  have goesOn : skipped.completes v = false := completes_false (e := skipped) active inside toGo
  have next : skipped.nextPage v = nextPageOf d v := by
    have active : skipped.activeDescriptor = some d := active
    simp only [Engine.nextPage, active]
  rw [State.passOver]
  dsimp only
  rw [counts, engine_setEngine_self, goesOn, if_neg (by simp)]
  simp only [State.advancePage, State.modEngine, engine_setEngine_self, setEngine_setEngine, next, skipped]

/-- R120: under SKIP an absent page is passed over. -/
theorem exec_readClaim_passes (h : s.ClaimNext i (.read v) rest) (absent : s.entry i v = none)
    (skip : (s.engine i).faultPolicy = some .skip) (active : (s.engine i).activeDescriptor = some d)
    (inside : d.mode = .loop ∨ v.val + 1 ≠ d.first.val + d.count) (toGo : (s.engine i).pagesToGo = none) :
    exec (.readClaim i) s = .next
      ((s.setClaims rest).setEngine i
        { s.engine i with
          position := ⟨nextPageOf d v, 0⟩, due := .enter
          counters := { (s.engine i).counters with
            pagesSkipped := saturatingAdd (s.engine i).counters.pagesSkipped 1 } }) := by
  have passes : (s.setClaims rest).answerRead i v = (s.setClaims rest).passOver i v := by
    have absent : (s.setClaims rest).entry i v = none := absent
    have skip : ((s.setClaims rest).engine i).faultPolicy = some .skip := skip
    rw [State.answerRead, absent, skip]
  have itself : (s.setClaims rest).setEngine i (s.engine i) = s.setClaims rest := setEngine_engine (s.setClaims rest) i
  rw [exec_readClaim_answers h, passes, ← passOver_next active inside toGo, itself]

/-! #### The lookup that is due (R44, R53) -/

/-- Log entry 8: without a claim the lookup that is due is made. -/
theorem exec_readClaim_looks (out : s.heldInReset = none) (unclaimed : s.claimOf i = none)
    (restart : (s.engine i).restart = .none) (due : (s.engine i).due = .enter ∨ (s.engine i).due = .entering) :
    exec (.readClaim i) s = .next ((s.setEngine i (s.engine i)).enterReplayPage i) := by
  have live : s.engineLive i = true := by simp [State.engineLive, out, Engine.isLive, restart]
  show execReadClaim i s = _
  rw [execReadClaim, unclaimed, setEngine_engine]
  dsimp only
  rw [State.continuePageChange, if_pos live]
  rcases due with due | due <;> rw [due]

/-! #### No command before the lookup (R53) -/

theorem engineFree_of_entering (due : (s.engine i).due = .entering) : s.engineFree i = false := by
  simp [State.engineFree, due]

theorem commandDue_of_entering (due : (s.engine i).due = .entering) (command : HostCommand) :
    s.commandDue i command = false := by
  simp [State.commandDue, engineFree_of_entering due]

/-- R53: between a page leave and the lookup of the next page the engine takes neither a command nor a signal. -/
theorem exec_while_entering (due : (s.engine i).due = .entering) :
    exec (.pause i) s = .next s ∧ exec (.stop i) s = .next s ∧ exec (.abort i) s = .next s ∧
      exec (.queryStream i) s = .next s ∧ exec (.waitDataSignal i) s = .next s := by
  have waits := commandDue_of_entering due
  refine ⟨takeStep_not_due (waits (.pause i)) fun s => s.pauseStream i,
    takeStep_not_due (waits (.stop i)) fun s => s.stopStream i,
    takeStep_not_due (waits (.abort i)) fun s => s.abortStream i, ?_,
    takeStep_not_due (engineFree_of_entering due) fun s => s.takeSignal i⟩
  show execQueryStream i s = _
  rw [execQueryStream, takeStep_not_due (waits _)]

/-- Settles O57: the answer of a read claim, present and absent; the lookup that is due, a hit and a miss; and the
commands that wait for it. -/
theorem readClaimEntersThePage : Obligations.ReadClaimEntersThePage := by
  intro s i p v rest port
  refine ⟨fun h => ⟨fun f access present => ?_, fun absent => ⟨fun host ending _ => ?_, fun d skip active => ?_⟩⟩,
    fun out unclaimed restart due => ?_, fun due _ => exec_while_entering due⟩
  · have enters := exec_readClaim_present h present
    exact ⟨fun filled => by rw [enters, entersPage_below filled]; rfl,
      fun empty closed => by rw [enters, entersPage_sealed empty closed]; rfl,
      fun empty opened => by rw [enters, entersPage_open empty opened]; rfl⟩
  · exact exec_readClaim_faults h absent host ending port
  · intro last inside toGo
    rw [exec_readClaim_passes h absent skip active inside toGo, nextPageOf_eq]
    rfl
  · have looks := exec_readClaim_looks out unclaimed restart due
    refine ⟨fun miss => looks.trans (congrArg _ (enterReplayPage_miss miss)), fun entry hit start => ?_⟩
    exact ⟨fun filled => looks.trans (congrArg _ (enterReplayPage_below hit start filled)),
      fun empty closed => looks.trans (congrArg _ (enterReplayPage_sealed hit empty closed)),
      fun empty opened => looks.trans (congrArg _ (enterReplayPage_open hit empty opened))⟩

end ReadClaim

end Sys2Proof.Proofs

namespace Sys2Proof.Proofs

open Sys2Proof.Machine Sys2Proof.Laws

/-! ### OPEN (R54, R56, R57) -/

section Open

variable {s : State} {m : Message} {rest : List Message} {i : StreamId} {direction : Direction} {p : PortId}
  {fault : FaultPolicy} {policy : ReleasePolicy}

theorem exec_openStream (h : s.AtEngine i (.openStream i direction p fault policy) m rest) :
    exec (.openStream i direction p fault policy) s = .next (s.openPort i direction p fault policy) :=
  takeStep_due (commandDue_at h) fun s => s.openPort i direction p fault policy

/-- R56: the combinations that are refused. -/
theorem policiesFit_false_iff :
    policiesFit direction fault policy = false ↔
      (fault = .allocate ∧ direction = .replay) ∨ (fault = .skip ∧ direction = .capture) ∨
        (policy = .release ∧ direction = .capture) := by
  cases direction with
  | capture => cases policy <;> simp [policiesFit]
  | replay => simp [policiesFit]

theorem openPort_badState (queue : s.command.queue = m :: rest) (busy : (s.engine i).state ≠ .idle) :
    s.openPort i direction p fault policy = s.answered m rest [0x05] := by
  rw [State.openPort, if_pos busy, refuse_answered queue]
  rfl

theorem openPort_badCombination (queue : s.command.queue = m :: rest) (idle : (s.engine i).state = .idle)
    (unfit : policiesFit direction fault policy = false) :
    s.openPort i direction p fault policy = s.answered m rest [0x06] := by
  rw [State.openPort, if_neg (not_not.mpr idle), if_pos unfit, refuse_answered queue]
  rfl

theorem openPort_inUse (queue : s.command.queue = m :: rest) (idle : (s.engine i).state = .idle)
    (fit : ¬ policiesFit direction fault policy = false) (used : (s.port p).bound.isSome = true) :
    s.openPort i direction p fault policy = s.answered m rest [0x09] := by
  rw [State.openPort, if_neg (not_not.mpr idle), if_neg fit, if_pos used, refuse_answered queue]
  rfl

/-- R54, R57: an OPEN that passes its checks binds the port and sets the whole context. -/
theorem openPort_binds (queue : s.command.queue = m :: rest) (idle : (s.engine i).state = .idle)
    (fit : ¬ policiesFit direction fault policy = false) (unbound : (s.port p).bound = none) :
    s.openPort i direction p fault policy =
      ((s.setPort p (.boundTo i direction)).setEngine i (.opened direction p fault policy)).answered m rest [0x00] := by
  rw [State.openPort, if_neg (not_not.mpr idle), if_neg fit, if_neg (by simp [unbound])]
  exact produceReply_answered (s := (s.setPort p (.boundTo i direction)).setEngine i (.opened direction p fault policy))
    queue _

/-- Settles O34: the three checks in their order, and the binding. -/
theorem openBindsThePort : Obligations.OpenBindsThePort := by
  intro s m rest i direction p fault policy h unfit
  have run := exec_openStream h
  have checked : policiesFit direction fault policy = false ↔ unfit := policiesFit_false_iff
  exact ⟨fun busy => run.trans (congrArg _ (openPort_badState h.queue busy)),
    fun idle bad => run.trans (congrArg _ (openPort_badCombination h.queue idle (checked.mpr bad))),
    fun idle fit used => run.trans (congrArg _ (openPort_inUse h.queue idle (checked.not.mpr fit) used)),
    fun idle fit unbound => run.trans (congrArg _ (openPort_binds h.queue idle (checked.not.mpr fit) unbound))⟩

end Open

/-! ### The lanes and the trigger inputs (R54, R84, R90, R91, R122, R123) -/

section Lanes

variable {s : State} {p : PortId} {i : StreamId} {w : Word} {ws : List Word}

theorem boundStream_out (out : s.heldInReset = none) : s.boundStream p = (s.port p).bound := by
  simp [State.boundStream, out]

theorem opensTo_iff {x : Port} {direction : Direction} :
    x.opensTo direction = true ↔ x.direction = some direction ∧ x.gateOpen = true := by
  simp [Port.opensTo]

/-- R54, R55: what keeps a lane of a direction from moving a word. -/
def Shut (x : Port) (direction : Direction) : Prop :=
  x.bound = none ∨ x.gateOpen = false ∨ x.direction ≠ some direction

theorem Shut.not_opensTo {x : Port} {direction : Direction} (shut : Shut x direction) (bound : x.bound = some i) :
    ¬ x.opensTo direction = true := by
  rw [opensTo_iff]
  rintro ⟨same, opened⟩
  rcases shut with unbound | closed | other
  · simp [bound] at unbound
  · simp [opened] at closed
  · exact other same

theorem exec_captureStrobe_shut (out : s.heldInReset = none) (shut : Shut (s.port p) .capture) :
    exec (.captureStrobe p w) s = .next s := by
  show execCaptureStrobe p w s = _
  rw [execCaptureStrobe, boundStream_out out]
  cases bound : (s.port p).bound with
  | none => rfl
  | some i => exact congrArg _ (if_neg (shut.not_opensTo bound))

theorem exec_captureStrobe_open (out : s.heldInReset = none) (bound : (s.port p).bound = some i)
    (gate : (s.port p).gateOpen = true) (capture : (s.port p).direction = some .capture) :
    exec (.captureStrobe p w) s = .next (s.offerWord p i w) := by
  show execCaptureStrobe p w s = _
  rw [execCaptureStrobe, boundStream_out out, bound]
  exact congrArg _ (if_pos (opensTo_iff.mpr ⟨capture, gate⟩))

/-- Settles O47: a lane that is shut, and an open one with room in its FIFO and without. -/
theorem captureStrobeTakesTheWord : Obligations.CaptureStrobeTakesTheWord := by
  intro s p w out
  refine ⟨exec_captureStrobe_shut out, fun i bound gate capture => ?_⟩
  have run := exec_captureStrobe_open (w := w) out bound gate capture
  exact ⟨fun room => run.trans (congrArg _ (if_pos room)),
    fun full => run.trans (congrArg _ (if_neg (not_lt.mpr full)))⟩

theorem exec_triggerEdge (out : s.heldInReset = none) :
    exec (.triggerEdge p) s = .next
      (if (s.port p).bound.isSome then s.setPort p { s.port p with edgePending := true } else s) := by
  show execTriggerEdge p s = _
  rw [execTriggerEdge, takeStep, boundStream_out out]

theorem exec_replayStrobe_shut (out : s.heldInReset = none) (shut : Shut (s.port p) .replay) :
    exec (.replayStrobe p) s = .next s := by
  show execReplayStrobe p s = _
  rw [execReplayStrobe, boundStream_out out]
  cases bound : (s.port p).bound with
  | none => rfl
  | some i => exact congrArg _ (if_neg (shut.not_opensTo bound))

theorem exec_replayStrobe_open (out : s.heldInReset = none) (bound : (s.port p).bound = some i)
    (gate : (s.port p).gateOpen = true) (replay : (s.port p).direction = some .replay) :
    exec (.replayStrobe p) s = .next (s.askWord p i) := by
  show execReplayStrobe p s = _
  rw [execReplayStrobe, boundStream_out out, bound]
  exact congrArg _ (if_pos (opensTo_iff.mpr ⟨replay, gate⟩))

theorem askWord_head (head : (s.port p).fifo = w :: ws) :
    s.askWord p i = (s.setPort p { s.port p with fifo := ws, lastWord := w }).afterWord i := by
  simp only [State.askWord, head]

theorem fifoOf_setPort (port : (s.engine i).port = some p) (x : Port) : (s.setPort p x).fifoOf i = x.fifo := by
  rw [fifoOf_bound (p := p) (by exact port), port_setPort_self]

/-- R122: a word that is not the last one of an ending stream is given, and no more happens. -/
theorem askWord_goesOn (port : (s.engine i).port = some p) (head : (s.port p).fifo = w :: ws)
    (more : (s.engine i).state ≠ .stopping ∨ ws ≠ []) :
    s.askWord p i = s.setPort p { s.port p with fifo := ws, lastWord := w } := by
  rw [askWord_head head, State.afterWord, fifoOf_setPort port, engine_setPort]
  refine if_neg fun ⟨stopping, empty⟩ => ?_
  exact more.elim (· stopping) (· (List.isEmpty_iff.mp empty))

/-- R79: emptying the active slot writes the slots alone. -/
theorem emptyActiveSlot_eq (e : Engine) :
    e.emptyActiveSlot = { e with slotA := e.emptyActiveSlot.slotA, slotB := e.emptyActiveSlot.slotB } := by
  unfold Engine.emptyActiveSlot
  split
  · cases ‹SlotName› <;> rfl
  · rfl

theorem emptyActiveSlot_port (e : Engine) : e.emptyActiveSlot.port = e.port := by
  rw [emptyActiveSlot_eq]

theorem emptyActiveSlot_position (e : Engine) : e.emptyActiveSlot.position = e.position := by
  rw [emptyActiveSlot_eq]

theorem emptyActiveSlot_endReason (e : Engine) : e.emptyActiveSlot.endReason = e.endReason := by
  rw [emptyActiveSlot_eq]

/-- R81: a stream that has emptied its FIFO to the lane empties the completed slot and enters DONE. -/
theorem finishEmptying_bound {reason : EndReason} (port : (s.engine i).port = some p) :
    s.finishEmptying i reason =
      ((s.setPort p { s.port p with gateOpen := false }).setEngine i
        { (s.engine i).emptyActiveSlot with
          state := .done, endReason := some reason, currentPage := none, activeSlot := none, faultRecord := none
          lookFill := none, due := .none }).post (some i) (.streamEnd reason (s.engine i).position none) := by
  rw [State.finishEmptying, enterDone_bound (by rw [engine_modEngine_self, emptyActiveSlot_port, port]),
    engine_modEngine_self, emptyActiveSlot_position, State.modEngine, setPort_setEngine, setEngine_setEngine,
    port_setEngine]

/-- R81: the last word of a stream that has completed takes it to DONE. -/
theorem askWord_last {reason : EndReason} (port : (s.engine i).port = some p) (head : (s.port p).fifo = [w])
    (stopping : (s.engine i).state = .stopping) (ending : (s.engine i).endReason = some reason) :
    s.askWord p i =
      ((s.setPort p { s.port p with fifo := [], lastWord := w, gateOpen := false }).setEngine i
        { (s.engine i).emptyActiveSlot with
          state := .done, currentPage := none, activeSlot := none, faultRecord := none, lookFill := none
          due := .none }).post (some i) (.streamEnd reason (s.engine i).position none) := by
  have ending_emptied := (emptyActiveSlot_endReason (s.engine i)).trans ending
  rw [askWord_head head, State.afterWord, fifoOf_setPort port, engine_setPort, if_pos ⟨stopping, rfl⟩, ending,
    Option.getD_some, finishEmptying_bound (p := p) (by exact port), port_setPort_self, setPort_setPort, engine_setPort,
    ← ending_emptied]

theorem underruns_iff {state : StreamState} : state.underruns = true ↔ state ∈ [.running, .waitData, .waitFault] := by
  cases state <;> decide

/-- R123: an empty FIFO. -/
theorem askWord_empty (empty : (s.port p).fifo = []) : s.askWord p i = s.underrun i := by
  simp only [State.askWord, empty]

/-- Settles O48: an edge; a lane that is shut; an open one with more words, with the last one, and with none; and the
pins, by what the port is bound to. -/
theorem replayStrobeGivesTheWord : Obligations.ReplayStrobeGivesTheWord := by
  refine ⟨fun s p out => ⟨fun unbound => ?_, fun bound => ?_, exec_replayStrobe_shut out,
    fun i bound port gate replay => ?_⟩, fun x => ⟨fun bound replay => ?_, fun input => ?_⟩⟩
  · rw [exec_triggerEdge out, unbound]
    rfl
  · rw [exec_triggerEdge out, if_pos (Option.isSome_iff_ne_none.mpr bound)]
  · have run := exec_replayStrobe_open out bound gate replay
    refine ⟨fun w ws head more => run.trans (congrArg _ (askWord_goesOn port head more)),
      fun w reason head stopping ending => run.trans (congrArg _ (askWord_last port head stopping ending)),
      fun empty asks => ?_⟩
    rw [run, askWord_empty empty, State.underrun, if_pos (underruns_iff.mpr asks)]
    rfl
  · obtain ⟨i, bound⟩ := Option.isSome_iff_exists.mp bound
    simp only [Port.driven, bound, replay]
  · unfold Port.driven
    split
    next i bound replay => simp [bound, replay] at input
    next => rfl

end Lanes
end Sys2Proof.Proofs

namespace Sys2Proof.Proofs

open Sys2Proof.Machine Sys2Proof.Laws

/-! ### STOP and ABORT (R63 to R69) -/

section StopCommands

variable {s t : State} {i : StreamId} {m : Message} {rest : List Message}

theorem exec_stop (h : s.AtEngine i (.stop i) m rest) : exec (.stop i) s = .next (s.stopStream i) :=
  takeStep_due (commandDue_at h) fun s => s.stopStream i

theorem exec_abort (h : s.AtEngine i (.abort i) m rest) : exec (.abort i) s = .next (s.abortStream i) :=
  takeStep_due (commandDue_at h) fun s => s.abortStream i

theorem stopStream_capture (capture : (s.engine i).direction = some .capture) : s.stopStream i = s.stopCapture i := by
  simp only [State.stopStream, capture]

theorem stopStream_replay (replay : (s.engine i).direction = some .replay) : s.stopStream i = s.stopReplay i := by
  simp only [State.stopStream, replay]

theorem abortStream_capture (capture : (s.engine i).direction = some .capture) : s.abortStream i = s.abortCapture i := by
  simp only [State.abortStream, capture]

theorem abortStream_replay (replay : (s.engine i).direction = some .replay) : s.abortStream i = s.abortReplay i := by
  simp only [State.abortStream, replay]

theorem refuse_badState (queue : s.command.queue = m :: rest) : s.refuse .badState = s.answered m rest [0x05] :=
  refuse_answered queue _

end StopCommands

/-! ### The ways to the end of a capture stream (R64 to R66, R68) -/

section CaptureEnds

variable {s t : State} {i : StreamId} {p : PortId} {v : VPage} {reason : EndReason} {m : Message} {rest : List Message}

/-- A capture stream that STOP or ABORT has cut off: its gate closed, its words dropped and counted, its end reason
set (R66, R68, R72). -/
def cutOff (s : State) (i : StreamId) (p : PortId) (reason : EndReason) : State :=
  (s.setPort p { s.port p with gateOpen := false, fifo := [] }).setEngine i
    { dropping (s.engine i) (s.port p).fifo with endReason := some reason }

theorem discardCapture_shut (port : (s.engine i).port = some p) :
    (s.setGate i false).discardCapture i =
      (s.setPort p { s.port p with gateOpen := false, fifo := [] }).setEngine i
        (dropping (s.engine i) (s.port p).fifo) := by
  have itself := setEngine_engine (s.setPort p { s.port p with gateOpen := false }) i
  rw [setGate_bound port, ← itself, discardCapture_bound (by exact port), port_setPort_self, setPort_setPort,
    engine_setPort]

/-- R66: what STOP and ABORT do in WAIT_FAULT before they look at the reason of the fault. -/
theorem discardCapture_cutOff (port : (s.engine i).port = some p) :
    ((s.setGate i false).discardCapture i).modEngine i (fun e => { e with endReason := some reason }) =
      cutOff s i p reason := by
  rw [discardCapture_shut port, State.modEngine, engine_setEngine_self, setEngine_setEngine]
  rfl

theorem engine_cutOff :
    (cutOff s i p reason).engine i = { dropping (s.engine i) (s.port p).fifo with endReason := some reason } :=
  engine_setEngine_self ..

/-- R66: for reason ABSENT the stream is DONE at once. -/
theorem stopInFault_absent (port : (s.engine i).port = some p) (record : (s.engine i).faultRecord = some ⟨v, .absent⟩) :
    s.stopInFault i reason =
      ((s.setPort p { s.port p with gateOpen := false, fifo := [] }).setEngine i
        { dropping (s.engine i) (s.port p).fifo with
          state := .done, endReason := some reason, currentPage := none, activeSlot := none, faultRecord := none
          lookFill := none, due := .none }).post (some i) (.streamEnd reason (s.engine i).position none) := by
  have record_cut : ((cutOff s i p reason).engine i).faultRecord = some ⟨v, .absent⟩ :=
    (congrArg Engine.faultRecord engine_cutOff).trans record
  have port_cut : ((cutOff s i p reason).engine i).port = some p := (congrArg Engine.port engine_cutOff).trans port
  have ends : s.stopInFault i reason = (cutOff s i p reason).enterDone i reason := by
    simp only [State.stopInFault, discardCapture_cutOff port, record_cut]
  rw [ends, enterDone_bound port_cut, engine_cutOff, cutOff, port_setEngine, port_setPort_self, setPort_setEngine,
    setPort_setPort, setEngine_setEngine]
  rfl

/-- R66: for reason POOL_EMPTY the stream sends its ending seal claim. -/
theorem stopInFault_poolEmpty (port : (s.engine i).port = some p)
    (record : (s.engine i).faultRecord = some ⟨v, .poolEmpty⟩) :
    s.stopInFault i reason = (cutOff s i p reason).sendSeal i .endingSeal := by
  have record_cut : ((cutOff s i p reason).engine i).faultRecord = some ⟨v, .poolEmpty⟩ :=
    (congrArg Engine.faultRecord engine_cutOff).trans record
  simp only [State.stopInFault, discardCapture_cutOff port, record_cut]

/-- R64, R65, R68: a stream in STOPPING sends its ending seal claim once its words and its burst are gone. -/
theorem endWhenDrained_stopping (stopping : (s.engine i).state = .stopping) (port : (s.engine i).port = some p) :
    s.endWhenDrained i =
      if (s.port p).fifo = [] ∧ s.burstInFlight (requesterOf i) = false then s.sendSeal i .endingSeal else s := by
  rw [State.endWhenDrained, fifoOf_bound port]
  simp only [stopping, true_and, List.isEmpty_iff]

theorem endWhenDrained_flowing (outside : (s.engine i).state ≠ .stopping) : s.endWhenDrained i = s :=
  if_neg fun ending => outside ending.1

theorem endWhenDrained_drains (stopping : (s.engine i).state = .stopping) (port : (s.engine i).port = some p)
    (left : (s.port p).fifo ≠ [] ∨ s.burstInFlight (requesterOf i) = true) : s.endWhenDrained i = s := by
  rw [endWhenDrained_stopping stopping port, if_neg]
  rintro ⟨empty, idle⟩
  exact left.elim (· empty) (by simp [idle])

theorem endWhenDrained_drained (stopping : (s.engine i).state = .stopping) (port : (s.engine i).port = some p)
    (empty : (s.port p).fifo = []) (idle : s.burstInFlight (requesterOf i) = false) :
    s.endWhenDrained i = s.sendSeal i .endingSeal := by
  rw [endWhenDrained_stopping stopping port, if_pos ⟨empty, idle⟩]

/-- R66: the reply to a STOP or ABORT in WAIT_FAULT with reason ABSENT comes at once. -/
theorem replyToStop_done {command : HostCommand} (ended : (t.engine i).state ≠ .waitFault) (inner : Inner s t)
    (queue : s.command.queue = m :: rest) : t.replyToStop i command = t.answered m rest [0x00] := by
  rw [State.replyToStop, if_neg ended, replyOk_after inner queue]

/-- R66: with reason POOL_EMPTY it waits for the ending seal claim. -/
theorem replyToStop_waits {command : HostCommand} (waiting : (t.engine i).state = .waitFault) :
    t.replyToStop i command = t.setStage command .awaitingEndingSeal := by
  rw [State.replyToStop, if_pos waiting]

/-- R66: a STOP or ABORT in WAIT_FAULT with reason ABSENT ends the stream. -/
theorem stopInFault_answered {command : HostCommand} (port : (s.engine i).port = some p)
    (record : (s.engine i).faultRecord = some ⟨v, .absent⟩) (queue : s.command.queue = m :: rest) :
    (s.stopInFault i reason).replyToStop i command =
      (((s.setPort p { s.port p with gateOpen := false, fifo := [] }).setEngine i
        { dropping (s.engine i) (s.port p).fifo with
          state := .done, endReason := some reason, currentPage := none, activeSlot := none, faultRecord := none
          lookFill := none, due := .none }).post (some i) (.streamEnd reason (s.engine i).position none)).answered m rest
        [0x00] := by
  rw [replyToStop_done (s := s) ?_ (inner_stopInFault s i reason) queue, stopInFault_absent port record]
  rw [stopInFault_absent port record, engine_post, engine_setEngine_self]
  simp

/-- R66: a STOP or ABORT in WAIT_FAULT with reason POOL_EMPTY waits for the ending seal claim that it sends. -/
theorem stopInFault_awaits {command : HostCommand} (port : (s.engine i).port = some p)
    (waiting : (s.engine i).state = .waitFault) (record : (s.engine i).faultRecord = some ⟨v, .poolEmpty⟩)
    (unreported : s.waitingReport i = none) :
    (s.stopInFault i reason).replyToStop i command =
      ((cutOff s i p reason).sendClaim (.engine i (.endingSeal none))).setStage command .awaitingEndingSeal := by
  have sent : s.stopInFault i reason = (cutOff s i p reason).sendClaim (.engine i (.endingSeal none)) :=
    (stopInFault_poolEmpty port record).trans (sendSeal_without_report (s := cutOff s i p reason) unreported _)
  have waits : ((cutOff s i p reason).engine i).state = .waitFault :=
    (congrArg Engine.state engine_cutOff).trans waiting
  rw [sent, replyToStop_waits (by exact waits)]

end CaptureEnds

/-! ### STOP and ABORT of a capture stream (R63 to R66, R68) -/

section StopCapture

variable {s t : State} {i : StreamId} {p : PortId} {m : Message} {rest : List Message}

theorem stopCapture_refused (still : (s.engine i).state ∉ [.running, .paused, .waitFault]) :
    s.stopCapture i = s.refuse .badState := by
  unfold State.stopCapture
  cases state : (s.engine i).state with
  | running | paused | waitFault => simp [state] at still
  | idle | ready | waitData | stopping | done | failed => rfl

/-- R63: a STOP in RUNNING or PAUSED closes the gate, and the stream drains. -/
theorem stopCapture_drains (moves : (s.engine i).state ∈ [.running, .paused]) (port : (s.engine i).port = some p) :
    s.stopCapture i =
      (((s.setPort p { s.port p with gateOpen := false }).setEngine i
        { s.engine i with endReason := some .stopped, state := .stopping }).endWhenDrained i).replyOk := by
  rw [← setGate_bound port]
  unfold State.stopCapture
  cases state : (s.engine i).state with
  | running | paused => simp only [State.modEngine, engine_setGate]
  | waitFault | idle | ready | waitData | stopping | done | failed => simp [state] at moves

theorem stopCapture_waiting (waiting : (s.engine i).state = .waitFault) :
    s.stopCapture i = (s.stopInFault i .stopped).replyToStop i (.stop i) := by
  simp only [State.stopCapture, waiting]

/-- R68: the states in which ABORT cuts a capture stream. -/
def Cuts (e : Engine) : Prop :=
  e.state ∈ [.running, .paused] ∨ e.state = .stopping ∧ e.endReason = some .stopped

/-- A capture stream cut by ABORT, before it is known whether a burst of it is in flight (R68). -/
def abortCut (s : State) (i : StreamId) (p : PortId) : State :=
  ((s.setPort p { s.port p with gateOpen := false, fifo := [] }).withdrawRequest i).setEngine i
    { dropping (s.engine i) (s.port p).fifo with endReason := some .aborted, state := .stopping }

theorem cutCapture_cut (port : (s.engine i).port = some p) :
    s.cutCapture i = ((abortCut s i p).endWhenDrained i).replyOk := by
  have withdrawn : ∀ (x : State) e, (x.setEngine i e).withdrawRequest i = (x.withdrawRequest i).setEngine i e :=
    fun _ _ => rfl
  have whole : (((s.setGate i false).discardCapture i).withdrawRequest i).modEngine i
      (fun e => { e with endReason := some .aborted, state := .stopping }) = abortCut s i p := by
    rw [discardCapture_shut port, withdrawn, State.modEngine, engine_setEngine_self, setEngine_setEngine]
    rfl
  rw [State.cutCapture, whole]

theorem abortCapture_cuts (cuts : Cuts (s.engine i)) : s.abortCapture i = s.cutCapture i := by
  unfold State.abortCapture
  rcases cuts with moves | ⟨stopping, ending⟩
  · cases state : (s.engine i).state with
    | running | paused => rfl
    | waitFault | idle | ready | waitData | stopping | done | failed => simp [state] at moves
  · rw [stopping, ending]
    rfl

theorem abortCapture_refused
    (ended : (s.engine i).state ∈ [.idle, .ready, .done, .failed] ∨
      (s.engine i).state = .stopping ∧ (s.engine i).endReason = some .aborted) :
    s.abortCapture i = s.refuse .badState := by
  unfold State.abortCapture
  rcases ended with still | ⟨stopping, ending⟩
  · cases state : (s.engine i).state with
    | idle | ready | done | failed => rfl
    | running | paused | waitFault | waitData | stopping => simp [state] at still
  · rw [stopping, ending]
    rfl

theorem abortCapture_waiting (waiting : (s.engine i).state = .waitFault) :
    s.abortCapture i = (s.stopInFault i .aborted).replyToStop i (.abort i) := by
  simp only [State.abortCapture, waiting]

theorem exec_stop_capture {u : State} (h : s.AtEngine i (.stop i) m rest)
    (capture : (s.engine i).direction = some .capture) (stops : s.stopCapture i = u) : exec (.stop i) s = .next u := by
  rw [exec_stop h, stopStream_capture capture, stops]

theorem exec_abort_capture {u : State} (h : s.AtEngine i (.abort i) m rest)
    (capture : (s.engine i).direction = some .capture) (stops : s.abortCapture i = u) : exec (.abort i) s = .next u := by
  rw [exec_abort h, abortStream_capture capture, stops]

/-- Settles O39: STOP by the stream's state; ABORT of a stream that has a page; and ABORT in WAIT_FAULT. A free engine
has no fill report waiting, so every ending seal claim is sent without one. -/
theorem stopAndAbortOfACaptureStream : Obligations.StopAndAbortOfACaptureStream := by
  refine ⟨fun s m rest i p h capture port => ?_, fun s m rest i p h capture port => ?_,
    fun s m rest i p v h capture port waiting => ?_⟩
  · intro shut stopping emptied dropped
    have unreported := waitingReport_of_free h.free
    have runs : ∀ u, s.stopCapture i = u → exec (.stop i) s = .next u := fun u => exec_stop_capture h capture
    let draining : State := shut.setEngine i stopping
    have state : (draining.engine i).state = .stopping := by rw [engine_setEngine_self]
    have port_draining : (draining.engine i).port = some p := by rw [engine_setEngine_self]; exact port
    have fifo : (draining.port p).fifo = (s.port p).fifo := by rw [port_setEngine, port_setPort_self]
    refine ⟨fun still => runs _ ((stopCapture_refused still).trans (refuse_badState h.queue)),
      fun moves => ⟨fun left => runs _ ?_, fun empty idle => runs _ ?_⟩, fun v waiting => ⟨fun record => runs _ ?_,
        fun record => runs _ ?_⟩⟩
    · rw [stopCapture_drains moves port, endWhenDrained_drains state port_draining (by rw [fifo]; exact left)]
      exact produceReply_answered (s := draining) h.queue _
    · rw [stopCapture_drains moves port, endWhenDrained_drained state port_draining (by rw [fifo]; exact empty) idle,
        sendSeal_without_report (s := draining) unreported]
      exact produceReply_answered (s := draining.sendClaim (.engine i (.endingSeal none))) h.queue _
    · exact (stopCapture_waiting waiting).trans (stopInFault_answered port record h.queue)
    · exact (stopCapture_waiting waiting).trans (stopInFault_awaits port waiting record unreported)
  · intro cut
    have unreported := waitingReport_of_free h.free
    have runs : ∀ u, s.abortCapture i = u → exec (.abort i) s = .next u := fun u => exec_abort_capture h capture
    have state : (cut.engine i).state = .stopping := by rw [engine_setEngine_self]
    have port_cut : (cut.engine i).port = some p := by rw [engine_setEngine_self]; exact port
    have empty : (cut.port p).fifo = [] := by rw [port_setEngine, port_withdrawRequest, port_setPort_self]
    refine ⟨fun ended => runs _ ((abortCapture_refused ended).trans (refuse_badState h.queue)),
      fun cuts => ⟨fun flight => runs _ ?_, fun idle => runs _ ?_⟩⟩
    · rw [abortCapture_cuts cuts, cutCapture_cut port]
      exact (congrArg State.replyOk (endWhenDrained_drains (s := cut) state port_cut (.inr flight))).trans
        (produceReply_answered (s := cut) h.queue _)
    · rw [abortCapture_cuts cuts, cutCapture_cut port]
      exact (congrArg State.replyOk ((endWhenDrained_drained (s := cut) state port_cut empty idle).trans
        (sendSeal_without_report (s := cut) unreported _))).trans
        (produceReply_answered (s := cut.sendClaim (.engine i (.endingSeal none))) h.queue _)
  · intro emptied dropped
    have runs : ∀ u, s.abortCapture i = u → exec (.abort i) s = .next u := fun u => exec_abort_capture h capture
    exact ⟨fun record => runs _ ((abortCapture_waiting waiting).trans (stopInFault_answered port record h.queue)),
      fun record => runs _ ((abortCapture_waiting waiting).trans
        (stopInFault_awaits port waiting record (waitingReport_of_free h.free)))⟩

end StopCapture

/-! ### STOP and ABORT of a replay stream (R67, R69, R71) -/

section StopReplay

variable {s : State} {i : StreamId} {p : PortId} {e : Engine} {reason : EndReason} {m : Message} {rest : List Message}

/-- The port and the arbiter of a replay stream that ends: its gate closed, its words gone, its request withdrawn
(R67). -/
def shutDown (s : State) (i : StreamId) (p : PortId) : State :=
  (s.setPort p { s.port p with gateOpen := false, fifo := [] }).withdrawRequest i

/-- The engine of a replay stream that ends, in the state that it goes to (R67). -/
def replayEnding (e : Engine) (reason : EndReason) (state : StreamState) : Engine :=
  { e with endReason := some reason, faultRecord := none, lookFill := none, due := .none, state := state }

theorem endReplay_shutDown (port : e.port = some p) :
    (s.setEngine i e).endReplay i reason =
      let stopping := (shutDown s i p).setEngine i (replayEnding e reason .stopping)
      if s.burstInFlight (requesterOf i) then stopping else stopping.enterDone i reason := by
  have bound : ((s.setEngine i e).engine i).port = some p := by rw [engine_setEngine_self, port]
  have shut : (((s.setEngine i e).setGate i false).setFifo i []).withdrawRequest i = (shutDown s i p).setEngine i e := by
    rw [setGate_bound bound, setFifo_bound (p := p) (by exact bound), port_setPort_self, setPort_setPort]
    rfl
  rw [State.endReplay, shut, State.modEngine, engine_setEngine_self, setEngine_setEngine]
  rfl

/-- R67: with its burst in flight the stream is STOPPING. -/
theorem endReplay_flying (port : e.port = some p) (flight : s.burstInFlight (requesterOf i) = true) :
    (s.setEngine i e).endReplay i reason = (shutDown s i p).setEngine i (replayEnding e reason .stopping) :=
  (endReplay_shutDown port).trans (if_pos flight)

/-- R67, R71: with no burst in flight it is DONE at once. -/
theorem endReplay_done (port : e.port = some p) (idle : s.burstInFlight (requesterOf i) = false) :
    (s.setEngine i e).endReplay i reason =
      ((shutDown s i p).setEngine i
        { replayEnding e reason .done with currentPage := none, activeSlot := none }).post (some i)
        (.streamEnd reason e.position none) := by
  have bound : (((shutDown s i p).setEngine i (replayEnding e reason .stopping)).engine i).port = some p := by
    rw [engine_setEngine_self]
    exact port
  have closed : { (shutDown s i p).port p with gateOpen := false } = (shutDown s i p).port p := by
    rw [shutDown, port_withdrawRequest, port_setPort_self]
  rw [endReplay_shutDown port]
  refine (if_neg (by simp [idle])).trans ?_
  rw [enterDone_bound bound, port_setEngine, closed, setPort_setEngine, setPort_port, setEngine_setEngine,
    engine_setEngine_self]
  rfl

theorem stopReplay_refused (still : (s.engine i).state ∉ [.running, .paused, .waitData, .waitFault]) :
    s.stopReplay i = s.refuse .badState := by
  unfold State.stopReplay
  cases state : (s.engine i).state with
  | running | paused | waitData | waitFault => simp [state] at still
  | idle | ready | stopping | done | failed => rfl

theorem stopReplay_ends (moves : (s.engine i).state ∈ [.running, .paused, .waitData, .waitFault]) :
    s.stopReplay i = (s.endReplay i .stopped).replyOk := by
  unfold State.stopReplay
  cases state : (s.engine i).state with
  | running | paused | waitData | waitFault => rfl
  | idle | ready | stopping | done | failed => simp [state] at moves

theorem abortReplay_refused
    (ended : (s.engine i).state ∉ [.running, .paused, .waitData, .waitFault, .stopping] ∨
      (s.engine i).state = .stopping ∧ (s.engine i).endReason = some .aborted) :
    s.abortReplay i = s.refuse .badState := by
  unfold State.abortReplay
  rcases ended with still | ⟨stopping, ending⟩
  · cases state : (s.engine i).state with
    | running | paused | waitData | waitFault | stopping => simp [state] at still
    | idle | ready | done | failed => rfl
  · rw [stopping, ending]
    rfl

/-- R69: ABORT of a replay stream that is not emptying its FIFO to the lane. -/
theorem abortReplay_ends
    (ends : (s.engine i).state ∈ [.running, .paused, .waitData, .waitFault] ∨
      (s.engine i).state = .stopping ∧ (s.engine i).endReason = some .stopped) :
    s.abortReplay i = (s.endReplay i .aborted).replyOk := by
  unfold State.abortReplay
  rcases ends with moves | ⟨stopping, ending⟩
  · cases state : (s.engine i).state with
    | running | paused | waitData | waitFault => rfl
    | idle | ready | stopping | done | failed => simp [state] at moves
  · rw [stopping, State.cutReplay, ending]
    rfl

/-- R69, R81: ABORT of a replay stream that empties its FIFO to the lane empties the completed slot as well. -/
theorem abortReplay_empties (stopping : (s.engine i).state = .stopping)
    (completed : (s.engine i).endReason ∈ [some .completed, some .starved]) :
    s.abortReplay i = ((s.setEngine i (s.engine i).emptyActiveSlot).endReplay i .aborted).replyOk := by
  unfold State.abortReplay
  rw [stopping, State.cutReplay]
  rcases List.mem_pair.mp completed with reason | reason <;> rw [reason] <;> rfl

theorem replayEnding_emptyActiveSlot (e : Engine) (reason : EndReason) (state : StreamState) :
    replayEnding e.emptyActiveSlot reason state = (replayEnding e reason state).emptyActiveSlot := by
  cases active : e.activeSlot with
  | none => simp [Engine.emptyActiveSlot, replayEnding, active]
  | some name => cases name <;> simp [Engine.emptyActiveSlot, Engine.setSlot, replayEnding, active]

/-- R67, R69: a STOP or ABORT that finds the burst of its stream in flight. -/
theorem endReplay_answered_flying (port : (s.engine i).port = some p) (flight : s.burstInFlight (requesterOf i) = true)
    (queue : s.command.queue = m :: rest) :
    (s.endReplay i reason).replyOk =
      ((shutDown s i p).setEngine i (replayEnding (s.engine i) reason .stopping)).answered m rest [0x00] := by
  have stops := endReplay_flying (reason := reason) port flight
  rw [setEngine_engine] at stops
  rw [stops]
  exact produceReply_answered (s := (shutDown s i p).setEngine i (replayEnding (s.engine i) reason .stopping)) queue _

/-- R67, R69, R71: a STOP or ABORT that finds no burst in flight, of a stream with the engine `e`. -/
theorem endReplay_answered_done (port : e.port = some p) (idle : s.burstInFlight (requesterOf i) = false)
    (queue : s.command.queue = m :: rest) :
    ((s.setEngine i e).endReplay i reason).replyOk =
      (((shutDown s i p).setEngine i
        { replayEnding e reason .done with currentPage := none, activeSlot := none }).post (some i)
        (.streamEnd reason e.position none)).answered m rest [0x00] := by
  rw [endReplay_done port idle]
  exact produceReply_answered (s := ((shutDown s i p).setEngine i
    { replayEnding e reason .done with currentPage := none, activeSlot := none }).post (some i)
    (.streamEnd reason e.position none)) queue _

/-- Settles O40: STOP and ABORT, each refused, with the burst of the stream in flight, and with none. -/
theorem stopAndAbortOfAReplayStream : Obligations.StopAndAbortOfAReplayStream := by
  intro s m rest i p replay port shut ended
  have done (queue : s.command.queue = m :: rest) (idle : s.burstInFlight (requesterOf i) = false) (reason : EndReason) :=
    endReplay_answered_done (e := s.engine i) (reason := reason) port idle queue
  simp only [setEngine_engine] at done
  refine ⟨fun h => ?_, fun h => ?_⟩
  · have run : exec (.stop i) s = .next (s.stopReplay i) := by rw [exec_stop h, stopStream_replay replay]
    refine ⟨fun still => run.trans (congrArg _ ((stopReplay_refused still).trans (refuse_badState h.queue))),
      fun moves => ?_⟩
    have ends := run.trans (congrArg _ (stopReplay_ends moves))
    exact ⟨fun flight => ends.trans (congrArg _ (endReplay_answered_flying port flight h.queue)),
      fun idle => ends.trans (congrArg _ (done h.queue idle _))⟩
  · have run : exec (.abort i) s = .next (s.abortReplay i) := by rw [exec_abort h, abortStream_replay replay]
    refine ⟨fun finished => run.trans (congrArg _ ((abortReplay_refused finished).trans (refuse_badState h.queue))),
      fun ends flight => run.trans (congrArg _ ((abortReplay_ends ends).trans
        (endReplay_answered_flying port flight h.queue))),
      fun ends idle => run.trans (congrArg _ ((abortReplay_ends ends).trans (done h.queue idle _))),
      fun stopping completed idle => run.trans (congrArg _ ((abortReplay_empties stopping completed).trans ?_))⟩
    rw [endReplay_answered_done ((emptyActiveSlot_port _).trans port) idle h.queue, replayEnding_emptyActiveSlot,
      emptyActiveSlot_position]
    rfl

end StopReplay

end Sys2Proof.Proofs

namespace Sys2Proof.Proofs

open Sys2Proof.Machine Sys2Proof.Laws

/-! ### The completion of a capture burst (R64, R65, R68, R95 to R97) -/

section CaptureBurst

variable {s t : State} {i : StreamId} {p : PortId} {b : Burst} {c : CurrentPage}

/-- The state in which a capture burst has put its bytes in the frame store, and its stream has advanced (R95). -/
def landed (s : State) (i : StreamId) (b : Burst) : State :=
  ((s.storeWrite b.frame b.offset b.data).endBurst).setEngine i ((s.engine i).advanced b.length)

theorem storeByte_landed_inside (k : Nat) (inside : k < b.data.length) :
    (landed s i b).storeByte (address b.frame b.offset + k) = b.data[k] := by
  have read : Memory.read (landed s i b).store (address b.frame b.offset + k) = some b.data[k] :=
    read_writeBytes s.store _ k b.data inside
  rw [State.storeByte, read, Option.getD_some]

theorem storeByte_landed_outside (a : Nat)
    (outside : a < address b.frame b.offset ∨ address b.frame b.offset + b.data.length ≤ a) :
    (landed s i b).storeByte a = s.storeByte a := by
  have read : Memory.read (landed s i b).store a = Memory.read s.store a :=
    read_writeBytes_other s.store _ a b.data outside
  rw [State.storeByte, read]
  rfl

/-- R95: a live stream goes on with its report. -/
theorem exec_captureBurstComplete (out : s.heldInReset = none) (flight : s.arbiter.inFlight = some b)
    (own : b.requester = requesterOf i) (writes : b.isWrite = true) (live : (s.engine i).restart = .none) :
    exec (.captureBurstComplete i) s = .next ((landed s i b).afterCapture i) := by
  have due : (s.heldInReset.isNone && s.streamBurst i true) = true := by
    simp [out, State.streamBurst, flight, own, writes]
  have lands : s.landCapture i b = landed s i b := rfl
  have still : ((landed s i b).engine i).restart = .none := by
    rw [landed, engine_setEngine_self]
    exact live
  show execCaptureBurstComplete i s = _
  rw [execCaptureBurstComplete, takeStep_due due, flight]
  simp only [State.completeCapture, lands, still, reduceCtorEq, if_false]

/-- R96: a new report goes to the tail of the claims. -/
theorem reportFill_new (unreported : s.waitingReport i = none) (f : FrameId) (n : Nat) :
    s.reportFill i f n = s.setClaims (s.mapUnit.claims ++ [.engine i (.fillReport f n)]) := by
  rw [State.reportFill, unreported]
  rfl

/-- A state whose stream `i`, with the engine `e`, has its report of the offset in its place among the claims (R96). -/
structure Reports (t : State) (i : StreamId) (e : Engine) (c : CurrentPage) (before after : List Claim) : Prop where
  engine : t.engine i = e
  current : e.currentPage = some c
  alone : ∀ x ∈ before ++ after, x.reportOf i = none
  report : t.reportFill i c.frame e.position.offset =
    t.setClaims (before ++ .engine i (.fillReport c.frame e.position.offset) :: after)

section Reports

variable {e : Engine} {before after : List Claim}

theorem Reports.of_none (engine : t.engine i = e) (current : e.currentPage = some c)
    (unreported : t.waitingReport i = none) : Reports t i e c t.mapUnit.claims [] where
  engine := engine
  current := current
  alone x mem := List.findSome?_eq_none_iff.mp unreported x (by simpa using mem)
  report := reportFill_new unreported _ _

theorem Reports.of_waiting {o : Nat} {g : FrameId} (engine : t.engine i = e) (current : e.currentPage = some c)
    (waits : t.mapUnit.claims = before ++ .engine i (.fillReport g o) :: after)
    (alone : ∀ x ∈ before ++ after, x.reportOf i = none) : Reports t i e c before after where
  engine := engine
  current := current
  alone := alone
  report := reportFill_waiting waits alone

/-- The state in which the report stands in its place. -/
def reported (t : State) (i : StreamId) (e : Engine) (c : CurrentPage) (before after : List Claim) : State :=
  t.setClaims (before ++ .engine i (.fillReport c.frame e.position.offset) :: after)

theorem Reports.afterCapture (h : Reports t i e c before after) :
    t.afterCapture i =
      if e.position.offset = 4096 ∧ e.endReason ≠ some .aborted then
        (reported t i e c before after).sendSeal i (.leaveSeal c.frame)
      else (reported t i e c before after).endWhenDrained i := by
  have kept : ((reported t i e c before after).engine i).endReason = e.endReason := congrArg Engine.endReason h.engine
  have report : t.reportFill i c.frame e.position.offset = reported t i e c before after := h.report
  simp only [State.afterCapture, h.engine, h.current, report, kept]

/-- R96: a seal claim withdraws the report and carries its offset. -/
theorem Reports.sendSeal (h : Reports t i e c before after) (claim : Option Nat → EngineClaim) :
    (reported t i e c before after).sendSeal i claim =
      t.setClaims (before ++ after ++ [.engine i (claim (some e.position.offset))]) :=
  sendSeal_waiting (s := reported t i e c before after) rfl h.alone claim

/-- R95: inside its page a stream with more to capture reports, and no more. -/
theorem Reports.goesOn (h : Reports t i e c before after) (port : e.port = some p) (inside : e.position.offset ≠ 4096)
    (more : e.state ∈ [.running, .paused] ∨ e.state = .stopping ∧ (t.port p).fifo ≠ []) :
    t.afterCapture i = reported t i e c before after := by
  have engine : (reported t i e c before after).engine i = e := h.engine
  refine h.afterCapture.trans ((if_neg fun full => inside full.1).trans ?_)
  rcases more with moves | ⟨stopping, left⟩
  · refine endWhenDrained_flowing fun stopping => ?_
    rw [engine] at stopping
    simp [stopping] at moves
  · exact endWhenDrained_drains (engine ▸ stopping) (engine ▸ port) (.inl left)

/-- R97: at the end of its page the stream sends the leave seal claim, unless it is aborted. -/
theorem Reports.leaves (h : Reports t i e c before after) (full : e.position.offset = 4096)
    (kept : e.endReason ≠ some .aborted) :
    t.afterCapture i = t.setClaims (before ++ after ++ [.engine i (.leaveSeal c.frame (some e.position.offset))]) :=
  h.afterCapture.trans ((if_pos ⟨full, kept⟩).trans (h.sendSeal (.leaveSeal c.frame)))

/-- R64, R65, R68: a drain that is over, and an ABORT, send the ending seal claim. -/
theorem Reports.ends (h : Reports t i e c before after) (port : e.port = some p)
    (idle : t.burstInFlight (requesterOf i) = false) (stopping : e.state = .stopping) (empty : (t.port p).fifo = [])
    (ends : e.position.offset ≠ 4096 ∨ e.endReason = some .aborted) :
    t.afterCapture i = t.setClaims (before ++ after ++ [.engine i (.endingSeal (some e.position.offset))]) := by
  have engine : (reported t i e c before after).engine i = e := h.engine
  refine h.afterCapture.trans ((if_neg fun leaves => ends.elim (· leaves.1) leaves.2).trans ?_)
  rw [endWhenDrained_drained (s := reported t i e c before after) (engine ▸ stopping) (engine ▸ port) empty idle,
    h.sendSeal .endingSeal]

end Reports

/-- Settles O51: whether the report is new, at the tail of the claims, or takes the place of one that waits, there are
three ways on from it. -/
theorem captureBurstAdvancesTheStream : Obligations.CaptureBurstAdvancesTheStream := by
  intro s i p b c out flight own writes live port current offset advanced
  have engine : advanced.engine i = (s.engine i).advanced b.length := engine_setEngine_self ..
  have runs : ∀ u, advanced.afterCapture i = u → exec (.captureBurstComplete i) s = .next u := fun u after =>
    (exec_captureBurstComplete out flight own writes live).trans (congrArg _ after)
  refine ⟨storeByte_landed_inside, storeByte_landed_outside, fun unreported => ?_, fun before after o waits alone => ?_⟩
  · have h : Reports advanced i _ c s.mapUnit.claims [] := .of_none engine current unreported
    have tail : ∀ x, advanced.setClaims (s.mapUnit.claims ++ [] ++ [x]) = advanced.sendClaim x := fun x => by
      rw [List.append_nil]
      rfl
    exact ⟨fun inside more => runs _ (h.goesOn port inside more),
      fun full kept => runs _ ((h.leaves full kept).trans (tail _)),
      fun stopping empty ends => runs _ ((h.ends port rfl stopping empty ends).trans (tail _))⟩
  · have h : Reports advanced i _ c before after := .of_waiting engine current waits alone
    exact ⟨fun inside more => runs _ (h.goesOn port inside more), fun full kept => runs _ (h.leaves full kept),
      fun stopping empty ends => runs _ (h.ends port rfl stopping empty ends)⟩

end CaptureBurst

end Sys2Proof.Proofs

namespace Sys2Proof.Proofs

open Sys2Proof.Machine Sys2Proof.Laws

/-! ### A write claim writes no other entry (R101) -/

section ClaimEntries

variable {s : State} {i j : StreamId} {v u : VPage}

theorem stopInFault_maps (reason : EndReason) : (s.stopInFault i reason).mapUnit.maps = s.mapUnit.maps := by
  unfold State.stopInFault
  dsimp only
  split
  · simp [State.sendSeal, State.discardCapture]
  · simp [State.enterDone, State.discardCapture]

theorem enterFault_maps (reason : FaultReason) : (s.enterFault i v reason).mapUnit.maps = s.mapUnit.maps := by
  unfold State.enterFault
  dsimp only
  split
  · rw [stopInFault_maps]
    simp
  · simp

theorem entry_enterFault (reason : FaultReason) : (s.enterFault i v reason).entry j u = s.entry j u := by
  rw [State.entry, enterFault_maps, State.entry]

theorem entry_enterFailed : (s.enterFailed i v).entry j u = s.entry j u := by
  rw [State.entry, enterFailed_mapUnit, State.entry]

theorem entry_issueFor (f : FrameId) (handed : Bool) : (s.issueFor i f handed).entry j u = s.entry j u := by
  cases handed <;> simp [State.issueFor, State.issueFromQueue, State.issue]

/-- R101: whatever is decided, no other page of the stream and no page of another stream is written. -/
theorem entry_applyWrite_elsewhere (other : j ≠ i ∨ u ≠ v) (handed : Bool) (d : WriteDecision) :
    (s.applyWrite i v handed d).entry j u = s.entry j u := by
  cases d with
  | allocate f => rw [State.applyWrite, entry_giveFrame, entry_setEntry_elsewhere other, entry_issueFor]
  | waitAbsent => exact entry_enterFault .absent
  | setAside => rfl
  | fail => exact entry_enterFailed
  | inPlace f => rw [State.applyWrite, entry_giveFrame, entry_setFrame]
  | reuse f => rw [State.applyWrite, entry_giveFrame, entry_setFrame]
  | detach old f =>
    simp only [State.applyWrite, entry_giveFrame, entry_setFrame]
    rw [entry_setEntry_elsewhere other, entry_issueFor, entry_purge]
  | waitPool => exact entry_enterFault (s := s.setWaiters (s.mapUnit.waiters ++ [i])) .poolEmpty

end ClaimEntries

/-! ### A write claim that leaves its stream waiting (R64 to R66, R106 to R108) -/

section ClaimWaits

variable {s y : State} {i : StreamId} {p : PortId} {v : VPage} {l l' : Link} {x x' : Port} {e e' : Engine}
  {claims claims' : List Claim} {reason : FaultReason} {ending : EndReason}

theorem ownWork_ownWork :
    ownWork (ownWork y i p l x e claims) i p l' x' e' claims' = ownWork y i p l' x' e' claims' := by
  simp [ownWork, State.setPort, State.setEngine, State.setLink, State.setClaims]

/-- R66: STOP or ABORT in WAIT_FAULT with reason ABSENT, after other work of the stream's own. -/
theorem stopInFault_ownWork_absent (port : e.port = some p) (record : e.faultRecord = some ⟨v, .absent⟩) :
    (ownWork y i p l x e claims).stopInFault i ending =
      ownWork y i p (l.post (some i) (.streamEnd ending e.position none)) { x with gateOpen := false, fifo := [] }
        { dropping e x.fifo with
          state := .done, endReason := some ending, currentPage := none, activeSlot := none, faultRecord := none
          lookFill := none, due := .none } claims := by
  have ends : ∀ z : State, (z.engine i).port = some p → (z.engine i).faultRecord = some ⟨v, .absent⟩ →
      z.stopInFault i ending =
        ownWork z i p (z.link.post (some i) (.streamEnd ending (z.engine i).position none))
          { z.port p with gateOpen := false, fifo := [] }
          { dropping (z.engine i) (z.port p).fifo with
            state := .done, endReason := some ending, currentPage := none, activeSlot := none, faultRecord := none
            lookFill := none, due := .none } z.mapUnit.claims := fun _ port record => stopInFault_absent port record
  rw [ends _ (by rw [engine_ownWork_self, port]) (by rw [engine_ownWork_self, record]), ownWork_ownWork,
    engine_ownWork_self, port_ownWork]
  rfl

/-- R66: STOP or ABORT in WAIT_FAULT with reason POOL_EMPTY, after other work of the stream's own. -/
theorem stopInFault_ownWork_poolEmpty (port : e.port = some p) (record : e.faultRecord = some ⟨v, .poolEmpty⟩) :
    (ownWork y i p l x e claims).stopInFault i ending =
      ownWork y i p l { x with gateOpen := false, fifo := [] } { dropping e x.fifo with endReason := some ending }
        (claims.filter (fun c => (c.reportOf i).isNone) ++
          [.engine i (.endingSeal (claims.findSome? fun c => c.reportOf i))]) := by
  have seals : ∀ z : State, (z.engine i).port = some p → (z.engine i).faultRecord = some ⟨v, .poolEmpty⟩ →
      z.stopInFault i ending =
        ownWork z i p z.link { z.port p with gateOpen := false, fifo := [] }
          { dropping (z.engine i) (z.port p).fifo with endReason := some ending }
          (z.mapUnit.claims.filter (fun c => (c.reportOf i).isNone) ++
            [.engine i (.endingSeal (z.mapUnit.claims.findSome? fun c => c.reportOf i))]) :=
    fun _ port record => stopInFault_poolEmpty port record
  rw [seals _ (by rw [engine_ownWork_self, port]) (by rw [engine_ownWork_self, record]), ownWork_ownWork,
    engine_ownWork_self, port_ownWork]
  rfl

/-- An engine that a page entry has left in WAIT_FAULT (R106, R107). -/
def faulted (e : Engine) (v : VPage) (reason : FaultReason) : Engine :=
  { e with
    state := .waitFault, currentPage := none, position := ⟨v, 0⟩, faultRecord := some ⟨v, reason⟩, lookFill := none
    due := .none, counters := { e.counters with faultsTaken := saturatingAdd e.counters.faultsTaken 1 } }

/-- R106, R107: outside a STOP drain the stream waits with its gate open. -/
theorem enterFault_opened (running : (y.engine i).endReason = none) (port : (y.engine i).port = some p) :
    y.enterFault i v reason =
      ownWork y i p (y.link.post (some i) (.fault v reason)) { y.port p with gateOpen := true }
        (faulted (y.engine i) v reason) y.mapUnit.claims :=
  enterFault_flowing running port reason

/-- R64: a STOP drain that faults acts as R66 gives. -/
theorem enterFault_drain (stopping : (y.engine i).state = .stopping) (stopped : (y.engine i).endReason = some ending)
    (port : (y.engine i).port = some p) :
    y.enterFault i v reason =
      (ownWork y i p (y.link.post (some i) (.fault v reason)) { y.port p with gateOpen := false }
        (faulted (y.engine i) v reason) y.mapUnit.claims).stopInFault i ending := by
  simp only [State.enterFault, stopping, stopped, Option.isNone_some, setGate_bound port]
  rfl

/-- R66: a drain that waits for the host is DONE at once, its words dropped and counted. -/
theorem enterFault_drain_absent (stopping : (y.engine i).state = .stopping)
    (stopped : (y.engine i).endReason = some ending) (port : (y.engine i).port = some p) :
    y.enterFault i v .absent =
      ownWork y i p ((y.link.post (some i) (.fault v .absent)).post (some i) (.streamEnd ending ⟨v, 0⟩ none))
        { y.port p with gateOpen := false, fifo := [] }
        { dropping (faulted (y.engine i) v .absent) (y.port p).fifo with
          state := .done, endReason := some ending, currentPage := none, activeSlot := none, faultRecord := none
          lookFill := none, due := .none } y.mapUnit.claims :=
  (enterFault_drain stopping stopped port).trans
    (stopInFault_ownWork_absent (e := faulted (y.engine i) v .absent) port rfl)

/-- R66: a drain that waits for a frame sends its ending seal claim, its words dropped and counted. -/
theorem enterFault_drain_poolEmpty (stopping : (y.engine i).state = .stopping)
    (stopped : (y.engine i).endReason = some ending) (port : (y.engine i).port = some p) :
    y.enterFault i v .poolEmpty =
      ownWork y i p (y.link.post (some i) (.fault v .poolEmpty)) { y.port p with gateOpen := false, fifo := [] }
        { dropping (faulted (y.engine i) v .poolEmpty) (y.port p).fifo with endReason := some ending }
        (y.mapUnit.claims.filter (fun c => (c.reportOf i).isNone) ++
          [.engine i (.endingSeal (y.mapUnit.claims.findSome? fun c => c.reportOf i))]) :=
  (enterFault_drain stopping stopped port).trans
    (stopInFault_ownWork_poolEmpty (e := faulted (y.engine i) v .poolEmpty) port rfl)

/-- The states in which the engine of a write claim waits for its page: in RUNNING, PAUSED or a STOP drain (R64,
R100). -/
def ClaimsPage (e : Engine) : Prop :=
  e.state ∈ [.running, .paused] ∧ e.endReason = none ∨ e.state = .stopping ∧ e.endReason = some .stopped

theorem ClaimsPage.not_waiting (h : ClaimsPage e) : e.state ≠ .waitFault := by
  rcases h with ⟨moves, _⟩ | ⟨stopping, _⟩
  · intro waiting
    simp [waiting] at moves
  · simp [stopping]

/-- What a claim changes that leaves its stream waiting on page `v` (R64 to R66, R106, R107). -/
structure LeftWaiting (y t : State) (i : StreamId) (p : PortId) (v : VPage) (reason : FaultReason) : Prop where
  mapUnit : t.mapUnit = { y.mapUnit with claims := t.mapUnit.claims }
  currentPage : (t.engine i).currentPage = none
  position : (t.engine i).position = ⟨v, 0⟩
  counted : (t.engine i).counters.faultsTaken = saturatingAdd (y.engine i).counters.faultsTaken 1
  running : (y.engine i).endReason = none →
    (t.engine i).state = .waitFault ∧ (t.engine i).faultRecord = some ⟨v, reason⟩ ∧ (t.port p).gateOpen = true ∧
      (t.port p).fifo = (y.port p).fifo ∧ t.link = y.link.post (some i) (.fault v reason) ∧
      t.mapUnit.claims = y.mapUnit.claims
  stopped : (y.engine i).endReason = some .stopped →
    (t.engine i).endReason = some .stopped ∧ (t.port p).gateOpen = false ∧ (t.port p).fifo = [] ∧
      (t.engine i).counters.wordsDropped = saturatingAdd (y.engine i).counters.wordsDropped (y.port p).fifo.length ∧
      (reason = .absent →
        (t.engine i).state = .done ∧ (t.engine i).faultRecord = none ∧ (t.engine i).activeSlot = none ∧
          t.link = (y.link.post (some i) (.fault v reason)).post (some i) (.streamEnd .stopped ⟨v, 0⟩ none) ∧
          t.mapUnit.claims = y.mapUnit.claims) ∧
      (reason = .poolEmpty →
        (t.engine i).state = .waitFault ∧ (t.engine i).faultRecord = some ⟨v, .poolEmpty⟩ ∧
          t.link = y.link.post (some i) (.fault v reason) ∧
          t.mapUnit.claims = y.mapUnit.claims.filter (fun c => (c.reportOf i).isNone) ++
            [.engine i (.endingSeal (y.mapUnit.claims.findSome? fun c => c.reportOf i))])

theorem LeftWaiting.entry {t : State} (h : LeftWaiting y t i p v reason) (j : StreamId) (u : VPage) :
    t.entry j u = y.entry j u := by
  rw [State.entry, h.mapUnit, State.entry]

theorem LeftWaiting.frame {t : State} (h : LeftWaiting y t i p v reason) (f : FrameId) : t.frame f = y.frame f := by
  rw [State.frame, h.mapUnit, State.frame]

theorem leftWaiting_running (running : (y.engine i).endReason = none) (port : (y.engine i).port = some p) :
    LeftWaiting y (y.enterFault i v reason) i p v reason := by
  rw [enterFault_opened running port]
  constructor
  case mapUnit => rfl
  case running =>
    rw [engine_ownWork_self, port_ownWork]
    exact fun _ => ⟨rfl, rfl, rfl, rfl, rfl, rfl⟩
  case stopped => exact fun stopped => by simp [running] at stopped
  case currentPage => exact congrArg Engine.currentPage engine_ownWork_self
  case position => exact congrArg Engine.position engine_ownWork_self
  case counted => exact congrArg (fun e : Engine => e.counters.faultsTaken) engine_ownWork_self

theorem leftWaiting_stopped (stopping : (y.engine i).state = .stopping)
    (stopped : (y.engine i).endReason = some .stopped) (port : (y.engine i).port = some p) :
    LeftWaiting y (y.enterFault i v reason) i p v reason := by
  cases reason with
  | absent =>
    rw [enterFault_drain_absent stopping stopped port]
    constructor
    case mapUnit => rfl
    case running => exact fun running => by simp [running] at stopped
    case stopped =>
      rw [engine_ownWork_self, port_ownWork]
      exact fun _ => ⟨rfl, rfl, rfl, rfl, fun _ => ⟨rfl, rfl, rfl, rfl, rfl⟩, nofun⟩
    case currentPage => exact congrArg Engine.currentPage engine_ownWork_self
    case position => exact congrArg Engine.position engine_ownWork_self
    case counted => exact congrArg (fun e : Engine => e.counters.faultsTaken) engine_ownWork_self
  | poolEmpty =>
    rw [enterFault_drain_poolEmpty stopping stopped port]
    constructor
    case mapUnit => rfl
    case running => exact fun running => by simp [running] at stopped
    case stopped =>
      rw [engine_ownWork_self, port_ownWork]
      exact fun _ => ⟨rfl, rfl, rfl, rfl, nofun, fun _ => ⟨rfl, rfl, rfl, rfl⟩⟩
    case currentPage => exact congrArg Engine.currentPage engine_ownWork_self
    case position => exact congrArg Engine.position engine_ownWork_self
    case counted => exact congrArg (fun e : Engine => e.counters.faultsTaken) engine_ownWork_self

theorem ClaimsPage.leftWaiting (h : ClaimsPage (y.engine i)) (port : (y.engine i).port = some p) :
    LeftWaiting y (y.enterFault i v reason) i p v reason := by
  rcases h with ⟨_, running⟩ | ⟨stopping, stopped⟩
  · exact leftWaiting_running running port
  · exact leftWaiting_stopped stopping stopped port

end ClaimWaits

/-! ### A write claim that gives its stream a frame (R102 to R105) -/

section ClaimGives

variable {s y : State} {i : StreamId} {p : PortId} {v : VPage} {f g : FrameId} {before : Cache} {queue : List FrameId}

/-- A state in which a frame is ready for the stream that is about to be given it (R105): named by the page, empty,
with the stream as its writer. -/
structure FrameReady (s y : State) (i : StreamId) (v : VPage) (f : FrameId) (before : Cache) : Prop where
  engine : y.engine i = { s.engine i with cache := before }
  ports : y.ports = s.ports
  claims : y.mapUnit.claims = s.mapUnit.claims
  named : y.entry i v = some ⟨f, .readWrite⟩
  writer : (y.frame f).writer = some i
  fill : (y.frame f).fill = 0
  unsealed : (y.frame f).isSealed = false

/-- What a claim changes that gives its stream the frame `f`, in any state but WAIT_FAULT (R105). -/
structure GivenFrame (s t : State) (i : StreamId) (v : VPage) (f : FrameId) (before : Cache) : Prop where
  engine : t.engine i =
    { s.engine i with
      cache := cacheInstall before v f .readWrite, currentPage := some ⟨v, f⟩, position := ⟨v, 0⟩, faultRecord := none }
  ports : t.ports = s.ports
  claims : t.mapUnit.claims = s.mapUnit.claims
  named : t.entry i v = some ⟨f, .readWrite⟩
  writer : (t.frame f).writer = some i
  fill : (t.frame f).fill = 0
  unsealed : (t.frame f).isSealed = false

theorem stateGivenFrame_kept {state : StreamState} {ending : Option EndReason} (outside : state ≠ .waitFault) :
    stateGivenFrame state ending = state := by
  cases state with
  | waitFault => contradiction
  | idle | ready | running | paused | waitData | stopping | done | failed => rfl

theorem FrameReady.given (h : FrameReady s y i v f before) (outside : (s.engine i).state ≠ .waitFault) :
    GivenFrame s (y.giveFrame i v f .readWrite) i v f before where
  engine := by rw [giveFrame_engine, h.engine, stateGivenFrame_kept outside]
  ports := by
    rw [giveFrame_kept (by rw [h.engine]; exact fun waiting => outside waiting.1)]
    exact h.ports
  claims := by rw [giveFrame_mapUnit, h.claims]
  named := by rw [entry_giveFrame, h.named]
  writer := by rw [frame_giveFrame, h.writer]
  fill := by rw [frame_giveFrame, h.fill]
  unsealed := by rw [frame_giveFrame, h.unsealed]

/-- R102: an absent page is given the head of the queue, issued and named. -/
def allocated (s : State) (i : StreamId) (v : VPage) (f : FrameId) : State :=
  (s.issueFromQueue f (some i)).setEntry i v (some ⟨f, .readWrite⟩)

theorem writeClaim_allocates (absent : s.entry i v = none) (policy : (s.engine i).faultPolicy = some .allocate)
    (head : s.mapUnit.freeQueue = f :: queue) :
    s.writeClaim i v = (allocated s i v f).giveFrame i v f .readWrite := by
  rw [State.writeClaim, head, List.head?_cons, decideWrite_allocate absent policy]
  rfl

theorem frame_allocated :
    (allocated s i v f).frame f = { (s.frame f).renewed (some i) with state := .bound, refcount := 1 } := by
  simp [allocated, State.issueFromQueue, State.issue]

theorem freeQueue_allocated (head : s.mapUnit.freeQueue = f :: queue) :
    (allocated s i v f).mapUnit.freeQueue = queue := by
  simp [allocated, State.issueFromQueue, State.issue, head]

theorem frameReady_allocated : FrameReady s (allocated s i v f) i v f (s.engine i).cache where
  engine := by simp [allocated, State.issueFromQueue, State.issue]
  ports := by simp [allocated, State.issueFromQueue, State.issue]
  claims := by simp [allocated, State.issueFromQueue, State.issue]
  named := entry_setEntry_self ..
  writer := by rw [frame_allocated]; rfl
  fill := by rw [frame_allocated]; rfl
  unsealed := by rw [frame_allocated]; rfl

/-- R103, R109: a frame that keeps its page and its queue place is written anew. -/
theorem frameReady_setFrame {r : FrameRecord} (present : s.entry i v = some ⟨f, .readWrite⟩) (writer : r.writer = some i)
    (fill : r.fill = 0) (unsealed : r.isSealed = false) :
    FrameReady s (s.setFrame f r) i v f (s.engine i).cache where
  engine := rfl
  ports := rfl
  claims := rfl
  named := present
  writer := by rw [frame_setFrame_self, writer]
  fill := by rw [frame_setFrame_self, fill]
  unsealed := by rw [frame_setFrame_self, unsealed]

/-- R104: the page is detached from the shared frame `f` onto the head `g` of the queue. -/
def detached (s : State) (i : StreamId) (v : VPage) (f g : FrameId) : State :=
  (allocated (s.purge i v 1) i v g).setFrame f { s.frame f with refcount := (s.frame f).refcount - 1 }

theorem writeClaim_detached (present : s.entry i v = some ⟨f, .readWrite⟩) (unheld : (s.frame f).hostHold = false)
    (used : Used s f) (shared : 2 ≤ (s.frame f).refcount) (head : s.mapUnit.freeQueue = g :: queue) (apart : g ≠ f) :
    s.writeClaim i v = (detached s i v f g).giveFrame i v g .readWrite := by
  have same : (allocated (s.purge i v 1) i v g).frame f = s.frame f := by
    simp [allocated, State.issueFromQueue, State.issue, frame_setFrame_other _ _ _ _ apart]
  rw [State.writeClaim, head, List.head?_cons, decideWrite_detach present unheld used shared, detached, ← same]
  rfl

theorem frameReady_detached (apart : g ≠ f) :
    FrameReady s (detached s i v f g) i v g (cacheDrop (s.engine i).cache v 1) := by
  have ready : FrameReady (s.purge i v 1) (allocated (s.purge i v 1) i v g) i v g ((s.purge i v 1).engine i).cache :=
    frameReady_allocated
  have purged : (s.purge i v 1).engine i = { s.engine i with cache := cacheDrop (s.engine i).cache v 1 } :=
    engine_setEngine_self ..
  have frame : (detached s i v f g).frame g = (allocated (s.purge i v 1) i v g).frame g :=
    frame_setFrame_other _ _ _ _ apart.symm
  constructor
  case engine => exact (ready.engine.trans (by rw [purged]) :)
  case ports => exact ready.ports
  case claims => exact ready.claims
  case named => exact ready.named
  case writer => rw [frame, ready.writer]
  case fill => rw [frame, ready.fill]
  case unsealed => rw [frame, ready.unsealed]

end ClaimGives

/-! ### The write claim by its table (R101) -/

section ClaimTable

variable {s : State} {i : StreamId} {v : VPage} {rest : List Claim}

theorem exec_writeClaim (h : s.ClaimNext i (.write v) rest) :
    exec (.writeClaim i) s = .next ((s.setClaims rest).writeClaim i v) := by
  show execWriteClaim i s = _
  rw [execWriteClaim, takeEngineClaim_next h, claimTaken_of_next h]
  rfl

theorem writeClaim_waitsForAFrame (absent : s.entry i v = none) (policy : (s.engine i).faultPolicy = some .allocate)
    (empty : s.mapUnit.freeQueue = []) :
    s.writeClaim i v = (s.setWaiters (s.mapUnit.waiters ++ [i])).enterFault i v .poolEmpty := by
  have decides : s.decideWrite i v none = .waitPool := by simp [State.decideWrite, absent, policy]
  rw [State.writeClaim, empty, List.head?_nil, decides]
  rfl

theorem writeClaim_waitsForTheHost (absent : s.entry i v = none) (policy : (s.engine i).faultPolicy = some .host) :
    s.writeClaim i v = s.enterFault i v .absent := by
  rw [State.writeClaim, decideWrite_host absent policy]
  rfl

/-- Settles O56, line by line of the table: in each the stream is given a frame, is left waiting, has its
claim set aside, or fails. -/
theorem writeClaimFollowsItsTable : Obligations.WriteClaimFollowsItsTable := by
  intro s i p v rest h port claims
  let x := s.setClaims rest
  have gives : ∀ {y f before}, x.writeClaim i v = State.giveFrame y i v f .readWrite → FrameReady x y i v f before →
      GivenFrame x (x.writeClaim i v) i v f before := fun same ready =>
    same ▸ ready.given (ClaimsPage.not_waiting claims)
  have leaves : ∀ {reason ws}, x.writeClaim i v = (x.setWaiters ws).enterFault i v reason →
      LeftWaiting (x.setWaiters ws) (x.writeClaim i v) i p v reason := fun same =>
    same ▸ ClaimsPage.leftWaiting (y := x.setWaiters _) claims port
  refine ⟨_, exec_writeClaim h, (inner_writeClaim x i v).store,
    fun j u other => entry_applyWrite_elsewhere other _ _, ?_⟩
  intro dropped given waits
  have reads_given : ∀ {f before}, GivenFrame x (x.writeClaim i v) i v f before → given f before := fun g =>
    ⟨(congrArg Engine.state g.engine :), congrArg Engine.currentPage g.engine, congrArg Engine.position g.engine,
      congrArg Engine.cache g.engine, g.writer, g.named, g.fill, g.unsealed,
      congrArg (fun ports : Vector Port 4 => ports[p]) g.ports, g.claims⟩
  have reads_waits : ∀ {reason ws}, LeftWaiting (x.setWaiters ws) (x.writeClaim i v) i p v reason → waits reason :=
    fun w => ⟨w.currentPage, w.position, w.entry i v, w.frame, w.counted, w.running, w.stopped⟩
  have waiters : ∀ {reason ws}, LeftWaiting (x.setWaiters ws) (x.writeClaim i v) i p v reason →
      (x.writeClaim i v).mapUnit.waiters = ws := fun w => by rw [w.mapUnit]; rfl
  refine ⟨fun f queue absent policy head => ?_, fun absent policy empty => ?_, fun absent policy => ?_,
    fun f access present hold => ?_, fun f present unheld => ?_, fun f present unheld => ?_⟩
  · have same := writeClaim_allocates (s := x) absent policy head
    refine ⟨reads_given (gives same frameReady_allocated), ?_, ?_⟩
    · rw [same, giveFrame_mapUnit, freeQueue_allocated (s := x) head]
    · rw [same, frame_giveFrame, frame_allocated]
      exact ⟨rfl, rfl, rfl⟩
  · have w := leaves (writeClaim_waitsForAFrame (s := x) absent policy empty)
    exact ⟨reads_waits w, waiters w⟩
  · have w := leaves (ws := s.mapUnit.waiters) (writeClaim_waitsForTheHost (s := x) absent policy)
    exact ⟨reads_waits w, waiters w⟩
  · exact writeClaim_setAside (s := x) present hold
  · rw [writeClaim_fails (s := x) present unheld, enterFailed_bound (s := x) port, engine_post,
      engine_setEngine_self, port_post, port_setEngine, port_setPort_self]
    exact ⟨rfl, rfl, rfl, rfl, rfl, rfl, rfl, rfl, rfl, rfl⟩
  · refine ⟨fun fresh => ?_, fun used alone => ?_, fun n g queue used shared head apart => ?_,
      fun n used shared empty => ?_⟩
    · have same := writeClaim_writesInPlace (s := x) present unheld fresh
      obtain ⟨unsealed, empty, _⟩ := fresh
      refine ⟨reads_given (gives same (frameReady_setFrame present rfl empty unsealed)), ?_⟩
      rw [same, frame_giveFrame, frame_setFrame_self]
      rfl
    · have same := writeClaim_reuses (s := x) present unheld used (le_of_eq alone)
      refine ⟨reads_given (gives same (frameReady_setFrame present rfl rfl rfl)), ?_⟩
      rw [same, frame_giveFrame, frame_setFrame_self]
      rfl
    · have many : 2 ≤ (x.frame f).refcount := by rw [frame_setClaims, shared]; omega
      have d := writeClaim_detaches (s := x) present unheld used many head apart
      refine ⟨reads_given (gives (writeClaim_detached (s := x) present unheld used many head apart)
        (frameReady_detached apart)), ?_, d.freeQueue, ?_⟩
      · rw [d.left, frame_setClaims, shared]
        rfl
      · rw [d.renewed]
        exact ⟨rfl, rfl, rfl⟩
    · have many : 2 ≤ (x.frame f).refcount := by rw [frame_setClaims, shared]; omega
      have w := leaves (writeClaim_waitsForTheQueue (s := x) present unheld used many empty)
      exact ⟨reads_waits w, waiters w⟩

end ClaimTable

end Sys2Proof.Proofs

namespace Sys2Proof.Proofs

open Sys2Proof.Machine Sys2Proof.Laws

/-! ### ARM (R76) -/

section Arm

variable {s : State} {m : Message} {rest : List Message} {i : StreamId} {slot : SlotName} {d : Descriptor}

theorem exec_arm (h : s.AtEngine i (.arm i slot d) m rest) : exec (.arm i slot d) s = .next (s.armSlot i slot d) :=
  takeStep_due (commandDue_at h) fun s => s.armSlot i slot d

/-- R76, step 3: the descriptors with pages that do not fit the stream. -/
theorem descriptorFits_false_iff {e : Engine} (pages : 1 ≤ d.count) :
    e.descriptorFits d = false ↔
      (e.direction = some .replay ∧ d.mode = .loop ∧ e.releasePolicy = some .release) ∨
        (e.direction = some .replay ∧ 0 < d.postTrigger) ∨ (0 < d.postTrigger ∧ d.mode = .once) ∨
        d.count ≤ d.postTrigger := by
  have many : d.count ≤ d.postTrigger ↔ ¬ d.postTrigger ≤ d.count - 1 := by omega
  rw [many]
  simp only [Engine.descriptorFits, Bool.and_eq_false_iff, Bool.not_eq_false', Bool.and_eq_true, Bool.or_eq_true,
    beq_iff_eq, decide_eq_true_eq, decide_eq_false_iff_not]
  tauto

theorem armSlot_badState (queue : s.command.queue = m :: rest)
    (still : (s.engine i).state = .idle ∨ (s.engine i).state = .failed) :
    s.armSlot i slot d = s.answered m rest [0x05] := by
  rw [State.armSlot, if_pos still, refuse_answered queue]
  rfl

theorem armSlot_slotBusy (queue : s.command.queue = m :: rest)
    (opened : ¬ ((s.engine i).state = .idle ∨ (s.engine i).state = .failed))
    (active : (s.engine i).activeSlot = some slot) : s.armSlot i slot d = s.answered m rest [0x11] := by
  rw [State.armSlot, if_neg opened, if_pos active, refuse_answered queue]
  rfl

theorem armSlot_badCombination (queue : s.command.queue = m :: rest)
    (opened : ¬ ((s.engine i).state = .idle ∨ (s.engine i).state = .failed))
    (passive : (s.engine i).activeSlot ≠ some slot) (pages : 1 ≤ d.count)
    (unfit : (s.engine i).descriptorFits d = false) : s.armSlot i slot d = s.answered m rest [0x06] := by
  rw [State.armSlot, if_neg opened, if_neg passive, if_neg (Nat.one_le_iff_ne_zero.mp pages), if_pos unfit,
    refuse_answered queue]
  rfl

/-- A slot rewritten is answered with what it held. -/
theorem armed_answered (queue : s.command.queue = m :: rest) (x : Option Descriptor) :
    (s.setEngine i ((s.engine i).setSlot slot x)).produceReply (armPayload ((s.engine i).slot slot)) =
      (s.setEngine i ((s.engine i).setSlot slot x)).answered m rest
        [0x00, if ((s.engine i).slot slot).isSome then 0x01 else 0x00] :=
  produceReply_answered (s := s.setEngine i ((s.engine i).setSlot slot x)) queue _

theorem armSlot_empties (queue : s.command.queue = m :: rest)
    (opened : ¬ ((s.engine i).state = .idle ∨ (s.engine i).state = .failed))
    (passive : (s.engine i).activeSlot ≠ some slot) (pageless : d.count = 0) :
    s.armSlot i slot d =
      (s.setEngine i ((s.engine i).setSlot slot none)).answered m rest
        [0x00, if ((s.engine i).slot slot).isSome then 0x01 else 0x00] := by
  rw [State.armSlot, if_neg opened, if_neg passive, if_pos pageless, armed_answered queue]

theorem armSlot_fills (queue : s.command.queue = m :: rest)
    (opened : ¬ ((s.engine i).state = .idle ∨ (s.engine i).state = .failed))
    (passive : (s.engine i).activeSlot ≠ some slot) (pages : 1 ≤ d.count)
    (fit : ¬ (s.engine i).descriptorFits d = false) :
    s.armSlot i slot d =
      (s.setEngine i ((s.engine i).setSlot slot (some d))).answered m rest
        [0x00, if ((s.engine i).slot slot).isSome then 0x01 else 0x00] := by
  rw [State.armSlot, if_neg opened, if_neg passive, if_neg (Nat.one_le_iff_ne_zero.mp pages), if_neg fit,
    armed_answered queue]

/-- Settles O36: the three checks in their order, and the slot emptied or filled. -/
theorem armFillsTheSlot : Obligations.ArmFillsTheSlot := by
  intro s m rest i slot d h unfit held
  have run := exec_arm h
  refine ⟨fun still => run.trans (congrArg _ (armSlot_badState h.queue still)), fun opened unfailed => ?_⟩
  have opened := not_or.mpr ⟨opened, unfailed⟩
  refine ⟨fun active => run.trans (congrArg _ (armSlot_slotBusy h.queue opened active)), fun passive => ?_⟩
  exact ⟨fun pageless => run.trans (congrArg _ (armSlot_empties h.queue opened passive pageless)),
    fun pages bad => run.trans
      (congrArg _ (armSlot_badCombination h.queue opened passive pages ((descriptorFits_false_iff pages).mpr bad))),
    fun pages fit => run.trans
      (congrArg _ (armSlot_fills h.queue opened passive pages ((descriptorFits_false_iff pages).not.mpr fit)))⟩

end Arm

end Sys2Proof.Proofs

namespace Sys2Proof.Proofs

open Sys2Proof.Machine Sys2Proof.Laws

/-! ### Triggers (R84 to R87) -/

section Triggers

variable {s : State} {e : Engine} {m : Message} {rest : List Message} {i : StreamId} {p : PortId} {d : Descriptor}

theorem takesTrigger_iff {state : StreamState} :
    state.takesTrigger = true ↔ state ∈ [.running, .paused, .waitFault] := by
  cases state <;> simp [StreamState.takesTrigger]

theorem triggerRefusal_code (state : StreamState) :
    statusCode state.triggerRefusal = if state ∈ [.idle, .ready, .done, .failed] then 0x05 else 0x0F := by
  cases state <;> rfl

/-- R85: a trigger is taken by a capture stream that flows, in a LOOP segment with post-trigger pages. -/
theorem triggerTaken_iff :
    e.triggerTaken = true ↔
      e.direction = some .capture ∧ e.state ∈ [.running, .paused, .waitFault] ∧ e.endReason = none ∧
        e.triggerRecord = none ∧ ∃ d, e.activeDescriptor = some d ∧ d.mode = .loop ∧ 0 < d.postTrigger := by
  simp only [Engine.triggerTaken, Bool.and_eq_true, beq_iff_eq, takesTrigger_iff, Option.isNone_iff_eq_none,
    Option.any_eq_true, decide_eq_true_eq, and_assoc]

theorem triggerTaken_false
    (against : e.direction ≠ some .capture ∨ e.state ∉ [.running, .paused, .waitFault] ∨ e.endReason ≠ none ∨
      e.triggerRecord ≠ none ∨ ∀ d, e.activeDescriptor = some d → d.mode = .once ∨ d.postTrigger = 0) :
    ¬ e.triggerTaken = true := by
  rw [triggerTaken_iff]
  rintro ⟨capture, flows, unended, first, d, active, looped, post⟩
  rcases against with other | still | ended | marked | unfit
  · exact other capture
  · exact still flows
  · exact ended unended
  · exact marked first
  · rcases unfit d active with once | none_after
    · simp [looped] at once
    · omega

theorem exec_trigger (h : s.AtEngine i (.trigger i) m rest) : exec (.trigger i) s = .next (s.triggerStream i) :=
  takeStep_due (commandDue_at h) fun s => s.triggerStream i

theorem triggerStream_taken (taken : (s.engine i).triggerTaken = true) :
    s.triggerStream i =
      (s.takeTrigger i).produceReply (triggerPayload (s.triggerPosition i) (s.engine i).pagesAtTrigger) :=
  if_pos taken

/-- R84, R85: a trigger that is not taken is answered by the stream's state. -/
theorem triggerStream_refused (queue : s.command.queue = m :: rest) (against : ¬ (s.engine i).triggerTaken = true) :
    s.triggerStream i =
      s.answered m rest [if (s.engine i).state ∈ [.idle, .ready, .done, .failed] then 0x05 else 0x0F] := by
  rw [State.triggerStream, if_neg against, refuse_answered queue, triggerRefusal_code]

/-- R86: the words in the FIFO and the bytes in flight come before the trigger. -/
theorem triggerPosition_bound (port : (s.engine i).port = some p) (active : (s.engine i).activeDescriptor = some d) :
    s.triggerPosition i =
      if (s.engine i).position.offset + s.bytesInFlight i + 2 * (s.port p).fifo.length < 4096 then
        ⟨(s.engine i).position.vpage,
          (s.engine i).position.offset + s.bytesInFlight i + 2 * (s.port p).fifo.length⟩
      else
        ⟨if (s.engine i).position.vpage.val + 1 = d.first.val + d.count then d.first
          else (s.engine i).position.vpage + 1,
          (s.engine i).position.offset + s.bytesInFlight i + 2 * (s.port p).fifo.length - 4096⟩ := by
  simp only [State.triggerPosition, fifoOf_bound port, Engine.nextPage, active, nextPageOf_eq]

theorem pagesAtTrigger_active (active : e.activeDescriptor = some d) : e.pagesAtTrigger = d.postTrigger + 1 := by
  simp [Engine.pagesAtTrigger, active]

/-- An engine that has taken a trigger at a position (R87). -/
def triggered (e : Engine) (d : Descriptor) (at_ : Position) : Engine :=
  { e with triggerRecord := some at_, pagesToGo := some (d.postTrigger + 1) }

theorem takeTrigger_active (active : (s.engine i).activeDescriptor = some d) {at_ : Position}
    (position : s.triggerPosition i = at_) :
    s.takeTrigger i = (s.setEngine i (triggered (s.engine i) d at_)).post (some i) (.triggered at_) := by
  rw [State.takeTrigger, position, State.modEngine, pagesAtTrigger_active active]
  rfl

/-! #### A pending edge (R84) -/

theorem edgePending_bound (port : (s.engine i).port = some p) : s.edgePending i = (s.port p).edgePending := by
  simp [State.edgePending, portOf_bound port]

/-- The state in which the edge at a port is no longer pending. -/
def edgeCleared (s : State) (p : PortId) : State := s.setPort p { s.port p with edgePending := false }

theorem exec_pendingEdgeTaken (free : s.engineFree i = true) (port : (s.engine i).port = some p)
    (pending : (s.port p).edgePending = true) :
    exec (.pendingEdgeTaken i) s = .next
      (if (s.engine i).triggerTaken then (edgeCleared s p).takeTrigger i else edgeCleared s p) := by
  have due : (s.engineFree i && s.edgePending i) = true := by rw [free, edgePending_bound port, pending]; rfl
  refine (takeStep_due due fun s => s.takeEdge i).trans (congrArg _ ?_)
  rw [State.takeEdge, modPortOf_bound port]
  rfl

theorem triggerPosition_edgeCleared (port : (s.engine i).port = some p) :
    (edgeCleared s p).triggerPosition i = s.triggerPosition i := by
  have words : (edgeCleared s p).fifoOf i = s.fifoOf i := by
    rw [edgeCleared, fifoOf_setPort port, fifoOf_bound port]
  simp only [State.triggerPosition, words]
  rfl

/-- Settles O41: the command and the pending edge, for a trigger that is taken and for one that is not. -/
theorem triggerMarksThePositionOrChangesNothing : Obligations.TriggerMarksThePositionOrChangesNothing := by
  refine ⟨fun s m rest i p d capture flows unended first port active looped post => ?_, fun s m rest i against => ?_⟩
  · intro sum v next at_ marked
    have taken : (s.engine i).triggerTaken = true :=
      triggerTaken_iff.mpr ⟨capture, flows, unended, first, d, active, looped, post⟩
    have position : s.triggerPosition i = at_ := triggerPosition_bound port active
    refine ⟨fun h => ?_, fun free pending => ?_⟩
    · rw [exec_trigger h, triggerStream_taken taken, takeTrigger_active active position, position,
        pagesAtTrigger_active active]
      exact congrArg _ (produceReply_answered (s := marked s) h.queue _)
    · rw [exec_pendingEdgeTaken free port pending, if_pos taken,
        takeTrigger_active (s := edgeCleared s p) active ((triggerPosition_edgeCleared port).trans position)]
      rfl
  · have refused := triggerTaken_false against
    refine ⟨fun h => (exec_trigger h).trans (congrArg _ (triggerStream_refused h.queue refused)),
      fun p free port pending => ?_⟩
    rw [exec_pendingEdgeTaken free port pending, if_neg refused]
    rfl

end Triggers

end Sys2Proof.Proofs

namespace Sys2Proof.Proofs

open Sys2Proof.Machine Sys2Proof.Laws

/-! ### The signals to a stream in WAIT_DATA (R115 to R117) -/

section Signals

variable {s t : State} {i : StreamId} {f : FrameId} {v : VPage} {others : List FrameId}

theorem exec_waitDataSignal (free : s.engineFree i = true) : exec (.waitDataSignal i) s = .next (s.takeSignal i) :=
  takeStep_due free fun s => s.takeSignal i

theorem holdsFrame_iff {e : Engine} :
    e.currentPage.map (fun c => c.frame) = some f ↔ ∃ v, e.currentPage = some ⟨v, f⟩ := by
  constructor
  · intro held
    obtain ⟨⟨v, g⟩, current, same⟩ := Option.map_eq_some_iff.mp held
    exact ⟨v, same ▸ current⟩
  · rintro ⟨v, current⟩
    rw [current]
    rfl

/-- R116: the oldest signal is taken off, and heard by a stream in WAIT_DATA on its frame. -/
theorem takeSignal_cons (signalled : (s.engine i).signals = f :: others) :
    s.takeSignal i =
      if (s.engine i).state = .waitData ∧ ∃ v, (s.engine i).currentPage = some ⟨v, f⟩ then
        (s.setEngine i { s.engine i with signals := others, state := .running }).evaluatePage i
      else s.setEngine i { s.engine i with signals := others } := by
  rw [State.takeSignal, signalled]
  simp only [State.modEngine, engine_setEngine_self, setEngine_setEngine, holdsFrame_iff]

theorem exec_waitDataSignal_passes (free : s.engineFree i = true) (signalled : (s.engine i).signals = f :: others)
    (deaf : (s.engine i).state ≠ .waitData ∨ ∀ v, (s.engine i).currentPage ≠ some ⟨v, f⟩) :
    exec (.waitDataSignal i) s = .next (s.setEngine i { s.engine i with signals := others }) := by
  rw [exec_waitDataSignal free, takeSignal_cons signalled, if_neg]
  rintro ⟨waits, v, current⟩
  rcases deaf with elsewhere | other
  · exact elsewhere waits
  · exact other v current

theorem exec_waitDataSignal_evaluates (free : s.engineFree i = true) (signalled : (s.engine i).signals = f :: others)
    (waits : (s.engine i).state = .waitData) (current : (s.engine i).currentPage = some ⟨v, f⟩)
    (evaluates : (s.setEngine i { s.engine i with signals := others, state := .running }).evaluatePage i = t) :
    exec (.waitDataSignal i) s = .next t := by
  rw [exec_waitDataSignal free, takeSignal_cons signalled, if_pos ⟨waits, v, current⟩, evaluates]

/-- Settles O59: a signal that is not heard; and one that is, by what the page's fill look then finds. -/
theorem signalWakesTheReader : Obligations.SignalWakesTheReader := by
  intro s i f others free signalled heard
  refine ⟨exec_waitDataSignal_passes free signalled, fun v waits current => ?_⟩
  let running : Engine := { heard with state := .running }
  have evaluates : ∀ t, (s.setEngine i running).evaluatePage i = t → exec (.waitDataSignal i) s = .next t :=
    fun t => exec_waitDataSignal_evaluates free signalled waits current
  refine ⟨fun below => ?_, fun atFill opened => ?_, fun atFill closed toGo => ?_⟩
  · exact evaluates _ (evaluatePage_below (e := running) rfl current below)
  · have waiting : { heard with lookFill := none, due := .none } =
        { running with state := .waitData, lookFill := none, due := .none } := by rw [← waits]
    rw [waiting]
    exact evaluates _ (evaluatePage_open (e := running) current atFill opened)
  · intro left
    have counted : { running.countLeave v with state := .running, lookFill := none, due := .none } = left :=
      countLeave_running (e := running) rfl toGo v
    have leaves : ∀ t, (s.setEngine i running).leaveReplayPage i v = t → exec (.waitDataSignal i) s = .next t :=
      fun t leave => evaluates t ((evaluatePage_sealed (e := running) current atFill closed).trans leave)
    refine ⟨fun release => leaves _ ?_, fun d keep active => ?_⟩
    · rw [leaveReplayPage_release (e := running) release, counted]
    · intro last inside
      refine leaves _ ?_
      rw [leaveReplayPage_keep (e := running) keep, counted,
        afterReplayLeave_next (e := left) (d := d) active toGo inside, nextPageOf_eq]

end Signals

end Sys2Proof.Proofs

namespace Sys2Proof.Proofs

open Sys2Proof.Machine Sys2Proof.Laws

/-! ### What leaves the arbiter as it is -/

section ArbiterKept

variable (s : State) (i : StreamId)

@[simp] theorem produceReply_arbiter (payload : List Byte) : (s.produceReply payload).arbiter = s.arbiter := by
  unfold State.produceReply; split <;> rfl
@[simp] theorem refuse_arbiter (status : Status) : (s.refuse status).arbiter = s.arbiter := produceReply_arbiter ..
@[simp] theorem replyOk_arbiter : s.replyOk.arbiter = s.arbiter := produceReply_arbiter ..
@[simp] theorem storeWrite_arbiter (f : FrameId) (o : Nat) (bytes : List Byte) :
    (s.storeWrite f o bytes).arbiter = s.arbiter := rfl

/-! #### Endings and faults -/

@[simp] theorem discardCapture_arbiter : (s.discardCapture i).arbiter = s.arbiter := by simp [State.discardCapture]
@[simp] theorem enterDone_arbiter (r : EndReason) : (s.enterDone i r).arbiter = s.arbiter := by simp [State.enterDone]
@[simp] theorem enterFailed_arbiter (v : VPage) : (s.enterFailed i v).arbiter = s.arbiter := by
  simp [State.enterFailed]
@[simp] theorem sendSeal_arbiter (c : Option Nat → EngineClaim) : (s.sendSeal i c).arbiter = s.arbiter := rfl
@[simp] theorem reportFill_arbiter (f : FrameId) (o : Nat) : (s.reportFill i f o).arbiter = s.arbiter := by
  unfold State.reportFill; split <;> rfl
@[simp] theorem stopInFault_arbiter (r : EndReason) : (s.stopInFault i r).arbiter = s.arbiter := by
  unfold State.stopInFault; dsimp only; split <;> simp
@[simp] theorem enterFault_arbiter (v : VPage) (r : FaultReason) : (s.enterFault i v r).arbiter = s.arbiter := by
  unfold State.enterFault; dsimp only; split <;> simp

/-! #### Frames and the pool -/

@[simp] theorem purge_arbiter (first : VPage) (count : Nat) : (s.purge i first count).arbiter = s.arbiter := rfl
@[simp] theorem issueFromQueue_arbiter (f : FrameId) (w : Option StreamId) :
    (s.issueFromQueue f w).arbiter = s.arbiter := by
  simp [State.issueFromQueue, State.issue]
@[simp] theorem issueFor_arbiter (f : FrameId) (handed : Bool) : (s.issueFor i f handed).arbiter = s.arbiter := by
  unfold State.issueFor; split <;> simp [State.issue]
@[simp] theorem returnToQueue_arbiter (f : FrameId) : (s.returnToQueue f).arbiter = s.arbiter := by
  unfold State.returnToQueue; dsimp only; split <;> rfl
@[simp] theorem setFill_arbiter (f : FrameId) (n : Nat) : (s.setFill f n).arbiter = s.arbiter := by
  unfold State.setFill; dsimp only; split <;> rfl
@[simp] theorem sealFrame_arbiter (f : FrameId) : (s.sealFrame f).arbiter = s.arbiter := by
  unfold State.sealFrame; split <;> rfl
@[simp] theorem sealAt_arbiter (f : FrameId) (carried : Option Nat) : (s.sealAt f carried).arbiter = s.arbiter := by
  unfold State.sealAt; split <;> simp
@[simp] theorem applyWrite_arbiter (v : VPage) (handed : Bool) (d : WriteDecision) :
    (s.applyWrite i v handed d).arbiter = s.arbiter := by
  cases d <;> simp [State.applyWrite]
@[simp] theorem writeClaim_arbiter (v : VPage) : (s.writeClaim i v).arbiter = s.arbiter := applyWrite_arbiter ..

@[simp] theorem handOff_arbiter (ws : List StreamId) (f : FrameId) : (s.handOff ws f).arbiter = s.arbiter := by
  induction ws generalizing s with
  | nil => simp [State.handOff]
  | cons w ws ih =>
    unfold State.handOff
    dsimp only
    split
    · simp [ih]
    · split
      · simp [ih]
      · split <;> simp [ih]

@[simp] theorem release_arbiter (f : FrameId) : (s.release f).arbiter = s.arbiter := by
  unfold State.release; dsimp only; split <;> simp

@[simp] theorem releasePages_arbiter (vs : List VPage) : (s.releasePages i vs).state.arbiter = s.arbiter := by
  induction vs generalizing s with
  | nil => rfl
  | cons v vs ih =>
    unfold State.releasePages
    split
    · exact ih s
    · split
      · exact ih s
      · simp [ih]

/-! #### Pages -/

@[simp] theorem sendWrite_arbiter : (s.sendWrite i).arbiter = s.arbiter := rfl
@[simp] theorem evaluateEntry_arbiter : (s.evaluateEntry i).arbiter = s.arbiter := by
  unfold State.evaluateEntry
  split
  · rfl
  · split <;> rfl
@[simp] theorem enterReplayPage_arbiter : (s.enterReplayPage i).arbiter = s.arbiter := by
  unfold State.enterReplayPage; dsimp only; split <;> simp
@[simp] theorem goToNextPage_arbiter : (s.goToNextPage i).arbiter = s.arbiter := rfl
@[simp] theorem enterChained_arbiter : (s.enterChained i).arbiter = s.arbiter := by
  unfold State.enterChained; split <;> rfl
@[simp] theorem enterPage_arbiter : (s.enterPage i).arbiter = s.arbiter := by
  unfold State.enterPage; split <;> simp
@[simp] theorem finishEmptying_arbiter (r : EndReason) : (s.finishEmptying i r).arbiter = s.arbiter := by
  simp [State.finishEmptying]
@[simp] theorem endSegment_arbiter (v : VPage) (r : EndReason) : (s.endSegment i v r).arbiter = s.arbiter := by
  unfold State.endSegment
  split
  · dsimp only
    split <;> simp
  · simp
@[simp] theorem completeSegment_arbiter (v : VPage) : (s.completeSegment i v).arbiter = s.arbiter := by
  unfold State.completeSegment
  split
  · dsimp only
    split
    · split <;> simp
    · simp
  · rfl
@[simp] theorem advancePage_arbiter (v : VPage) : (s.advancePage i v).arbiter = s.arbiter := rfl
@[simp] theorem leaveInDrain_arbiter (v : VPage) : (s.leaveInDrain i v).arbiter = s.arbiter := by
  unfold State.leaveInDrain
  dsimp only
  split
  · simp
  · split <;> simp
@[simp] theorem leaveCapturePage_arbiter (v : VPage) : (s.leaveCapturePage i v).arbiter = s.arbiter := by
  unfold State.leaveCapturePage
  dsimp only
  split
  · simp
  · split <;> simp
@[simp] theorem afterReplayLeave_arbiter (v : VPage) : (s.afterReplayLeave i v).arbiter = s.arbiter := by
  unfold State.afterReplayLeave; dsimp only; split <;> simp
@[simp] theorem leaveReplayPage_arbiter (v : VPage) : (s.leaveReplayPage i v).arbiter = s.arbiter := by
  unfold State.leaveReplayPage; dsimp only; split <;> simp
@[simp] theorem evaluatePage_arbiter : (s.evaluatePage i).arbiter = s.arbiter := by
  unfold State.evaluatePage
  split
  · rfl
  · split <;> simp
@[simp] theorem giveReplayPage_arbiter (v : VPage) (entry : MapEntry) :
    (s.giveReplayPage i v entry).arbiter = s.arbiter := rfl
@[simp] theorem passOver_arbiter (v : VPage) : (s.passOver i v).arbiter = s.arbiter := by
  unfold State.passOver; dsimp only; split <;> simp
@[simp] theorem endWhenDrained_arbiter : (s.endWhenDrained i).arbiter = s.arbiter := by
  unfold State.endWhenDrained; split <;> rfl

/-! #### Claims -/

@[simp] theorem answerRead_arbiter (v : VPage) : (s.answerRead i v).arbiter = s.arbiter := by
  unfold State.answerRead
  split
  · simp
  · split <;> simp
@[simp] theorem continuePageChange_arbiter : (s.continuePageChange i).arbiter = s.arbiter := by
  unfold State.continuePageChange
  split
  · split <;> simp
  · rfl
@[simp] theorem decideRelease_arbiter (v : VPage) : (s.decideRelease i v).arbiter = s.arbiter := by
  unfold State.decideRelease; dsimp only; split <;> simp
@[simp] theorem takeRelease_arbiter (v : VPage) : (s.takeRelease i v).arbiter = s.arbiter := by
  unfold State.takeRelease; dsimp only; split <;> simp
@[simp] theorem takeLeaveSeal_arbiter (f : FrameId) (carried : Option Nat) :
    (s.takeLeaveSeal i f carried).arbiter = s.arbiter := by
  simp [State.takeLeaveSeal]
@[simp] theorem giveUpPlace_arbiter (carried : Option Nat) : (s.giveUpPlace i carried).arbiter = s.arbiter := by
  unfold State.giveUpPlace; dsimp only; split <;> simp
@[simp] theorem endBySeal_arbiter : (s.endBySeal i).arbiter = s.arbiter := by
  unfold State.endBySeal; split <;> simp
@[simp] theorem answerStop_arbiter : (s.answerStop i).arbiter = s.arbiter := by
  unfold State.answerStop; split <;> simp
@[simp] theorem takeSignal_arbiter : (s.takeSignal i).arbiter = s.arbiter := by
  unfold State.takeSignal
  split
  · rfl
  · dsimp only
    split <;> simp
@[simp] theorem retry_arbiter (first : VPage) (count : Nat) : (s.retry i first count).arbiter = s.arbiter := by
  unfold State.retry
  split
  · split
    · split <;> simp
    · rfl
  · rfl
@[simp] theorem decideDeferred_arbiter (d : DeferredClaim) : (s.decideDeferred d).arbiter = s.arbiter := by
  unfold State.decideDeferred; split <;> simp

/-- A fold of steps each of which leaves the arbiter leaves it. -/
theorem foldl_arbiter {α : Type} {f : State → α → State} (same : ∀ u a, (f u a).arbiter = u.arbiter) (l : List α) :
    (l.foldl f s).arbiter = s.arbiter := by
  induction l generalizing s with
  | nil => rfl
  | cons a l ih => exact (ih _).trans (same s a)

/-! #### Map and data commands -/

@[simp] theorem mapPage_arbiter (access : Access) (v : VPage) (frame : Option FrameId) :
    (s.mapPage i access v frame).arbiter = s.arbiter := by
  have mapped : ∀ f, (s.mapFrame i access v f).arbiter = s.arbiter := fun f => by simp [State.mapFrame]
  unfold State.mapPage
  split
  · simp
  · split <;> simp [mapped]
  · split <;> simp [mapped]
@[simp] theorem unmapRange_arbiter (first : VPage) (count : Nat) :
    (s.unmapRange i first count).arbiter = s.arbiter := by
  unfold State.unmapRange; dsimp only; split <;> simp
@[simp] theorem releaseMap_arbiter : (s.releaseMap i).arbiter = s.arbiter := by simp [State.releaseMap]
@[simp] theorem protectRange_arbiter (access : Access) (first : VPage) (count : Nat) :
    (s.protectRange i access first count).arbiter = s.arbiter := by
  have set : ∀ u v, (State.setAccess u i access v).arbiter = u.arbiter := fun _ _ => rfl
  unfold State.protectRange
  split_ifs <;> simp [foldl_arbiter _ set]
@[simp] theorem shareRange_arbiter (j : StreamId) (access : Access) (first second : VPage) (count : Nat) :
    (s.shareRange i j access first second count).arbiter = s.arbiter := by
  have made : ∀ u pages, (State.sharePage u i j access pages).arbiter = u.arbiter := fun u pages => by
    unfold State.sharePage; split <;> rfl
  unfold State.shareRange
  dsimp only
  split_ifs <;> simp [foldl_arbiter _ made]
@[simp] theorem completeWrite_arbiter (x : Transfer) : (s.completeWrite x).arbiter = s.arbiter := by
  simp [State.completeWrite, State.decideAllDeferred, foldl_arbiter _ decideDeferred_arbiter]
@[simp] theorem sealCommand_arbiter (v : VPage) : (s.sealCommand i v).arbiter = s.arbiter := by
  unfold State.sealCommand
  split
  · simp
  · dsimp only
    split <;> simp

/-! #### Bursts that have landed -/

@[simp] theorem answerRestart_arbiter : (s.answerRestart i).arbiter = s.arbiter := by simp [State.answerRestart]
@[simp] theorem afterCapture_arbiter : (s.afterCapture i).arbiter = s.arbiter := by
  unfold State.afterCapture
  split
  · rfl
  · dsimp only
    split <;> simp
@[simp] theorem afterReplay_arbiter (ws : List Word) : (s.afterReplay i ws).arbiter = s.arbiter := by
  unfold State.afterReplay; split <;> simp

/-! #### Stream commands -/

@[simp] theorem openPort_arbiter (d : Direction) (p : PortId) (fault : FaultPolicy) (policy : ReleasePolicy) :
    (s.openPort i d p fault policy).arbiter = s.arbiter := by
  unfold State.openPort; split_ifs <;> simp
@[simp] theorem closeStream_arbiter (releases : Bool) : (s.closeStream i releases).arbiter = s.arbiter := by
  simp only [State.closeStream, State.closeEngine]
  split_ifs <;> simp
@[simp] theorem armSlot_arbiter (name : SlotName) (d : Descriptor) : (s.armSlot i name d).arbiter = s.arbiter := by
  simp only [State.armSlot]
  split_ifs <;> simp
@[simp] theorem startSlot_arbiter (name : SlotName) : (s.startSlot i name).arbiter = s.arbiter := by
  simp only [State.startSlot]
  split_ifs <;> simp
@[simp] theorem resumeStream_arbiter : (s.resumeStream i).arbiter = s.arbiter := by
  have resumed : ∀ u : State, (u.resumeReplay i).arbiter = u.arbiter := fun u => by
    unfold State.resumeReplay; split <;> simp
  simp only [State.resumeStream]
  split_ifs <;> simp [resumed]
@[simp] theorem replyToStop_arbiter (c : HostCommand) : (s.replyToStop i c).arbiter = s.arbiter := by
  unfold State.replyToStop; split <;> simp
@[simp] theorem stopCapture_arbiter : (s.stopCapture i).arbiter = s.arbiter := by
  unfold State.stopCapture; split <;> simp
@[simp] theorem takeTrigger_arbiter : (s.takeTrigger i).arbiter = s.arbiter := rfl
@[simp] theorem triggerStream_arbiter : (s.triggerStream i).arbiter = s.arbiter := by
  unfold State.triggerStream; dsimp only; split <;> simp
@[simp] theorem takeEdge_arbiter : (s.takeEdge i).arbiter = s.arbiter := by
  unfold State.takeEdge; dsimp only; split <;> simp

/-! #### The command unit, the lanes and the link -/

@[simp] theorem takeCommand_arbiter : s.takeCommand.arbiter = s.arbiter := by
  unfold State.takeCommand
  split
  · rfl
  · split
    · simp
    · unfold State.handCommand
      dsimp only
      split <;> rfl
@[simp] theorem sendRestart_arbiter (scope : RestartScope) : (s.sendRestart scope).arbiter = s.arbiter := rfl
@[simp] theorem restart_arbiter (scope : RestartScope) (n : Nat) : (s.restart scope n).arbiter = s.arbiter := by
  have stopped : s.restartMapUnit.arbiter = s.arbiter := foldl_arbiter (f := State.sealForRestart) s (fun _ _ => rfl) _
  cases scope with
  | streams => exact (produceReply_arbiter ..).trans stopped
  | all => exact stopped
@[simp] theorem setTransaction_arbiter (x : TransactionState) : (s.setTransaction x).arbiter = s.arbiter := rfl
@[simp] theorem linkError_arbiter (r : LinkErrorReason) : (s.linkError r).arbiter = s.arbiter := rfl
@[simp] theorem csFall_arbiter : s.csFall.arbiter = s.arbiter := by unfold State.csFall; dsimp only; split <;> rfl
@[simp] theorem csRise_arbiter : s.csRise.arbiter = s.arbiter := by
  unfold State.csRise State.endTransaction
  dsimp only
  split
  · split <;> rfl
  · rfl
@[simp] theorem takeForAdmission_arbiter (m : Message) : (s.takeForAdmission m).arbiter = s.arbiter := by
  unfold State.takeForAdmission
  split
  · split <;> rfl
  · rfl
@[simp] theorem offerWord_arbiter (p : PortId) (w : Word) : (s.offerWord p i w).arbiter = s.arbiter := by
  unfold State.offerWord; dsimp only; split <;> rfl
@[simp] theorem askWord_arbiter (p : PortId) : (s.askWord p i).arbiter = s.arbiter := by
  unfold State.askWord
  dsimp only
  split
  · unfold State.underrun
    split <;> rfl
  · unfold State.afterWord
    split <;> simp
@[simp] theorem completeInit_arbiter : s.completeInit.arbiter = s.arbiter := by
  simp only [State.completeInit, State.commandsReady]
  split
  · simp
  · split <;> rfl

end ArbiterKept

end Sys2Proof.Proofs

namespace Sys2Proof.Machine

open Sys2Proof.Laws Sys2Proof.Proofs

/-! ### Bursts and requests stay short (R132) -/

section ShortBursts

variable {s t : State}

/-- The law of the bursts reads the arbiter alone. -/
theorem State.BurstsOk.of_same (ok : s.BurstsOk) (same : t.arbiter = s.arbiter) : t.BurstsOk :=
  ⟨fun b => same ▸ ok.inFlight b, fun r q => same ▸ ok.waiting r q⟩

/-! #### The four changes of the arbiter (R129 to R131) -/

/-- One requester's request replaced by a short one, or withdrawn. -/
theorem State.BurstsOk.waiting_set (ok : s.BurstsOk) (r : Requester) {request : Option BurstRequest}
    (short : ∀ q, request = some q → q.length ≤ 64) (r' : Requester) (q : BurstRequest)
    (asked : (s.arbiter.requests.set r request)[r'] = some q) : q.length ≤ 64 := by
  by_cases own : r.val = r'.val
  · exact short q (by simpa [Vector.getElem_set, own] using asked)
  · exact ok.waiting r' q (by simpa [Vector.getElem_set, own] using asked)

theorem State.BurstsOk.request (ok : s.BurstsOk) (r : Requester) {q : BurstRequest} (short : q.length ≤ 64) :
    (s.request r q).BurstsOk :=
  ⟨ok.inFlight, ok.waiting_set r fun _ same => Option.some.inj same ▸ short⟩

theorem State.BurstsOk.withdrawRequest (ok : s.BurstsOk) (i : StreamId) : (s.withdrawRequest i).BurstsOk :=
  ⟨ok.inFlight, ok.waiting_set (requesterOf i) nofun⟩

theorem State.BurstsOk.granted (ok : s.BurstsOk) {b : Burst} (short : b.length ≤ 64) : (s.granted b).BurstsOk :=
  ⟨fun _ same => Option.some.inj same ▸ short, ok.waiting_set b.requester nofun⟩

theorem State.BurstsOk.endBurst (ok : s.BurstsOk) : s.endBurst.BurstsOk := ⟨nofun, ok.waiting⟩

/-! #### Requests and grants (R64, R94, R112, R114, R133) -/

theorem captureLength_le (words offset : Nat) : captureLength words offset ≤ 64 := by
  unfold captureLength; omega

theorem Engine.bytesToRead_le (e : Engine) : e.bytesToRead ≤ 64 := by
  unfold Engine.bytesToRead
  split
  · exact min_le_left ..
  · exact Nat.zero_le _

theorem Transfer.nextRequest_length_le (x : Transfer) : x.nextRequest.length ≤ 64 := min_le_left ..

theorem State.BurstsOk.requestBurst (ok : s.BurstsOk) (i : StreamId) {n : Nat} (short : n ≤ 64) (isWrite : Bool) :
    (s.requestBurst i n isWrite).BurstsOk := by
  unfold State.requestBurst
  split
  · exact ok
  · rename_i entry _
    have looked : (s.modEngine i fun e => e.hit entry).BurstsOk := ok.of_same rfl
    exact looked.request _ short

theorem State.BurstsOk.grantCapture (ok : s.BurstsOk) (i : StreamId) (q : BurstRequest) :
    (s.grantCapture i q).BurstsOk := by
  refine (ok.of_same (setFifo_arbiter ..)).granted ?_
  have short := captureLength_le (s.fifoOf i).length (s.engine i).position.offset
  dsimp only
  omega

theorem State.BurstsOk.grantReplay (ok : s.BurstsOk) (i : StreamId) (q : BurstRequest) : (s.grantReplay i q).BurstsOk :=
  (ok.of_same (modEngine_arbiter ..)).granted (min_le_left ..)

/-- A host grant takes the length of the request. -/
theorem State.BurstsOk.grantHost (ok : s.BurstsOk) {q : BurstRequest} (short : q.length ≤ 64) :
    (s.grantHost q).BurstsOk := by
  unfold State.grantHost
  split
  · exact ok
  · dsimp only
    split
    · exact (ok.granted (by exact short)).endBurst.of_same (produceReply_arbiter ..)
    · exact ok.granted (by exact short)

theorem State.BurstsOk.grantTo (ok : s.BurstsOk) (r : Requester) : (s.grantTo r).BurstsOk := by
  unfold State.grantTo
  split
  · exact ok
  · rename_i q asked
    split
    · split
      · exact ok.grantCapture ..
      · exact ok.grantReplay ..
    · exact ok.grantHost (ok.waiting r q asked)

/-! #### Completions -/

theorem State.BurstsOk.completeCapture (ok : s.BurstsOk) (i : StreamId) (b : Burst) :
    (s.completeCapture i b).BurstsOk := by
  have landed : (s.landCapture i b).BurstsOk := (ok.of_same (storeWrite_arbiter ..)).endBurst.of_same rfl
  unfold State.completeCapture
  dsimp only
  split
  · exact landed.of_same (answerRestart_arbiter ..)
  · exact landed.of_same (afterCapture_arbiter ..)

theorem State.BurstsOk.completeReplay (ok : s.BurstsOk) (i : StreamId) (b : Burst) :
    (s.completeReplay i b).BurstsOk := by
  have landed : (s.endBurst.modEngine i fun e => e.advanced b.length).BurstsOk := ok.endBurst.of_same rfl
  unfold State.completeReplay
  dsimp only
  split
  · exact landed.of_same (answerRestart_arbiter ..)
  · exact landed.of_same (afterReplay_arbiter ..)

theorem State.BurstsOk.continueTransfer (ok : s.BurstsOk) (x : Transfer) : (s.continueTransfer x).BurstsOk := by
  have set : (s.setCommand { s.command with transfer := some x }).BurstsOk := ok.of_same rfl
  unfold State.continueTransfer
  dsimp only
  split
  · exact set.request _ x.nextRequest_length_le
  · split
    · exact ok.of_same rfl
    · exact set.of_same (produceReply_arbiter ..)

theorem State.BurstsOk.completeHostBurst (ok : s.BurstsOk) (b : Burst) : (s.completeHostBurst b).BurstsOk := by
  unfold State.completeHostBurst
  split
  · exact ok.endBurst
  · split
    · exact (ok.of_same (storeWrite_arbiter ..)).endBurst.continueTransfer _
    · exact ok.endBurst.continueTransfer _

/-! #### Host commands that begin a transfer (R134, R137) -/

theorem State.BurstsOk.beginTransfer (ok : s.BurstsOk) (c : HostCommand) (x : Transfer) :
    (s.beginTransfer c x).BurstsOk := by
  have set : (s.setCommand { s.command with current := some ⟨c, .transferring⟩, transfer := some x }).BurstsOk :=
    ok.of_same rfl
  exact set.request _ x.nextRequest_length_le

theorem State.BurstsOk.readPage (ok : s.BurstsOk) (i : StreamId) (v : VPage) (offset length : Nat) :
    (s.readPage i v offset length).BurstsOk := by
  unfold State.readPage
  split
  · exact ok.of_same (produceReply_arbiter ..)
  · dsimp only
    split
    · exact ok.of_same (produceReply_arbiter ..)
    · exact ok.beginTransfer ..

theorem State.BurstsOk.writePage (ok : s.BurstsOk) (i : StreamId) (v : VPage) (offset : Nat) (data : List Byte) :
    (s.writePage i v offset data).BurstsOk := by
  have refused : ∀ status, (s.refuse status).BurstsOk := fun status => ok.of_same (refuse_arbiter ..)
  unfold State.writePage
  split
  · exact refused _
  · dsimp only
    split_ifs
    · exact refused _
    · exact refused _
    · exact refused _
    · exact refused _
    · exact refused _
    · exact (ok.of_same (setFrame_arbiter ..)).beginTransfer ..

/-! #### Stream commands that withdraw a request (R61, R67 to R69, R166) -/

theorem State.BurstsOk.pauseStream (ok : s.BurstsOk) (i : StreamId) : (s.pauseStream i).BurstsOk := by
  have withdrawn := (ok.of_same (setGate_arbiter s i false)).withdrawRequest i
  unfold State.pauseStream
  split
  · exact withdrawn.of_same (replyOk_arbiter _)
  · exact ok.of_same (refuse_arbiter ..)

theorem State.BurstsOk.endReplay (ok : s.BurstsOk) (i : StreamId) (reason : EndReason) :
    (s.endReplay i reason).BurstsOk := by
  have withdrawn : (((s.setGate i false).setFifo i []).withdrawRequest i).BurstsOk :=
    State.BurstsOk.withdrawRequest (ok.of_same (by simp)) i
  unfold State.endReplay
  dsimp only
  split
  · exact withdrawn.of_same rfl
  · exact withdrawn.of_same (enterDone_arbiter ..)

theorem State.BurstsOk.cutReplay (ok : s.BurstsOk) (i : StreamId) : (s.cutReplay i).BurstsOk := by
  have emptied := ok.of_same (modEngine_arbiter s i Engine.emptyActiveSlot)
  unfold State.cutReplay
  split
  case h_1 | h_2 => exact emptied.endReplay ..
  all_goals exact ok.endReplay ..

theorem State.BurstsOk.cutCapture (ok : s.BurstsOk) (i : StreamId) : (s.cutCapture i).BurstsOk := by
  have withdrawn : (((s.setGate i false).discardCapture i).withdrawRequest i).BurstsOk :=
    State.BurstsOk.withdrawRequest (ok.of_same (by simp)) i
  exact withdrawn.of_same (by simp [State.cutCapture])

theorem State.BurstsOk.stopStream (ok : s.BurstsOk) (i : StreamId) : (s.stopStream i).BurstsOk := by
  have refused : (s.refuse .badState).BurstsOk := ok.of_same (refuse_arbiter ..)
  have ended : (s.endReplay i .stopped).replyOk.BurstsOk := (ok.endReplay i .stopped).of_same (replyOk_arbiter _)
  unfold State.stopStream
  split
  · exact ok.of_same (stopCapture_arbiter ..)
  · unfold State.stopReplay
    split
    case h_1 | h_2 | h_3 | h_4 => exact ended
    all_goals exact refused
  · exact refused

theorem State.BurstsOk.abortStream (ok : s.BurstsOk) (i : StreamId) : (s.abortStream i).BurstsOk := by
  have refused : (s.refuse .badState).BurstsOk := ok.of_same (refuse_arbiter ..)
  have ended : (s.endReplay i .aborted).replyOk.BurstsOk := (ok.endReplay i .aborted).of_same (replyOk_arbiter _)
  unfold State.abortStream
  split
  · unfold State.abortCapture
    split
    case h_1 | h_2 => exact ok.cutCapture i
    case h_3 =>
      split
      · exact refused
      · exact ok.cutCapture i
    case h_4 => exact ok.of_same (by simp)
    all_goals exact refused
  · unfold State.abortReplay
    split
    case h_1 | h_2 | h_3 | h_4 => exact ended
    case h_5 =>
      split
      · exact refused
      · exact (ok.cutReplay i).of_same (replyOk_arbiter _)
    all_goals exact refused
  · exact refused

theorem State.BurstsOk.stopEngine (ok : s.BurstsOk) (i : StreamId) : (s.stopEngine i).BurstsOk := by
  unfold State.stopEngine
  split
  · exact ok.of_same rfl
  · have withdrawn := (ok.of_same (modPortOf_arbiter s i fun p =>
      { p with gateOpen := false, edgePending := false })).withdrawRequest i
    dsimp only
    split
    · exact withdrawn.of_same rfl
    · exact withdrawn.of_same (answerRestart_arbiter ..)

/-- The reset value of the arbiter (R129, R164). -/
theorem State.BurstsOk.of_reset (reset : t.arbiter = Arbiter.reset) : t.BurstsOk :=
  ⟨by simp [reset, Arbiter.reset], by simp [reset, Arbiter.reset]⟩

end ShortBursts

end Sys2Proof.Machine

namespace Sys2Proof.Proofs

open Sys2Proof.Machine Sys2Proof.Laws

/-! ### Every step keeps every burst short (R132) -/

section BurstsEveryStep

variable {P : State → Prop} {s t : State} {i : StreamId} {occasion : Bool} {effect : State → State}

theorem takeStep_keeps (holds : P s) (h : takeStep occasion s effect = .next t) (keeps : ∀ u, P u → P (effect u)) :
    P t := by
  rcases takeStep_next h with rfl | ⟨_, rfl⟩
  · exact holds
  · exact keeps s holds

theorem takeHostClaim_keeps {command : HostCommand} (holds : P s) (h : takeHostClaim command s effect = .next t)
    (drop : ∀ u, P u → P u.dropOldestClaim) (keeps : ∀ u, P u → P (effect u)) : P t :=
  takeStep_keeps holds h fun u hu => keeps _ (drop u hu)

theorem takeEngineClaim_keeps {work : EngineClaim → State → Option State} (holds : P s)
    (h : takeEngineClaim i s work = .next t) (drop : ∀ u, P u → P u.dropOldestClaim)
    (keeps : ∀ c u u', work c u = some u' → P u → P u') : P t := by
  rcases takeEngineClaim_next_cases h with rfl | ⟨c, _, answer⟩
  · exact holds
  · exact keeps c _ _ answer (drop s holds)

/-- A claim taken off the list is no change of the arbiter. -/
theorem burstsOk_dropOldestClaim (u : State) (ok : u.BurstsOk) : u.dropOldestClaim.BurstsOk :=
  ok.of_same (dropOldestClaim_arbiter u)

theorem takeStep_arbiter (h : takeStep occasion s effect = .next t) (same : ∀ u, (effect u).arbiter = u.arbiter) :
    t.arbiter = s.arbiter :=
  takeStep_keeps (P := fun u => u.arbiter = s.arbiter) rfl h fun u hu => (same u).trans hu

/-- No row of the table makes a burst or a request longer than 64 bytes. -/
theorem burstsOk_exec (row : Instr) (ok : s.BurstsOk) (h : exec row s = .next t) : t.BurstsOk := by
  cases row with
  -- Requests, grants and completions.
  | captureBurstRequest i =>
    simp only [exec, execCaptureBurstRequest] at h
    exact takeStep_keeps ok h fun _ hu => hu.requestBurst i (captureLength_le ..) true
  | replayBurstRequest i =>
    simp only [exec, execReplayBurstRequest] at h
    exact takeStep_keeps ok h fun _ hu => hu.requestBurst i (Engine.bytesToRead_le _) false
  | arbiterGrant =>
    simp only [exec, execArbiterGrant] at h
    refine takeStep_keeps ok h fun u hu => ?_
    split
    · exact hu.grantTo _
    · exact hu
  | captureBurstComplete =>
    simp only [exec, execCaptureBurstComplete] at h
    refine takeStep_keeps ok h fun u hu => ?_
    split
    · exact hu.completeCapture ..
    · exact hu
  | replayBurstComplete =>
    simp only [exec, execReplayBurstComplete] at h
    refine takeStep_keeps ok h fun u hu => ?_
    split
    · exact hu.completeReplay ..
    · exact hu
  | hostBurstComplete =>
    simp only [exec, execHostBurstComplete] at h
    refine takeStep_keeps ok h fun u hu => ?_
    split
    · exact hu.completeHostBurst _
    · exact hu
  | readData =>
    simp only [exec, execReadData] at h
    exact takeHostClaim_keeps ok h burstsOk_dropOldestClaim fun _ hu => hu.readPage ..
  | writeData =>
    simp only [exec, execWriteData] at h
    exact takeHostClaim_keeps ok h burstsOk_dropOldestClaim fun _ hu => hu.writePage ..
  -- Requests withdrawn.
  | pause i =>
    simp only [exec, execPause] at h
    exact takeStep_keeps ok h fun _ hu => hu.pauseStream i
  | stop i =>
    simp only [exec, execStop] at h
    exact takeStep_keeps ok h fun _ hu => hu.stopStream i
  | abort i =>
    simp only [exec, execAbort] at h
    exact takeStep_keeps ok h fun _ hu => hu.abortStream i
  | engineRestart i =>
    simp only [exec, execEngineRestart] at h
    exact takeStep_keeps ok h fun _ hu => hu.stopEngine i
  -- The resets.
  | powerOn | pinReset => cases h; exact State.BurstsOk.of_reset rfl
  -- The claims of the command unit that leave the arbiter.
  | map | unmap | protect | share | queryMap | queryFrame | poolStatus | setPoolMark | sealPage =>
    simp only [exec, execMap, execUnmap, execProtect, execShare, execQueryMap, execQueryFrame, execPoolStatus,
      execSetPoolMark, execSealPage, takeHostClaim] at h
    exact ok.of_same (takeStep_arbiter h fun u => by simp)
  -- The claims of the stream engines.
  | fillReport | leaveSealClaim | endingSealClaim | writeClaim | releaseClaim =>
    simp only [exec, execFillReport, execLeaveSealClaim, execEndingSealClaim, execWriteClaim, execReleaseClaim] at h
    refine takeEngineClaim_keeps ok h burstsOk_dropOldestClaim fun c _ _ answer hu => hu.of_same ?_
    cases c <;> cases answer
    simp
  | readClaim =>
    simp only [exec, execReadClaim] at h
    split at h
    case h_1 => cases h; exact ok.of_same (answerRead_arbiter ..)
    all_goals cases h; exact ok.of_same (continuePageChange_arbiter ..)
  -- The steps whose effect is split by what they find, and that leave the arbiter.
  | closeStream =>
    simp only [exec, execCloseStream] at h
    split at h
    · have answered := Host.Outcome.next.inj h
      exact ok.of_same (by simp [← answered])
    · exact ok.of_same (takeStep_arbiter h fun u => closeStream_arbiter ..)
  | writeDataCompletion | inboundMessage =>
    simp only [exec, execWriteDataCompletion, execInboundMessage] at h
    exact ok.of_same (takeStep_arbiter h fun u => by split <;> simp)
  | captureStrobe | replayStrobe =>
    cases h
    refine ok.of_same ?_
    split
    · split <;> simp
    · rfl
  | poolInitAppend =>
    cases h
    refine ok.of_same ?_
    split
    · split <;> rfl
    · rfl
  | restartClaim =>
    cases h
    refine ok.of_same ?_
    split <;> simp
  -- Every other step leaves the arbiter.
  | hello | restartStreams | restartAll | openStream | arm | start | resume | trigger | queryStream | commandTake
  | csNFall | badStart | oversize | readSelect | sendComplete | csNRise | triggerEdge | pendingEdgeTaken
  | waitDataSignal | resetEnd | poolInitComplete | writeTransactionStart =>
    simp only [exec, execHello, execRestartStreams, execRestartAll, execOpenStream, execArm, execStart, execResume,
      execTrigger, execQueryStream, execCommandTake, execCsNFall, execBadStart, execOversize, execReadSelect,
      execSendComplete, execCsNRise, execTriggerEdge, execPendingEdgeTaken, execWaitDataSignal, execResetEnd,
      execPoolInitComplete, execWriteTransactionStart] at h
    exact ok.of_same (takeStep_arbiter h fun u => by simp [State.startUp])

end BurstsEveryStep

/-- Settles O8: every row keeps the law of the bursts, which reads nothing of the queue of offered steps. -/
theorem burstsStayShort : Obligations.BurstsStayShort := by
  intro s t ok h
  unfold step at h
  split at h
  · cases h
    exact ok
  · rename_i row rest _
    have offered : State.BurstsOk { s with pending := rest } := ok.of_same rfl
    exact burstsOk_exec row offered h

end Sys2Proof.Proofs

namespace Sys2Proof.Proofs

open Sys2Proof.Machine Sys2Proof.Laws

/-! ### The arbiter grants in turn (R94, R114, R131, R135, R136) -/

section Grants

variable {s : State} {r : Requester} {q : BurstRequest}

/-- How far a requester stands behind the last granted one in the order of R131, the next one being at 0. -/
def turnAfter (last r : Requester) : Nat := (r.val + 8 - last.val) % 9

theorem turnAfter_lt (last r : Requester) : turnAfter last r < 9 := Nat.mod_lt _ (by omega)

/-- The requester at place `k` of the order. -/
theorem turn_ofNat (last : Requester) {k : Nat} (bound : k < 9) :
    turnAfter last (Fin.ofNat 9 (last.val + 1 + k)) = k := by
  have value : (Fin.ofNat 9 (last.val + 1 + k)).val = (last.val + 1 + k) % 9 := rfl
  unfold turnAfter
  omega

theorem ofNat_turnAfter (last r : Requester) : Fin.ofNat 9 (last.val + 1 + turnAfter last r) = r := by
  refine Fin.ext ?_
  have value : (Fin.ofNat 9 (last.val + 1 + turnAfter last r)).val = (last.val + 1 + turnAfter last r) % 9 := rfl
  unfold turnAfter at value ⊢
  omega

theorem nextGrant_without_requests {a : Arbiter} (idle : ∀ r : Requester, a.requests[r] = none) :
    a.nextGrant = none := by
  have unasked : ∀ r ∈ grantOrder a.lastGranted, ¬ (a.requests[r]).isSome = true := fun r _ => by simp [idle r]
  exact List.find?_eq_none.mpr unasked

/-- R131: the waiting request that comes first after the last granted requester is granted. -/
theorem nextGrant_first {a : Arbiter} (asked : a.requests[r] = some q)
    (first : ∀ (r' : Requester) q', a.requests[r'] = some q' → turnAfter a.lastGranted r ≤ turnAfter a.lastGranted r') :
    a.nextGrant = some r := by
  have found : (List.range 9).find? (fun k => (a.requests[Fin.ofNat 9 (a.lastGranted.val + 1 + k)]).isSome) =
      some (turnAfter a.lastGranted r) := by
    refine List.find?_range_eq_some.mpr ⟨?_, List.mem_range.mpr (turnAfter_lt ..), fun k earlier => ?_⟩
    · simp only [ofNat_turnAfter, asked, Option.isSome_some]
    · have place := turn_ofNat a.lastGranted (earlier.trans (turnAfter_lt ..))
      cases other : a.requests[Fin.ofNat 9 (a.lastGranted.val + 1 + k)] with
      | none => rfl
      | some q' =>
        have later := first _ q' other
        omega
  simp only [Arbiter.nextGrant, grantOrder, List.find?_map, Function.comp_def, found, Option.map_some, ofNat_turnAfter]

/-! #### The grant as a step -/

theorem exec_arbiterGrant_off (off : s.arbiter.inFlight ≠ none ∨ ∀ r : Requester, s.arbiter.requests[r] = none) :
    exec .arbiterGrant s = .next s := by
  show execArbiterGrant s = _
  rcases off with flies | idle
  · exact takeStep_not_due (by simp [Option.isNone_eq_false_iff, Option.isSome_iff_ne_none, flies]) _
  · simp [execArbiterGrant, takeStep, nextGrant_without_requests idle]

theorem exec_arbiterGrant (out : s.heldInReset = none) (free : s.arbiter.inFlight = none)
    (next : s.arbiter.nextGrant = some r) : exec .arbiterGrant s = .next (s.grantTo r) := by
  show execArbiterGrant s = _
  rw [execArbiterGrant, takeStep_due (by simp [out, free]), next]

/-! #### The grant to each kind of requester -/

theorem grantTo_capture {i : StreamId} (asked : s.arbiter.requests[requesterOf i] = some q)
    (writes : q.isWrite = true) :
    s.grantTo (requesterOf i) = s.grantCapture i q := by
  simp only [State.grantTo, asked, writes, if_true]
  exact dif_pos i.isLt

theorem grantTo_replay {i : StreamId} (asked : s.arbiter.requests[requesterOf i] = some q) (reads : q.isWrite = false) :
    s.grantTo (requesterOf i) = s.grantReplay i q := by
  simp only [State.grantTo, asked, reads, Bool.false_eq_true, if_false]
  exact dif_pos i.isLt

theorem grantTo_host (asked : s.arbiter.requests[(8 : Requester)] = some q) : s.grantTo 8 = s.grantHost q := by
  simp only [State.grantTo, asked]
  exact dif_neg (by decide)

/-- R94: a capture grant takes its words from the FIFO of the stream's port. -/
theorem grantCapture_bound {i : StreamId} {p : PortId} (port : (s.engine i).port = some p) :
    let offset := (s.engine i).position.offset
    let n := min (min 32 (s.port p).fifo.length) ((4096 - offset) / 2)
    s.grantCapture i q =
      (s.setPort p { s.port p with fifo := (s.port p).fifo.drop n }).granted
        { requester := requesterOf i, frame := q.frame, offset := offset, length := 2 * n, isWrite := true
          data := ((s.port p).fifo.take n).flatMap wordBytes } := by
  have half : ∀ words offset, captureLength words offset / 2 = min (min 32 words) ((4096 - offset) / 2) :=
    fun _ _ => Nat.mul_div_cancel_left _ (by omega)
  simp only [State.grantCapture, fifoOf_bound port, setFifo_bound port, half]

/-- R135: a host grant goes on, unless it reads a frame of another generation. -/
theorem grantHost_goes_on {t : Transfer} (transfer : s.command.transfer = some t)
    (same : t.isWrite = true ∨ (s.frame t.frame).generation = t.generation) :
    s.grantHost q = s.granted
      { requester := 8, frame := q.frame, offset := q.offset, length := q.length, isWrite := q.isWrite
        data := if t.isWrite then t.nextBytes else [] } := by
  have stays : ¬ (t.isWrite = false ∧ (s.frame t.frame).generation ≠ t.generation) := by
    rcases same with writes | same
    · simp [writes]
    · simp [same]
  simp only [State.grantHost, transfer, if_neg stays]
  rfl

/-- R136: a read that finds another generation is cancelled and answered TORN. -/
theorem grantHost_torn {t : Transfer} {m : Message} {rest : List Message} (transfer : s.command.transfer = some t)
    (reads : t.isWrite = false) (torn : (s.frame t.frame).generation ≠ t.generation)
    (queue : s.command.queue = m :: rest) :
    s.grantHost q =
      (s.setArbiter { requests := s.arbiter.requests.set 8 none, inFlight := none, lastGranted := 8 }).answered m rest
        (readDataPayload .torn t.frame (s.frame t.frame).generation []) := by
  simp only [State.grantHost, transfer, if_pos (And.intro reads torn)]
  exact produceReply_answered (s := (s.granted _).endBurst) queue _

/-- Settles O50: nothing to grant; and the request whose turn it is, by its requester. -/
theorem arbiterGrantsInTurn : Obligations.ArbiterGrantsInTurn := by
  intro s out
  refine ⟨exec_arbiterGrant_off, fun r q free asked first => ?_⟩
  intro granted
  have grants : exec .arbiterGrant s = .next (s.grantTo r) := exec_arbiterGrant out free (nextGrant_first asked first)
  refine ⟨?_, ?_, ?_⟩
  · rintro i p rfl writes port offset n
    rw [grants, grantTo_capture asked writes, grantCapture_bound port]
    rfl
  · rintro i rfl reads offset fill
    rw [grants, grantTo_replay asked reads]
    rfl
  · rintro t rfl transfer
    refine ⟨fun writes => ?_, fun reads same => ?_, fun m rest reads torn queue => ?_⟩
    · rw [grants, grantTo_host asked, grantHost_goes_on transfer (.inl writes), if_pos writes]
      rfl
    · rw [grants, grantTo_host asked, grantHost_goes_on transfer (.inr same), if_neg (by simp [reads])]
      rfl
    · rw [grants, grantTo_host asked, grantHost_torn transfer reads torn queue]
      rfl

end Grants

end Sys2Proof.Proofs

namespace Sys2Proof.Proofs

open Sys2Proof.Machine Sys2Proof.Laws

/-! ### What leaves the frame store and the queue of offered steps -/

section StoreKept

/-- `t` has the frame store of `s`, read under the same power-on, and the same queue of offered steps. -/
structure Keeps (s t : State) : Prop where
  store : t.store = s.store
  powerOns : t.powerOns = s.powerOns
  pending : t.pending = s.pending

theorem Keeps.refl (s : State) : Keeps s s := ⟨rfl, rfl, rfl⟩

theorem Keeps.trans {s t u : State} (h : Keeps s t) (g : Keeps t u) : Keeps s u :=
  ⟨g.store.trans h.store, g.powerOns.trans h.powerOns, g.pending.trans h.pending⟩

/-- The work of the stream engines and of the map unit leaves the frame store. -/
theorem inner_keeps {s t : State} (h : Inner s t) : Keeps s t := ⟨h.store, h.powerOns, h.pending⟩

theorem keeps_setCommand (s : State) (c : CommandUnit) : Keeps s (s.setCommand c) := ⟨rfl, rfl, rfl⟩
theorem keeps_setStage (s : State) (c : HostCommand) (g : CommandStage) : Keeps s (s.setStage c g) := keeps_setCommand ..
theorem keeps_setLink (s : State) (l : Link) : Keeps s (s.setLink l) := ⟨rfl, rfl, rfl⟩

theorem keeps_produceReply (s : State) (payload : List Byte) : Keeps s (s.produceReply payload) := by
  unfold State.produceReply
  split
  · exact .refl s
  · exact ⟨rfl, rfl, rfl⟩

theorem keeps_refuse (s : State) (status : Status) : Keeps s (s.refuse status) := keeps_produceReply ..

/-- Inner work, and then the reply. -/
theorem inner_replied {s t : State} (h : Inner s t) (payload : List Byte) : Keeps s (t.produceReply payload) :=
  (inner_keeps h).trans (keeps_produceReply ..)

variable (s : State) (i : StreamId)

/-! #### Map and pool commands -/

theorem keeps_mapPage (access : Access) (v : VPage) (asked : Option FrameId) :
    Keeps s (s.mapPage i access v asked) := by
  have mapped : ∀ f, Keeps s (s.mapFrame i access v f) := fun f =>
    inner_replied (((inner_issueFromQueue ..).trans (inner_setEntry ..)).trans (inner_retry ..)) _
  unfold State.mapPage
  split
  · exact keeps_refuse ..
  · split
    · exact keeps_refuse ..
    · exact mapped _
  · split
    · exact keeps_refuse ..
    · exact mapped _

theorem keeps_unmapRange (first : VPage) (count : Nat) : Keeps s (s.unmapRange i first count) := by
  unfold State.unmapRange
  split
  · exact keeps_refuse ..
  · exact inner_replied ((inner_purge ..).trans (inner_releasePages ..)) _

theorem keeps_releaseMap : Keeps s (s.releaseMap i) := by
  unfold State.releaseMap
  exact inner_replied ((inner_purge ..).trans (inner_releasePages ..)) _

theorem keeps_protectRange (access : Access) (first : VPage) (count : Nat) :
    Keeps s (s.protectRange i access first count) := by
  have set : ∀ u v, Inner u (State.setAccess u i access v) := fun _ _ => inner_setEntry ..
  unfold State.protectRange
  split_ifs
  · exact keeps_refuse ..
  · exact keeps_refuse ..
  · exact inner_replied ((inner_purge ..).trans (inner_foldl _ _ set _)) _

theorem inner_sharePage (j : StreamId) (access : Access) (pages : VPage × VPage) :
    Inner s (s.sharePage i j access pages) := by
  unfold State.sharePage
  split
  · exact .refl s
  · exact (inner_setEntry ..).trans (inner_setFrame ..)

theorem keeps_shareRange (j : StreamId) (access : Access) (first second : VPage) (count : Nat) :
    Keeps s (s.shareRange i j access first second count) := by
  unfold State.shareRange
  dsimp only
  split_ifs
  · exact keeps_refuse ..
  · exact keeps_refuse ..
  · exact keeps_refuse ..
  · exact keeps_refuse ..
  · exact inner_replied ((inner_foldl _ _ (fun u => inner_sharePage u i j access) _).trans (inner_retry ..)) _

/-! #### Frame data -/

theorem keeps_beginTransfer (c : HostCommand) (x : Transfer) : Keeps s (s.beginTransfer c x) :=
  (keeps_setCommand ..).trans (inner_keeps (inner_request ..))

theorem keeps_readPage (v : VPage) (offset length : Nat) : Keeps s (s.readPage i v offset length) := by
  unfold State.readPage
  split
  · exact keeps_produceReply ..
  · dsimp only
    split
    · exact keeps_produceReply ..
    · exact keeps_beginTransfer ..

theorem keeps_writePage (v : VPage) (offset : Nat) (data : List Byte) : Keeps s (s.writePage i v offset data) := by
  unfold State.writePage
  split
  · exact keeps_refuse ..
  · dsimp only
    split_ifs
    · exact keeps_refuse ..
    · exact keeps_refuse ..
    · exact keeps_refuse ..
    · exact keeps_refuse ..
    · exact keeps_refuse ..
    · exact (inner_keeps (inner_setFrame ..)).trans (keeps_beginTransfer ..)

theorem keeps_completeWrite (x : Transfer) : Keeps s (s.completeWrite x) :=
  inner_replied (((inner_setFill ..).trans (inner_setFrame ..)).trans (inner_decideAllDeferred _)) _

theorem keeps_sealCommand (v : VPage) : Keeps s (s.sealCommand i v) := by
  unfold State.sealCommand
  split
  · exact keeps_refuse ..
  · dsimp only
    split
    · exact keeps_refuse ..
    · exact inner_replied (inner_sealFrame ..) _

theorem keeps_grantTo (r : Requester) : Keeps s (s.grantTo r) := by
  unfold State.grantTo
  split
  · exact .refl s
  · split
    · split
      · exact inner_keeps (inner_grantCapture ..)
      · exact inner_keeps (inner_grantReplay ..)
    · unfold State.grantHost
      split
      · exact .refl s
      · dsimp only
        split
        · exact inner_replied ((inner_granted ..).trans (inner_endBurst _)) _
        · exact inner_keeps (inner_granted ..)

/-- A host burst that has moved its bytes: the next request, the completion claim or the reply. -/
theorem keeps_continueTransfer (x : Transfer) : Keeps s (s.continueTransfer x) := by
  unfold State.continueTransfer
  dsimp only
  split_ifs
  · exact (keeps_setCommand ..).trans (inner_keeps (inner_request ..))
  · exact ((keeps_setCommand ..).trans (keeps_setCommand ..)).trans (inner_keeps (inner_sendClaim ..))
  · exact (keeps_setCommand ..).trans (keeps_produceReply ..)

/-! #### Stream commands -/

theorem keeps_openPort (d : Direction) (p : PortId) (fault : FaultPolicy) (policy : ReleasePolicy) :
    Keeps s (s.openPort i d p fault policy) := by
  unfold State.openPort
  split_ifs
  · exact keeps_refuse ..
  · exact keeps_refuse ..
  · exact keeps_refuse ..
  · exact inner_replied ((inner_setPort ..).trans (inner_setEngine ..)) _

theorem keeps_closeStream (releases : Bool) : Keeps s (s.closeStream i releases) := by
  have closed : Inner s (s.closeEngine i) := (inner_modPortOf ..).trans (inner_setEngine ..)
  unfold State.closeStream
  dsimp only
  split_ifs
  · exact ((inner_keeps closed).trans (keeps_setStage ..)).trans (inner_keeps (inner_sendClaim ..))
  · exact inner_replied closed _
  · exact keeps_refuse ..

theorem keeps_armSlot (name : SlotName) (d : Descriptor) : Keeps s (s.armSlot i name d) := by
  unfold State.armSlot
  dsimp only
  split_ifs
  · exact keeps_refuse ..
  · exact keeps_refuse ..
  · exact inner_replied (inner_setEngine ..) _
  · exact keeps_refuse ..
  · exact inner_replied (inner_setEngine ..) _

theorem keeps_startSlot (name : SlotName) : Keeps s (s.startSlot i name) := by
  unfold State.startSlot
  dsimp only
  split_ifs
  · exact keeps_refuse ..
  · exact keeps_refuse ..
  · exact inner_replied (((inner_setEngine ..).trans (inner_setGate ..)).trans (inner_enterPage ..)) _

theorem keeps_pauseStream : Keeps s (s.pauseStream i) := by
  unfold State.pauseStream
  split
  · exact inner_replied (((inner_setGate ..).trans (inner_withdrawRequest ..)).trans (inner_modEngine ..)) _
  · exact keeps_refuse ..

theorem inner_resumeReplay : Inner s (s.resumeReplay i) := by
  unfold State.resumeReplay
  split
  · exact inner_evaluatePage ..
  · exact inner_enterReplayPage ..

theorem keeps_resumeStream : Keeps s (s.resumeStream i) := by
  have running : ∀ e, Inner s ((s.setGate i true).modEngine i e) := fun _ => (inner_setGate ..).trans (inner_modEngine ..)
  unfold State.resumeStream
  dsimp only
  split_ifs
  · exact inner_replied ((running _).trans (inner_resumeReplay ..)) _
  · exact inner_replied (running _) _
  · exact keeps_refuse ..

theorem keeps_replyToStop (c : HostCommand) : Keeps s (s.replyToStop i c) := by
  unfold State.replyToStop
  split
  · exact keeps_setStage ..
  · exact keeps_produceReply ..

theorem inner_endReplay (reason : EndReason) : Inner s (s.endReplay i reason) := by
  have cleared : ∀ e, Inner s ((((s.setGate i false).setFifo i []).withdrawRequest i).modEngine i e) := fun _ =>
    (((inner_setGate ..).trans (inner_setFifo ..)).trans (inner_withdrawRequest ..)).trans (inner_modEngine ..)
  unfold State.endReplay
  dsimp only
  split
  · exact cleared _
  · exact (cleared _).trans (inner_enterDone ..)

theorem keeps_stopStream : Keeps s (s.stopStream i) := by
  unfold State.stopStream
  split
  · unfold State.stopCapture
    split
    case h_1 | h_2 =>
      exact inner_replied (((inner_setGate ..).trans (inner_modEngine ..)).trans (inner_endWhenDrained ..)) _
    case h_3 => exact (inner_keeps (inner_stopInFault ..)).trans (keeps_replyToStop ..)
    all_goals exact keeps_refuse ..
  · unfold State.stopReplay
    split
    case h_1 | h_2 | h_3 | h_4 => exact inner_replied (inner_endReplay ..) _
    all_goals exact keeps_refuse ..
  · exact keeps_refuse ..

theorem keeps_cutCapture : Keeps s (s.cutCapture i) :=
  inner_replied
    ((((inner_setGate ..).trans (inner_discardCapture ..)).trans (inner_withdrawRequest ..)).trans
      ((inner_modEngine ..).trans (inner_endWhenDrained ..))) _

theorem inner_cutReplay : Inner s (s.cutReplay i) := by
  unfold State.cutReplay
  split
  case h_1 | h_2 => exact (inner_modEngine ..).trans (inner_endReplay ..)
  all_goals exact inner_endReplay ..

theorem keeps_abortStream : Keeps s (s.abortStream i) := by
  unfold State.abortStream
  split
  · unfold State.abortCapture
    split
    case h_1 | h_2 => exact keeps_cutCapture ..
    case h_3 =>
      split
      · exact keeps_refuse ..
      · exact keeps_cutCapture ..
    case h_4 => exact (inner_keeps (inner_stopInFault ..)).trans (keeps_replyToStop ..)
    all_goals exact keeps_refuse ..
  · unfold State.abortReplay
    split
    case h_1 | h_2 | h_3 | h_4 => exact inner_replied (inner_endReplay ..) _
    case h_5 =>
      split
      · exact keeps_refuse ..
      · exact inner_replied (inner_cutReplay ..) _
    all_goals exact keeps_refuse ..
  · exact keeps_refuse ..

theorem inner_takeTrigger : Inner s (s.takeTrigger i) := (inner_modEngine ..).trans (inner_post ..)

theorem keeps_triggerStream : Keeps s (s.triggerStream i) := by
  unfold State.triggerStream
  dsimp only
  split
  · exact inner_replied (inner_takeTrigger ..) _
  · exact keeps_refuse ..

theorem inner_takeEdge : Inner s (s.takeEdge i) := by
  unfold State.takeEdge
  dsimp only
  split
  · exact (inner_modPortOf ..).trans (inner_takeTrigger ..)
  · exact inner_modPortOf ..

theorem keeps_answerStop : Keeps s (s.answerStop i) := by
  unfold State.answerStop
  split
  · exact keeps_produceReply ..
  · exact .refl s

/-! #### The command unit and RESTART -/

theorem keeps_takeCommand : Keeps s s.takeCommand := by
  unfold State.takeCommand
  split
  · exact .refl s
  · split
    · exact keeps_refuse ..
    · unfold State.handCommand
      dsimp only
      split
      · exact (keeps_setCommand ..).trans (inner_keeps (inner_sendClaim ..))
      · exact keeps_setCommand ..

theorem keeps_sendRestart (scope : RestartScope) : Keeps s (s.sendRestart scope) := ⟨rfl, rfl, rfl⟩

theorem inner_stopEngine : Inner s (s.stopEngine i) := by
  unfold State.stopEngine
  split
  · exact inner_modEngine ..
  · have cleared : ∀ p cs, Inner s (((s.modPortOf i p).withdrawRequest i).setClaims cs) := fun _ _ =>
      ((inner_modPortOf ..).trans (inner_withdrawRequest ..)).trans (inner_setClaims ..)
    dsimp only
    split
    · exact (cleared _ _).trans (inner_modEngine ..)
    · exact (cleared _ _).trans (inner_answerRestart ..)

theorem inner_restartMapUnit : Inner s s.restartMapUnit :=
  have sealed : ∀ u x, Inner u (State.sealForRestart u x) := fun _ _ => inner_setFrame ..
  ((inner_foldl _ _ sealed _).trans (inner_setWaiters ..)).trans (inner_setDeferred ..)

theorem inner_clearStreams : Inner s s.clearStreams := .of_blocks rfl rfl rfl rfl rfl rfl

theorem keeps_restart (scope : RestartScope) (n : Nat) : Keeps s (s.restart scope n) := by
  unfold State.restart
  cases scope with
  | streams =>
    have cleared := inner_keeps ((inner_restartMapUnit s).trans (inner_clearStreams _))
    exact (cleared.trans (keeps_setLink ..)).trans (keeps_produceReply ..)
  | all =>
    have cleared : Keeps s s.restartMapUnit.clearMaps.clearStreams :=
      inner_keeps (((inner_restartMapUnit s).trans (inner_setMapUnit ..)).trans (inner_clearStreams _))
    exact (cleared.trans (keeps_setLink ..)).trans (keeps_setStage ..)

theorem keeps_startUp : Keeps s s.startUp := ⟨rfl, rfl, rfl⟩

theorem keeps_commandsReady : Keeps s s.commandsReady := by
  unfold State.commandsReady
  split
  · exact keeps_produceReply ..
  · split
    · exact keeps_setCommand ..
    · exact .refl s

theorem keeps_completeInit : Keeps s s.completeInit :=
  (inner_keeps ((inner_setMapUnit ..).trans (inner_post ..))).trans (keeps_commandsReady _)

/-! #### The link and the lanes -/

theorem keeps_setTransaction (x : TransactionState) : Keeps s (s.setTransaction x) := keeps_setLink ..
theorem keeps_linkError (reason : LinkErrorReason) : Keeps s (s.linkError reason) := inner_keeps (inner_post ..)

theorem keeps_csFall : Keeps s s.csFall := by
  unfold State.csFall
  dsimp only
  split
  · exact (keeps_setLink ..).trans (keeps_setTransaction ..)
  · exact keeps_setLink ..

theorem keeps_endTransaction : Keeps s s.endTransaction := by
  unfold State.endTransaction
  split
  · exact keeps_linkError ..
  · exact keeps_setLink ..
  all_goals exact .refl s

theorem keeps_csRise : Keeps s s.csRise := by
  unfold State.csRise
  dsimp only
  split
  · exact (keeps_endTransaction s).trans (keeps_setLink ..)
  · exact keeps_setLink ..

theorem keeps_takeForAdmission (m : Message) : Keeps s (s.takeForAdmission m) := by
  unfold State.takeForAdmission
  split
  · split
    · exact (keeps_setCommand ..).trans (keeps_setLink ..)
    · exact keeps_setLink ..
  · exact keeps_linkError ..

theorem inner_offerWord (p : PortId) (w : Word) : Inner s (s.offerWord p i w) := by
  unfold State.offerWord
  dsimp only
  split
  · exact inner_setPort ..
  · exact (inner_modEngine ..).trans (inner_post ..)

theorem inner_underrun : Inner s (s.underrun i) := by
  unfold State.underrun
  split
  · exact (inner_modEngine ..).trans (inner_post ..)
  · exact .refl s

theorem inner_afterWord : Inner s (s.afterWord i) := by
  unfold State.afterWord
  split
  · exact inner_finishEmptying ..
  · exact .refl s

theorem inner_askWord (p : PortId) : Inner s (s.askWord p i) := by
  unfold State.askWord
  dsimp only
  split
  · exact inner_underrun ..
  · exact (inner_setPort ..).trans (inner_afterWord ..)

end StoreKept

end Sys2Proof.Proofs

namespace Sys2Proof.Proofs

open Sys2Proof.Machine Sys2Proof.Laws

/-! ### Only the bursts that write and the two resets touch the frame store (R127, R128) -/

section StoreEveryStep

variable {s t : State} {i : StreamId} {occasion : Bool} {effect : State → State}

theorem keeps_takeStep (h : takeStep occasion s effect = .next t) (keeps : ∀ u, Keeps u (effect u)) : Keeps s t :=
  takeStep_keeps (.refl s) h fun u hu => hu.trans (keeps u)

theorem keeps_takeHostClaim {command : HostCommand} (h : takeHostClaim command s effect = .next t)
    (keeps : ∀ u, Keeps u (effect u)) : Keeps s t :=
  keeps_takeStep h fun u => (inner_keeps (inner_dropOldestClaim u)).trans (keeps _)

theorem keeps_takeEngineClaim {work : EngineClaim → State → Option State} (h : takeEngineClaim i s work = .next t)
    (keeps : ∀ c u u', work c u = some u' → Keeps u u') : Keeps s t :=
  takeEngineClaim_keeps (.refl s) h (fun u hu => hu.trans (inner_keeps (inner_dropOldestClaim u)))
    fun c u u' answer hu => hu.trans (keeps c u u' answer)

theorem keeps_readClaim (h : execReadClaim i s = .next t) : Keeps s t := by
  unfold execReadClaim at h
  split at h
  case h_1 => cases h; exact inner_keeps ((inner_dropOldestClaim s).trans (inner_answerRead ..))
  all_goals cases h; exact inner_keeps (inner_continuePageChange ..)

theorem keeps_execCloseStream {releases : Bool} (h : execCloseStream i releases s = .next t) : Keeps s t := by
  unfold execCloseStream at h
  split at h
  · exact Host.Outcome.next.inj h ▸ (inner_keeps (inner_dropOldestClaim s)).trans (keeps_releaseMap ..)
  · exact keeps_takeStep h fun _ => keeps_closeStream ..

/-- A row of the table whose step writes the frame store, or takes its contents away. -/
def WritesStore (row : Instr) : Prop :=
  (∃ j, row = .captureBurstComplete j) ∨ row = .hostBurstComplete ∨ row = .pinReset ∨ row = .powerOn

/-- Every other row leaves the frame store and the queue of offered steps. -/
theorem keeps_exec (row : Instr) (other : ¬ WritesStore row) (h : exec row s = .next t) : Keeps s t := by
  cases row with
  | captureBurstComplete j => exact absurd (.inl ⟨j, rfl⟩) other
  | hostBurstComplete => exact absurd (.inr (.inl rfl)) other
  | pinReset => exact absurd (.inr (.inr (.inl rfl))) other
  | powerOn => exact absurd (.inr (.inr (.inr rfl))) other
  -- The claims of the command unit.
  | map =>
    simp only [exec, execMap] at h
    exact keeps_takeHostClaim h fun _ => keeps_mapPage ..
  | unmap =>
    simp only [exec, execUnmap] at h
    exact keeps_takeHostClaim h fun _ => keeps_unmapRange ..
  | protect =>
    simp only [exec, execProtect] at h
    exact keeps_takeHostClaim h fun _ => keeps_protectRange ..
  | share =>
    simp only [exec, execShare] at h
    exact keeps_takeHostClaim h fun _ => keeps_shareRange ..
  | queryMap | queryFrame | poolStatus =>
    simp only [exec, execQueryMap, execQueryFrame, execPoolStatus] at h
    exact keeps_takeHostClaim h fun _ => keeps_produceReply ..
  | setPoolMark =>
    simp only [exec, execSetPoolMark] at h
    exact keeps_takeHostClaim h fun _ => inner_replied (inner_setMapUnit ..) _
  | readData =>
    simp only [exec, execReadData] at h
    exact keeps_takeHostClaim h fun _ => keeps_readPage ..
  | writeData =>
    simp only [exec, execWriteData] at h
    exact keeps_takeHostClaim h fun _ => keeps_writePage ..
  | sealPage =>
    simp only [exec, execSealPage] at h
    exact keeps_takeHostClaim h fun _ => keeps_sealCommand ..
  | writeDataCompletion =>
    simp only [exec, execWriteDataCompletion] at h
    refine keeps_takeStep h fun u => ?_
    split
    · exact (inner_keeps (inner_dropOldestClaim u)).trans (keeps_completeWrite ..)
    · exact .refl u
  -- The stream commands.
  | openStream =>
    simp only [exec, execOpenStream] at h
    exact keeps_takeStep h fun _ => keeps_openPort ..
  | closeStream => exact keeps_execCloseStream h
  | arm =>
    simp only [exec, execArm] at h
    exact keeps_takeStep h fun _ => keeps_armSlot ..
  | start =>
    simp only [exec, execStart] at h
    exact keeps_takeStep h fun _ => keeps_startSlot ..
  | pause =>
    simp only [exec, execPause] at h
    exact keeps_takeStep h fun _ => keeps_pauseStream ..
  | resume =>
    simp only [exec, execResume] at h
    exact keeps_takeStep h fun _ => keeps_resumeStream ..
  | stop =>
    simp only [exec, execStop] at h
    exact keeps_takeStep h fun _ => keeps_stopStream ..
  | abort =>
    simp only [exec, execAbort] at h
    exact keeps_takeStep h fun _ => keeps_abortStream ..
  | trigger =>
    simp only [exec, execTrigger] at h
    exact keeps_takeStep h fun _ => keeps_triggerStream ..
  | pendingEdgeTaken =>
    simp only [exec, execPendingEdgeTaken] at h
    exact keeps_takeStep h fun _ => inner_keeps (inner_takeEdge ..)
  -- The command unit, RESTART and the end of a reset.
  | hello | queryStream =>
    simp only [exec, execHello, execQueryStream] at h
    exact keeps_takeStep h fun _ => keeps_produceReply ..
  | commandTake =>
    simp only [exec, execCommandTake] at h
    exact keeps_takeStep h keeps_takeCommand
  | restartStreams | restartAll =>
    simp only [exec, execRestartStreams, execRestartAll] at h
    exact keeps_takeStep h fun _ => keeps_sendRestart ..
  | engineRestart =>
    simp only [exec, execEngineRestart] at h
    exact keeps_takeStep h fun _ => inner_keeps (inner_stopEngine ..)
  | restartClaim =>
    cases h
    split
    · exact keeps_restart ..
    · exact .refl s
  | resetEnd =>
    simp only [exec, execResetEnd] at h
    exact keeps_takeStep h keeps_startUp
  | poolInitAppend =>
    cases h
    split
    · split
      · exact inner_keeps (inner_setMapUnit ..)
      · exact .refl s
    · exact .refl s
  | poolInitComplete =>
    simp only [exec, execPoolInitComplete] at h
    exact keeps_takeStep h keeps_completeInit
  -- The link.
  | csNFall =>
    simp only [exec, execCsNFall] at h
    exact keeps_takeStep h keeps_csFall
  | csNRise =>
    simp only [exec, execCsNRise] at h
    exact keeps_takeStep h keeps_csRise
  | writeTransactionStart =>
    simp only [exec, execWriteTransactionStart] at h
    exact keeps_takeStep h fun _ => keeps_setTransaction ..
  | readSelect | sendComplete =>
    simp only [exec, execReadSelect, execSendComplete] at h
    exact keeps_takeStep h fun _ => keeps_setLink ..
  | badStart | oversize =>
    simp only [exec, execBadStart, execOversize] at h
    exact keeps_takeStep h fun _ => (keeps_linkError ..).trans (keeps_setTransaction ..)
  | inboundMessage =>
    simp only [exec, execInboundMessage] at h
    refine keeps_takeStep h fun u => (keeps_setTransaction u .writeIgnore).trans ?_
    split
    · exact keeps_takeForAdmission ..
    · exact keeps_linkError ..
  -- The lanes.
  | captureStrobe =>
    cases h
    split
    · split
      · exact inner_keeps (inner_offerWord ..)
      · exact .refl s
    · exact .refl s
  | replayStrobe =>
    cases h
    split
    · split
      · exact inner_keeps (inner_askWord ..)
      · exact .refl s
    · exact .refl s
  | triggerEdge =>
    simp only [exec, execTriggerEdge] at h
    exact keeps_takeStep h fun _ => inner_keeps (inner_setPort ..)
  -- Requests, grants and the bursts that read.
  | captureBurstRequest | replayBurstRequest =>
    simp only [exec, execCaptureBurstRequest, execReplayBurstRequest] at h
    exact keeps_takeStep h fun _ => inner_keeps (inner_requestBurst ..)
  | arbiterGrant =>
    simp only [exec, execArbiterGrant] at h
    refine keeps_takeStep h fun u => ?_
    split
    · exact keeps_grantTo ..
    · exact .refl u
  | replayBurstComplete =>
    simp only [exec, execReplayBurstComplete] at h
    refine keeps_takeStep h fun u => ?_
    split
    · exact inner_keeps (inner_completeReplay ..)
    · exact .refl u
  -- The claims of the stream engines.
  | fillReport =>
    simp only [exec, execFillReport] at h
    refine keeps_takeEngineClaim h fun c _ _ answer => ?_
    cases c <;> cases answer
    exact inner_keeps (inner_setFill ..)
  | leaveSealClaim =>
    simp only [exec, execLeaveSealClaim] at h
    refine keeps_takeEngineClaim h fun c _ _ answer => ?_
    cases c <;> cases answer
    exact inner_keeps (inner_takeLeaveSeal ..)
  | endingSealClaim =>
    simp only [exec, execEndingSealClaim] at h
    refine keeps_takeEngineClaim h fun c _ _ answer => ?_
    cases c <;> cases answer
    exact (inner_keeps ((inner_giveUpPlace ..).trans (inner_endBySeal ..))).trans (keeps_answerStop ..)
  | writeClaim =>
    simp only [exec, execWriteClaim] at h
    refine keeps_takeEngineClaim h fun c _ _ answer => ?_
    cases c <;> cases answer
    exact inner_keeps (inner_writeClaim ..)
  | releaseClaim =>
    simp only [exec, execReleaseClaim] at h
    refine keeps_takeEngineClaim h fun c _ _ answer => ?_
    cases c <;> cases answer
    exact inner_keeps (inner_takeRelease ..)
  | readClaim => exact keeps_readClaim h
  | waitDataSignal =>
    simp only [exec, execWaitDataSignal] at h
    exact keeps_takeStep h fun _ => inner_keeps (inner_takeSignal ..)

/-! #### The bursts that write, and the resets -/

/-- `t` comes from `s` by a step: the queue of offered steps is the same, and a canonical frame store stays so. -/
structure StepsTo (s t : State) : Prop where
  pending : t.pending = s.pending
  storeOk : s.StoreOk → t.StoreOk

theorem StepsTo.trans {s t u : State} (h : StepsTo s t) (g : StepsTo t u) : StepsTo s u :=
  ⟨g.pending.trans h.pending, g.storeOk ∘ h.storeOk⟩

theorem keeps_stepsTo (h : Keeps s t) : StepsTo s t :=
  ⟨h.pending, fun ok => (congrArg Memory.wf h.store).trans ok⟩

/-- R132: the bytes of a burst take their places in the order of the addresses. -/
theorem stepsTo_storeWrite (s : State) (f : FrameId) (o : Nat) (bytes : List Byte) :
    StepsTo s (s.storeWrite f o bytes) :=
  ⟨rfl, fun ok => wf_writeBytes ok _ bytes⟩

theorem stepsTo_completeCapture (s : State) (i : StreamId) (b : Burst) : StepsTo s (s.completeCapture i b) := by
  have landed : StepsTo s (s.landCapture i b) :=
    (stepsTo_storeWrite ..).trans (keeps_stepsTo (inner_keeps ((inner_endBurst _).trans (inner_modEngine ..))))
  unfold State.completeCapture
  dsimp only
  split
  · exact landed.trans (keeps_stepsTo (inner_keeps (inner_answerRestart ..)))
  · exact landed.trans (keeps_stepsTo (inner_keeps (inner_afterCapture ..)))

theorem stepsTo_completeHostBurst (s : State) (b : Burst) : StepsTo s (s.completeHostBurst b) := by
  unfold State.completeHostBurst
  split
  · exact keeps_stepsTo (inner_keeps (inner_endBurst s))
  · split
    · exact (stepsTo_storeWrite ..).trans
        (keeps_stepsTo ((inner_keeps (inner_endBurst _)).trans (keeps_continueTransfer ..)))
    · exact keeps_stepsTo ((inner_keeps (inner_endBurst s)).trans (keeps_continueTransfer ..))

theorem stepsTo_landBurst (s : State) : StepsTo s s.landBurst := by
  unfold State.landBurst
  split
  · split
    · exact stepsTo_storeWrite ..
    · exact keeps_stepsTo (.refl s)
  · exact keeps_stepsTo (.refl s)

theorem keeps_held (s : State) (kind : ResetKind) (reason : ReadyReason) : Keeps s (s.held kind reason) :=
  ⟨rfl, rfl, rfl⟩

theorem stepsTo_takeStep (h : takeStep occasion s effect = .next t) (steps : ∀ u, StepsTo u (effect u)) :
    StepsTo s t :=
  takeStep_keeps (keeps_stepsTo (.refl s)) h fun u hu => hu.trans (steps u)

/-- Every row keeps the queue of offered steps and the canonical form of the frame store. -/
theorem stepsTo_exec (row : Instr) (h : exec row s = .next t) : StepsTo s t := by
  by_cases writes : WritesStore row
  · rcases writes with ⟨j, rfl⟩ | rfl | rfl | rfl
    · simp only [exec, execCaptureBurstComplete] at h
      refine stepsTo_takeStep h fun u => ?_
      split
      · exact stepsTo_completeCapture ..
      · exact keeps_stepsTo (.refl u)
    · simp only [exec, execHostBurstComplete] at h
      refine stepsTo_takeStep h fun u => ?_
      split
      · exact stepsTo_completeHostBurst ..
      · exact keeps_stepsTo (.refl u)
    · cases h
      exact (stepsTo_landBurst s).trans (keeps_stepsTo (keeps_held ..))
    · cases h
      exact ⟨rfl, fun _ => rfl⟩
  · exact keeps_stepsTo (keeps_exec row writes h)

end StoreEveryStep

/-- Settles O4: every row keeps the canonical form, which reads nothing of the queue of offered steps. -/
theorem storeStaysCanonical : Obligations.StoreStaysCanonical := by
  intro s t ok h
  unfold step at h
  split at h
  · cases h
    exact ok
  · exact (stepsTo_exec _ h).storeOk ok

/-- Settles O11: the rows excepted are those that write the frame store. -/
theorem onlyBurstsChangeTheStore : Obligations.OnlyBurstsChangeTheStore := by
  intro row s t h capture host pin power
  have other : ¬ WritesStore row := by
    rintro (⟨j, rfl⟩ | rfl | rfl | rfl)
    · exact capture j rfl
    · exact host rfl
    · exact pin rfl
    · exact power rfl
  have kept := keeps_exec row other h
  exact ⟨kept.store, kept.powerOns⟩

end Sys2Proof.Proofs

namespace Sys2Proof.Proofs

open Sys2Proof.Machine Sys2Proof.Laws

/-! ### Steps off their occasion (R159) -/

section OffOccasion

variable {s : State}

/-- The part has no step that stops it. -/
theorem exec_goes_on (row : Instr) (s : State) : ∃ t, exec row s = .next t := by
  cases row with
  | closeStream i releases =>
    simp only [exec, execCloseStream]
    split
    · exact ⟨_, rfl⟩
    · exact ⟨_, rfl⟩
  | readClaim i =>
    simp only [exec, execReadClaim]
    split
    all_goals exact ⟨_, rfl⟩
  | _ => exact ⟨_, rfl⟩

/-- A host command is at no stage. -/
def NotCurrent (s : State) (c : HostCommand) : Prop := ∀ stage, s.command.current ≠ some ⟨c, stage⟩

theorem isAt_notCurrent {c : HostCommand} (off : NotCurrent s c) (stage : CommandStage) : s.isAt c stage = false :=
  Bool.eq_false_iff.mpr fun at_ => off stage ((isAt_iff stage).mp at_)

theorem commandDue_notCurrent {c : HostCommand} (off : NotCurrent s c) (i : StreamId) : s.commandDue i c = false := by
  rw [State.commandDue, isAt_notCurrent off, Bool.false_and]

theorem claimDue_notCurrent {c : HostCommand} (off : NotCurrent s c) (stage : CommandStage) :
    s.claimDue c stage = false := by
  rw [State.claimDue, isAt_notCurrent off, Bool.false_and]

theorem takeHostClaim_notCurrent {c : HostCommand} (off : NotCurrent s c) (effect : State → State) :
    takeHostClaim c s effect = .next s :=
  takeStep_not_due (claimDue_notCurrent off .handed) _

/-- The row of a host command that is not the current command (log entries 2 and 6). -/
theorem exec_notCurrent {row : Instr} {c : HostCommand} (carries : row.command? = some c) (off : NotCurrent s c) :
    exec row s = .next s := by
  cases row with
  | hello | restartStreams | restartAll =>
    cases carries
    simp only [exec, execHello, execRestartStreams, execRestartAll]
    exact takeStep_not_due (isAt_notCurrent off .handed) _
  | map | unmap | protect | share | queryMap | queryFrame | poolStatus | setPoolMark | readData | writeData | sealPage =>
    cases carries
    simp only [exec, execMap, execUnmap, execProtect, execShare, execQueryMap, execQueryFrame, execPoolStatus,
      execSetPoolMark, execReadData, execWriteData, execSealPage]
    exact takeHostClaim_notCurrent off _
  | closeStream =>
    cases carries
    simp only [exec, execCloseStream, claimDue_notCurrent off, Bool.false_eq_true, if_false]
    exact takeStep_not_due (commandDue_notCurrent off _) _
  | openStream | arm | start | pause | resume | stop | abort | trigger | queryStream =>
    cases carries
    simp only [exec, execOpenStream, execArm, execStart, execPause, execResume, execStop, execAbort, execTrigger,
      execQueryStream]
    exact takeStep_not_due (commandDue_notCurrent off _) _
  | _ => cases carries

end OffOccasion

/-- Settles O2: the queue is kept as every step keeps it. -/
theorem everyStepGoesOnAndKeepsTheQueue : Obligations.EveryStepGoesOnAndKeepsTheQueue := by
  refine ⟨fun row s => ?_, fun s nothing => ?_, fun row c s carries off => exec_notCurrent carries off⟩
  · obtain ⟨t, goes⟩ := exec_goes_on row s
    exact ⟨t, goes, (stepsTo_exec row goes).pending⟩
  · rw [step, nothing]

end Sys2Proof.Proofs

namespace Sys2Proof.Proofs

open Sys2Proof.Machine Sys2Proof.Laws

/-! ### The bytes of a write burst (R127, R132) -/

section StoreBytes

variable (s : State) (f : FrameId) (o : Nat) (bytes : List Byte)

theorem storeByte_of_keeps {s t : State} (h : Keeps s t) (a : Nat) : t.storeByte a = s.storeByte a := by
  rw [State.storeByte, h.store, h.powerOns, State.storeByte]

theorem storeByte_storeWrite_inside {k : Nat} (inside : k < bytes.length) :
    (s.storeWrite f o bytes).storeByte (address f o + k) = bytes[k] := by
  have read : Memory.read (s.storeWrite f o bytes).store (address f o + k) = some bytes[k] :=
    read_writeBytes s.store _ k bytes inside
  rw [State.storeByte, read, Option.getD_some]

theorem storeByte_storeWrite_outside {a : Nat} (outside : a < address f o ∨ address f o + bytes.length ≤ a) :
    (s.storeWrite f o bytes).storeByte a = s.storeByte a := by
  have read : Memory.read (s.storeWrite f o bytes).store a = Memory.read s.store a :=
    read_writeBytes_other s.store _ a bytes outside
  rw [State.storeByte, read]
  rfl

end StoreBytes

/-! ### Power-on, pin reset and the end of a reset (R128, R157, R164, R165) -/

section ResetSteps

variable {s : State} {b : Burst}

theorem landBurst_write (flight : s.arbiter.inFlight = some b) (writes : b.isWrite = true) :
    s.landBurst = s.storeWrite b.frame b.offset b.data := by
  rw [State.landBurst, flight]
  exact if_pos writes

/-- R164: without a write burst in flight the frame store is kept. -/
theorem landBurst_reads (reads : ∀ b, s.arbiter.inFlight = some b → b.isWrite = false) : s.landBurst = s := by
  unfold State.landBurst
  split
  · rename_i b flight
    exact if_neg (by simp [reads b flight])
  · rfl

/-- A burst that lands changes the frame store alone. -/
theorem landBurst_eq (s : State) : s.landBurst = s.setStore s.landBurst.store := by
  unfold State.landBurst
  split
  · split <;> rfl
  · rfl

/-- The state that the assertion of RESET_N leaves, with the frame store `m` (R164). -/
def pinHeld (s : State) (m : Memory) : State :=
  { State.reset with
    mapUnit := { State.reset.mapUnit with initReason := .pinReset }
    link := { State.reset.link with csHigh := s.link.csHigh }
    heldInReset := some .pinReset
    store := m
    powerOns := s.powerOns
    pending := s.pending }

theorem exec_pinReset (s : State) : exec .pinReset s = .next (pinHeld s s.landBurst.store) := by
  show execPinReset s = _
  rw [execPinReset, landBurst_eq]
  rfl

theorem keeps_pinHeld (s : State) : Keeps s.landBurst (pinHeld s s.landBurst.store) := by
  rw [landBurst_eq]
  exact ⟨rfl, rfl, rfl⟩

/-- Settles O14: a pin reset holds the part with the frame store that the burst in flight has left. -/
theorem resetsAndStartUp : Obligations.ResetsAndStartUp := by
  refine ⟨fun s => ⟨_, rfl, rfl, fun a => rfl⟩, fun s => ⟨_, exec_pinReset s, rfl, fun reads => ?_, ?_⟩,
    fun s held => takeStep_due held _⟩
  · show s.landBurst.store = s.store
    rw [landBurst_reads reads]
  · intro b flight writes
    have landed := landBurst_write flight writes
    refine ⟨fun k inside => ?_, fun a outside => ?_⟩
    · rw [storeByte_of_keeps (keeps_pinHeld s), landed]
      exact storeByte_storeWrite_inside s _ _ _ inside
    · rw [storeByte_of_keeps (keeps_pinHeld s), landed]
      exact storeByte_storeWrite_outside s _ _ _ outside

end ResetSteps

end Sys2Proof.Proofs

namespace Sys2Proof.Proofs

open Sys2Proof.Machine Sys2Proof.Laws

/-! ### READ_DATA and WRITE_DATA (R134 to R138, R172) -/

section HostData

variable {s : State} {m : Message} {rest : List Message} {i : StreamId} {v : VPage} {offset length : Nat}
  {data : List Byte} {f : FrameId} {access : Access}

theorem exec_readData (h : s.AtMapUnit (.readData i v offset length) m rest) :
    exec (.readData i v offset length) s = .next (s.claimTaken.readPage i v offset length) := by
  show execReadData i v offset length s = _
  exact takeHostClaim_at h _

theorem readPage_absent (absent : s.entry i v = none) :
    s.readPage i v offset length = s.produceReply readDataAbsentPayload := by
  rw [State.readPage, absent]

/-- R134: nothing lies below the fill. -/
theorem readPage_empty (present : s.entry i v = some ⟨f, access⟩) (above : (s.frame f).fill ≤ offset) :
    s.readPage i v offset length = s.produceReply (readDataPayload .ok f (s.frame f).generation []) := by
  have nothing : readCount (s.frame f).fill offset length = 0 := by unfold readCount; omega
  rw [State.readPage, present]
  exact if_pos nothing

/-- R134, R135: the snapshot. -/
theorem readPage_begins (present : s.entry i v = some ⟨f, access⟩) (below : offset < (s.frame f).fill)
    (asks : 0 < length) :
    s.readPage i v offset length =
      s.beginTransfer (.readData i v offset length)
        { frame := f, offset := offset, total := readCount (s.frame f).fill offset length, moved := 0
          generation := (s.frame f).generation, isWrite := false, data := [] } := by
  have more : readCount (s.frame f).fill offset length ≠ 0 := by unfold readCount; omega
  rw [State.readPage, present]
  exact if_neg more

/-- Settles O42: absent, at or above the fill, and below it. -/
theorem readDataTakesASnapshot : Obligations.ReadDataTakesASnapshot := by
  intro s m rest i v offset length h asks
  have queue : s.claimTaken.command.queue = m :: rest := h.queue
  refine ⟨fun absent => ?_, fun f access present => ⟨fun above => ?_, fun below => ?_⟩⟩
  · rw [exec_readData h, readPage_absent (by exact absent), produceReply_answered queue]
    rfl
  · rw [exec_readData h, readPage_empty (by exact present) (by exact above), produceReply_answered queue]
    rfl
  · intro n
    rw [exec_readData h, readPage_begins (by exact present) (by exact below) asks]
    rfl

theorem exec_writeData (h : s.AtMapUnit (.writeData i v offset data) m rest) :
    exec (.writeData i v offset data) s = .next (s.claimTaken.writePage i v offset data) := by
  show execWriteData i v offset data s = _
  exact takeHostClaim_at h _

theorem writePage_absent (absent : s.entry i v = none) : s.writePage i v offset data = s.refuse .absent := by
  rw [State.writePage, absent]

theorem writePage_protected (present : s.entry i v = some ⟨f, .readOnly⟩) :
    s.writePage i v offset data = s.refuse .isProtected := by
  rw [State.writePage, present]
  exact if_pos rfl

/-- R137: the checks of a present READ_WRITE page, in their order. -/
theorem writePage_present (present : s.entry i v = some ⟨f, .readWrite⟩) :
    s.writePage i v offset data =
      if (s.frame f).isSealed then s.refuse .isSealed
      else if (s.frame f).writer.isSome then s.refuse .inUse
      else if (s.frame f).fill < offset then s.refuse .gap
      else if 4096 < offset + data.length then s.refuse .badField
      else (s.setFrame f { s.frame f with hostHold := true }).beginTransfer (.writeData i v offset data)
        { frame := f, offset := offset, total := data.length, moved := 0, generation := (s.frame f).generation
          isWrite := true, data := data } := by
  rw [State.writePage, present]
  exact if_neg nofun

theorem writePage_sealed (present : s.entry i v = some ⟨f, .readWrite⟩) (closed : (s.frame f).isSealed = true) :
    s.writePage i v offset data = s.refuse .isSealed := by
  rw [writePage_present present, if_pos closed]

theorem writePage_written (present : s.entry i v = some ⟨f, .readWrite⟩) (opened : (s.frame f).isSealed = false)
    (written : (s.frame f).writer ≠ none) : s.writePage i v offset data = s.refuse .inUse := by
  rw [writePage_present present, if_neg (Bool.eq_false_iff.mp opened), if_pos (Option.isSome_iff_ne_none.mpr written)]

/-- R137: a page that a WRITE_DATA may write, if its offset and length allow it. -/
structure Writable (s : State) (i : StreamId) (v : VPage) (f : FrameId) : Prop where
  present : s.entry i v = some ⟨f, .readWrite⟩
  opened : (s.frame f).isSealed = false
  unwritten : (s.frame f).writer = none

theorem writePage_writable (w : Writable s i v f) :
    s.writePage i v offset data =
      if (s.frame f).fill < offset then s.refuse .gap
      else if 4096 < offset + data.length then s.refuse .badField
      else (s.setFrame f { s.frame f with hostHold := true }).beginTransfer (.writeData i v offset data)
        { frame := f, offset := offset, total := data.length, moved := 0, generation := (s.frame f).generation
          isWrite := true, data := data } := by
  rw [writePage_present w.present, if_neg (Bool.eq_false_iff.mp w.opened), if_neg (by simp [w.unwritten])]

theorem writePage_gap (w : Writable s i v f) (gap : (s.frame f).fill < offset) :
    s.writePage i v offset data = s.refuse .gap := by
  rw [writePage_writable w, if_pos gap]

theorem writePage_past (w : Writable s i v f) (joins : offset ≤ (s.frame f).fill) (past : 4096 < offset + data.length) :
    s.writePage i v offset data = s.refuse .badField := by
  rw [writePage_writable w, if_neg (not_lt.mpr joins), if_pos past]

/-- R138: the hold is set. -/
theorem writePage_begins (w : Writable s i v f) (joins : offset ≤ (s.frame f).fill)
    (fits : offset + data.length ≤ 4096) :
    s.writePage i v offset data =
      (s.setFrame f { s.frame f with hostHold := true }).beginTransfer (.writeData i v offset data)
        { frame := f, offset := offset, total := data.length, moved := 0, generation := (s.frame f).generation
          isWrite := true, data := data } := by
  rw [writePage_writable w, if_neg (not_lt.mpr joins), if_neg (not_lt.mpr fits)]

/-- Settles O43: each check is made of the state with the claim taken, whose entries and frames are those of `s`. -/
theorem writeDataChecksAndHolds : Obligations.WriteDataChecksAndHolds := by
  intro s m rest i v offset data h refused
  have refuses {status : Status} (page : s.claimTaken.writePage i v offset data = s.claimTaken.refuse status) :
      exec (.writeData i v offset data) s = .next (refused (statusCode status)) := by
    rw [exec_writeData h, page, refuse_answered (by exact h.queue)]
  refine ⟨fun absent => refuses (writePage_absent absent), fun f present => refuses (writePage_protected present),
    fun f present => ⟨fun closed => refuses (writePage_sealed present closed), fun opened =>
      ⟨fun written => refuses (writePage_written present opened written), fun unwritten => ?_⟩⟩⟩
  have writable : Writable s.claimTaken i v f := ⟨present, opened, unwritten⟩
  refine ⟨fun gap => refuses (writePage_gap writable gap), fun joins past => refuses (writePage_past writable joins past),
    fun joins fits => ?_⟩
  rw [exec_writeData h, writePage_begins writable joins fits]
  rfl

end HostData

/-! ### The bursts of the host access port (R127, R132, R133, R136, R139) -/

section HostBurst

variable {s : State} {b : Burst} {x : Transfer}

theorem exec_hostBurstComplete (out : s.heldInReset = none) (flight : s.arbiter.inFlight = some b)
    (own : b.requester = 8) : exec .hostBurstComplete s = .next (s.completeHostBurst b) := by
  have due : (s.heldInReset.isNone && s.burstInFlight hostRequester) = true := by
    simp [out, State.burstInFlight, flight, own, hostRequester]
  show execHostBurstComplete s = _
  rw [execHostBurstComplete, takeStep_due due, flight]

/-- The transfer of a read with the bytes of a burst (R132). -/
def gotBytes (s : State) (b : Burst) (x : Transfer) : Transfer :=
  { x with moved := x.moved + b.length, data := x.data ++ s.storeBytes b.frame b.offset b.length }

theorem completeHostBurst_reads (transfer : s.command.transfer = some x) (reads : b.isWrite = false) :
    s.completeHostBurst b = s.endBurst.continueTransfer (gotBytes s b x) := by
  rw [State.completeHostBurst, transfer]
  exact if_neg (by simp [reads])

theorem completeHostBurst_writes (transfer : s.command.transfer = some x) (writes : b.isWrite = true) :
    s.completeHostBurst b =
      (s.storeWrite b.frame b.offset b.data).endBurst.continueTransfer { x with moved := x.moved + b.length } := by
  rw [State.completeHostBurst, transfer]
  exact if_pos writes

/-- R133: with bytes left the port makes its next request. -/
theorem continueTransfer_more (more : x.moved < x.total) :
    s.continueTransfer x = (s.setCommand { s.command with transfer := some x }).request 8 x.nextRequest :=
  if_pos more

theorem nextRequest_eq {isWrite : Bool} (same : x.isWrite = isWrite) :
    x.nextRequest =
      { frame := x.frame, offset := x.offset + x.moved, length := min 64 (x.total - x.moved), isWrite := isWrite } := by
  rw [Transfer.nextRequest, same]

/-- R136: a read that is done. -/
theorem continueTransfer_read_done {m : Message} {rest : List Message} (done : x.total ≤ x.moved)
    (reads : x.isWrite = false) (queue : s.command.queue = m :: rest) :
    s.continueTransfer x = s.answered m rest (readDataPayload .ok x.frame x.generation x.data) := by
  unfold State.continueTransfer
  dsimp only
  rw [if_neg (by omega), if_neg (by simp [reads]), produceReply_answered (by exact queue)]
  rfl

/-- R139: a write that is done. -/
theorem continueTransfer_write_done {c : HostCommand} {stage : CommandStage} (done : x.total ≤ x.moved)
    (writes : x.isWrite = true) (current : s.command.current = some ⟨c, stage⟩) :
    s.continueTransfer x =
      (s.setCommand { s.command with current := some ⟨c, .completing⟩, transfer := some x }).sendClaim .host := by
  unfold State.continueTransfer
  dsimp only
  rw [if_neg (by omega), if_pos writes, setCommand_command, current]
  rfl

/-- Settles O44: a read and a write, each with bytes left and done. -/
theorem hostBurstMovesItsBytes : Obligations.HostBurstMovesItsBytes := by
  intro s b x out flight own transfer
  have completes := exec_hostBurstComplete out flight own
  refine ⟨fun reads reading => ?_, fun writes writing => ?_⟩
  · intro got
    rw [completes, completeHostBurst_reads transfer reads]
    refine ⟨fun more => ?_, fun done m rest queue => ?_⟩
    · rw [continueTransfer_more (by exact more), nextRequest_eq (by exact reading)]
      rfl
    · rw [continueTransfer_read_done (by exact done) (by exact reading) (by exact queue)]
      rfl
  · intro stored put
    have ends : ∀ a, stored.storeByte a = (s.storeWrite b.frame b.offset b.data).storeByte a :=
      storeByte_of_keeps (inner_keeps (inner_endBurst _))
    rw [completes, completeHostBurst_writes transfer writes]
    refine ⟨fun k inside => ?_, fun a outside => ?_, fun more => ?_, fun done command stage current => ?_⟩
    · rw [ends]
      exact storeByte_storeWrite_inside s _ _ _ inside
    · rw [ends]
      exact storeByte_storeWrite_outside s _ _ _ outside
    · rw [continueTransfer_more (by exact more), nextRequest_eq (by exact writing)]
      rfl
    · rw [continueTransfer_write_done (by exact done) (by exact writing) (by exact current)]
      rfl

end HostBurst

end Sys2Proof.Proofs

namespace Sys2Proof.Proofs

open Sys2Proof.Machine Sys2Proof.Laws

/-! ### The notice queue (R153 to R155) -/

section NoticeQueue

variable {l : Link} {q before after : List NoticeEntry} {e : NoticeEntry} {stream : Option StreamId}
  {fields : NoticeFields} {kind : NoticeKind}

/-- What tells two notice entries apart (R153). -/
def label (e : NoticeEntry) : Option StreamId × NoticeKind := (e.stream, e.fields.kind)

theorem apart_iff {x y : NoticeEntry} : x.Apart y ↔ label x ≠ label y := by
  simp [NoticeEntry.Apart, label]

theorem pairwise_apart_iff : q.Pairwise NoticeEntry.Apart ↔ (q.map label).Nodup := by
  rw [List.Nodup, List.pairwise_map]
  exact List.Pairwise.iff fun _ _ => apart_iff

theorem isFor_iff : e.isFor stream kind = true ↔ label e = (stream, kind) := by
  simp [NoticeEntry.isFor, label]

/-- The newest fields give the kind (R154). -/
@[simp] theorem mergeFields_kind (held new : NoticeFields) : (mergeFields held new).kind = new.kind := by
  unfold mergeFields
  split <;> rfl

/-- FLOW sums its word count (R154, R92). -/
theorem mergeFields_flow (x y : Count32) :
    mergeFields (.flow x) (.flow y) = .flow (BitVec.ofNat 32 (min (x.toNat + y.toNat) 0xFFFFFFFF)) := rfl

theorem mergeFields_of_held {held : NoticeFields} (other : ∀ x, held ≠ .flow x) (new : NoticeFields) :
    mergeFields held new = new := by
  unfold mergeFields
  split
  · exact absurd rfl (other _)
  · rfl

theorem mergeFields_of_new {new : NoticeFields} (other : ∀ y, new ≠ .flow y) (held : NoticeFields) :
    mergeFields held new = new := by
  unfold mergeFields
  split
  · exact absurd rfl (other _)
  · rfl

/-! #### An occurrence in a queue none of whose entries is frozen -/

/-- A matching entry after one occurrence more (R154). -/
def occurred (e : NoticeEntry) (fields : NoticeFields) : NoticeEntry :=
  { e with occurrences := addOccurrences e.occurrences 1, fields := mergeFields e.fields fields }

theorem coalesce_match (own : label e = (stream, fields.kind)) :
    coalesce (e :: q) stream fields = occurred e fields :: q :=
  if_pos (isFor_iff.mpr own)

theorem coalesce_other (other : label e ≠ (stream, fields.kind)) :
    coalesce (e :: q) stream fields = e :: coalesce q stream fields :=
  if_neg (isFor_iff.not.mpr other)

/-- R153: without a matching entry the occurrence goes to the tail. -/
theorem coalesce_new (new : ∀ x ∈ q, label x ≠ (stream, fields.kind)) :
    coalesce q stream fields = q ++ [⟨stream, 1, fields⟩] := by
  induction q with
  | nil => rfl
  | cons x rest ih =>
    rw [coalesce_other (new x List.mem_cons_self), ih fun y hy => new y (List.mem_cons_of_mem _ hy), List.cons_append]

/-- R154: the first matching entry takes the occurrence at its place. -/
theorem coalesce_place (first : ∀ x ∈ before, label x ≠ (stream, fields.kind))
    (own : label e = (stream, fields.kind)) :
    coalesce (before ++ e :: after) stream fields = before ++ occurred e fields :: after := by
  induction before with
  | nil => exact coalesce_match own
  | cons x rest ih =>
    rw [List.cons_append, coalesce_other (first x List.mem_cons_self),
      ih fun y hy => first y (List.mem_cons_of_mem _ hy), List.cons_append]

theorem label_occurred (own : label e = (stream, fields.kind)) : label (occurred e fields) = label e := by
  rw [own, label, occurred, mergeFields_kind, ← (Prod.mk.inj own).1]

/-- An occurrence adds a label exactly when it is new. -/
theorem labels_coalesce :
    (coalesce q stream fields).map label =
      if (stream, fields.kind) ∈ q.map label then q.map label else q.map label ++ [(stream, fields.kind)] := by
  induction q with
  | nil => rfl
  | cons e rest ih =>
    by_cases own : label e = (stream, fields.kind)
    · rw [coalesce_match own, List.map_cons, List.map_cons, label_occurred own, if_pos (own ▸ List.mem_cons_self)]
    · rw [coalesce_other own, List.map_cons, ih]
      simp only [List.map_cons, List.mem_cons, Ne.symm own, false_or]
      split <;> rfl

theorem nodup_labels_coalesce (apart : (q.map label).Nodup) : ((coalesce q stream fields).map label).Nodup := by
  rw [labels_coalesce]
  split
  · exact apart
  · rename_i new
    exact List.nodup_append.mpr
      ⟨apart, List.nodup_singleton _, fun x hx y hy same => new (List.mem_singleton.mp hy ▸ same ▸ hx)⟩

theorem coalesce_ne_nil : coalesce q stream fields ≠ [] := by
  cases q with
  | nil => nofun
  | cons e rest =>
    by_cases own : label e = (stream, fields.kind)
    · rw [coalesce_match own]
      nofun
    · rw [coalesce_other own]
      nofun

/-- The entry at the head keeps its kind. -/
theorem kind_head_coalesce {x : NoticeEntry} (head : x ∈ (coalesce (e :: q) stream fields).head?) :
    x.fields.kind = e.fields.kind := by
  by_cases own : label e = (stream, fields.kind)
  · rw [coalesce_match own] at head
    cases head
    exact (Prod.mk.inj (label_occurred own)).2
  · rw [coalesce_other own] at head
    cases head
    rfl

/-- The occurrences of an entry or a shadow record (R153). -/
def Counted (n : Nat) : Prop := 1 ≤ n ∧ n ≤ 255

theorem counted_add {n : Nat} (counted : Counted n) (m : Nat) : Counted (addOccurrences n m) := by
  obtain ⟨least, _⟩ := counted
  unfold Counted addOccurrences
  omega

theorem counted_coalesce (counted : ∀ x ∈ q, Counted x.occurrences) :
    ∀ x ∈ coalesce q stream fields, Counted x.occurrences := by
  induction q with
  | nil => simp [coalesce, Counted]
  | cons e rest ih =>
    obtain ⟨head, tail⟩ := List.forall_mem_cons.mp counted
    by_cases own : label e = (stream, fields.kind)
    · rw [coalesce_match own]
      exact List.forall_mem_cons.mpr ⟨counted_add head 1, tail⟩
    · rw [coalesce_other own]
      exact List.forall_mem_cons.mpr ⟨head, ih tail⟩

/-! #### An occurrence at the link -/

/-- R155: the frozen entry takes its occurrences into the shadow record. -/
theorem post_shadow (frozen : l.noticeFrozen = true) (head : l.notices = e :: q)
    (own : label e = (stream, fields.kind)) :
    l.post stream fields = { l with shadow := some (shadowWith l.shadow fields) } := by
  rw [Link.post, frozen, head]
  exact if_pos (isFor_iff.mpr own)

/-- R153, R154: every other occurrence goes into the queue. -/
theorem post_coalesce (other : l.noticeFrozen = true → ∀ x ∈ l.notices.head?, label x ≠ (stream, fields.kind)) :
    l.post stream fields = { l with notices := coalesce l.notices stream fields } := by
  unfold Link.post
  split
  · rename_i e rest frozen head
    have apart := other frozen e (by rw [head]; rfl)
    rw [if_neg (isFor_iff.not.mpr apart), head, coalesce_other apart]
  · rfl

@[simp] theorem shadowWith_kind (shadow : Option Shadow) (fields : NoticeFields) :
    (shadowWith shadow fields).fields.kind = fields.kind := by
  unfold shadowWith
  split
  · rfl
  · exact mergeFields_kind ..

theorem noticeFrozen_of_sending {bytes : List Byte} {marked : Bool} (sends : l.sending = some (.notice bytes marked)) :
    l.noticeFrozen = true := by
  rw [Link.noticeFrozen, sends]

end NoticeQueue

/-- Settles O20: the entry that takes the occurrence is not the frozen one, which stands at the head. -/
theorem matchingOccurrenceCoalesces : Obligations.MatchingOccurrenceCoalesces := by
  intro l before after e stream fields queue frozen first own kind
  have unmatched : ∀ x ∈ before, label x ≠ (stream, fields.kind) := fun x hx same => first x hx (Prod.mk.inj same)
  have posted : l.post stream fields = { l with notices := before ++ occurred e fields :: after } := by
    rw [post_coalesce, queue, coalesce_place unmatched (Prod.ext own kind)]
    intro freezes x head
    obtain ⟨b, rest, rfl⟩ := List.exists_cons_of_ne_nil (frozen freezes)
    rw [queue] at head
    cases head
    exact unmatched _ List.mem_cons_self
  rw [posted, occurred]
  refine ⟨fun x y held new => ?_, fun other => ?_⟩
  · rw [held, new, mergeFields_flow]
    rfl
  · rw [mergeFields_of_new other]
    rfl

/-- Settles O21: the occurrence is appended where no entry matches, and joins the shadow record of the frozen entry. -/
theorem otherOccurrencesAppendOrShadow : Obligations.OtherOccurrencesAppendOrShadow := by
  intro l stream fields
  refine ⟨fun new => ?_, fun bytes marked e es sends queue own kind => ?_⟩
  · have unmatched : ∀ x ∈ l.notices, label x ≠ (stream, fields.kind) := fun x hx same =>
      new x hx (Prod.mk.inj same)
    rw [post_coalesce fun _ x head => unmatched x (List.mem_of_mem_head? head), coalesce_new unmatched]
  · rw [post_shadow (noticeFrozen_of_sending sends) queue (Prod.ext own kind)]
    refine ⟨fun none => ?_, fun n held shadow other => ?_, fun n x y shadow new => ?_⟩
    · rw [none]
      rfl
    · rw [shadow, shadowWith, mergeFields_of_held other]
      rfl
    · rw [shadow, new, shadowWith, mergeFields_flow]
      rfl

end Sys2Proof.Proofs

namespace Sys2Proof.Machine

open Sys2Proof.Laws Sys2Proof.Proofs

/-! ### The laws of the notice queue, operation by operation (R153, R155) -/

section LinkLaws

variable {l : Link}

/-- Outside a read transaction nothing is being sent (R150). -/
theorem Link.NoticesOk.quiet (ok : l.NoticesOk) (other : l.transaction ≠ .read) : l.sending = none := by
  cases sends : l.sending with
  | none => rfl
  | some x => exact absurd (ok.reading (by rw [sends]; rfl)) other

theorem noticeFrozen_quiet (quiet : l.sending = none) : l.noticeFrozen = false := by
  rw [Link.noticeFrozen, quiet]

/-- A shadow record belongs to a frozen entry (R155). -/
theorem Link.NoticesOk.no_shadow (ok : l.NoticesOk) (free : l.noticeFrozen = false) : l.shadow = none := by
  cases shadow : l.shadow with
  | none => rfl
  | some sh => exact absurd (free.symm.trans (ok.shadow sh shadow).1) nofun

theorem Link.NoticesOk.nodup (ok : l.NoticesOk) : (l.notices.map label).Nodup := pairwise_apart_iff.mp ok.apart

/-- The laws read nothing of the replies. -/
theorem Link.NoticesOk.replied (ok : l.NoticesOk) (replies : List Reply) (reservations : Nat) :
    ({ l with replies := replies, reservations := reservations } : Link).NoticesOk :=
  ⟨ok.apart, ok.counted, ok.frozen, ok.shadow, ok.reading, ok.high⟩

/-- R153: an occurrence that no frozen entry takes. -/
theorem Link.NoticesOk.coalesced (ok : l.NoticesOk) (stream : Option StreamId) (fields : NoticeFields) :
    ({ l with notices := coalesce l.notices stream fields } : Link).NoticesOk where
  apart := pairwise_apart_iff.mpr (nodup_labels_coalesce ok.nodup)
  counted := counted_coalesce ok.counted
  frozen _ := coalesce_ne_nil
  shadow sh held := by
    obtain ⟨frozen, least, most, kind⟩ := ok.shadow sh held
    refine ⟨frozen, least, most, ?_⟩
    show ∀ e ∈ (coalesce l.notices stream fields).head?, _
    obtain ⟨x, rest, queue⟩ := List.exists_cons_of_ne_nil (ok.frozen frozen)
    intro e head
    rw [queue] at head kind
    rw [kind_head_coalesce head]
    exact kind x rfl
  reading := ok.reading
  high := ok.high

/-- R155: an occurrence that the frozen entry takes. -/
theorem Link.NoticesOk.shadowed (ok : l.NoticesOk) {e : NoticeEntry} {q : List NoticeEntry} {fields : NoticeFields}
    (frozen : l.noticeFrozen = true) (head : l.notices = e :: q) (kind : e.fields.kind = fields.kind) :
    ({ l with shadow := some (shadowWith l.shadow fields) } : Link).NoticesOk where
  apart := ok.apart
  counted := ok.counted
  frozen := ok.frozen
  shadow := by
    rintro sh ⟨⟩
    have counted : Counted (shadowWith l.shadow fields).occurrences := by
      cases held : l.shadow with
      | none => exact ⟨le_rfl, (by decide : 1 ≤ 255)⟩
      | some sh =>
        obtain ⟨_, least, most, _⟩ := ok.shadow sh held
        exact counted_add ⟨least, most⟩ 1
    refine ⟨frozen, counted.1, counted.2, ?_⟩
    show ∀ x ∈ l.notices.head?, _
    rw [head, shadowWith_kind]
    rintro x ⟨⟩
    exact kind
  reading := ok.reading
  high := ok.high

theorem Link.NoticesOk.post (ok : l.NoticesOk) (stream : Option StreamId) (fields : NoticeFields) :
    (l.post stream fields).NoticesOk := by
  by_cases taken : l.noticeFrozen = true ∧ ∃ x ∈ l.notices.head?, label x = (stream, fields.kind)
  · obtain ⟨frozen, e, head, own⟩ := taken
    obtain ⟨q, queue⟩ := List.head?_eq_some_iff.mp head
    rw [post_shadow frozen queue own]
    exact ok.shadowed frozen queue (Prod.mk.inj own).2
  · rw [post_coalesce fun frozen x head own => taken ⟨frozen, x, head, own⟩]
    exact ok.coalesced ..

theorem Link.NoticesOk.posts {l' : Link} (ok : l.NoticesOk) (posts : Posts l l') : l'.NoticesOk := by
  induction posts with
  | refl => exact ok
  | post _ stream fields ih => exact ih.post stream fields

/-- Nothing is sent any more: the queue keeps its laws alone. -/
theorem noticesOk_unsent {q : List NoticeEntry} (ok : l.NoticesOk) (apart : (q.map label).Nodup)
    (counted : ∀ e ∈ q, Counted e.occurrences) :
    ({ l with notices := q, sending := none, shadow := none } : Link).NoticesOk where
  apart := pairwise_apart_iff.mpr apart
  counted := counted
  frozen := nofun
  shadow := nofun
  reading := nofun
  high := ok.high

/-- R155: the entry that leaves the head and the one that its shadow record becomes have one label. -/
theorem Link.NoticesOk.dropNotice (ok : l.NoticesOk) : l.dropNotice.NoticesOk := by
  unfold Link.dropNotice
  split
  · exact noticesOk_unsent ok ok.nodup ok.counted
  · rename_i e rest queue
    have apart := ok.nodup
    have counted := ok.counted
    rw [queue] at apart counted
    obtain ⟨_, tail⟩ := List.forall_mem_cons.mp counted
    split
    · rename_i shadow
      rw [shadow]
      exact noticesOk_unsent ok (List.nodup_cons.mp apart).2 tail
    · rename_i sh shadow
      obtain ⟨_, least, most, kind⟩ := ok.shadow sh shadow
      have same : label ⟨e.stream, sh.occurrences, sh.fields⟩ = label e :=
        Prod.ext rfl (kind e (by rw [queue]; rfl)).symm
      refine noticesOk_unsent ok ?_ fun x hx => ?_
      · rw [List.map_append, List.map_singleton, same]
        exact (List.perm_append_singleton _ _).nodup_iff.mpr apart
      · rcases List.mem_append.mp hx with old | new
        · exact tail x old
        · rw [List.mem_singleton.mp new]
          exact ⟨least, most⟩

/-- R155: the entry at the head keeps its label. -/
theorem Link.NoticesOk.mergeShadow (ok : l.NoticesOk) : l.mergeShadow.NoticesOk := by
  unfold Link.mergeShadow
  split
  · rename_i e rest sh queue shadow
    obtain ⟨_, _, _, kind⟩ := ok.shadow sh shadow
    have apart := ok.nodup
    have counted := ok.counted
    rw [queue] at apart counted
    obtain ⟨head, tail⟩ := List.forall_mem_cons.mp counted
    refine noticesOk_unsent ok ?_ (List.forall_mem_cons.mpr ⟨counted_add head _, tail⟩)
    have same : label { e with
        occurrences := addOccurrences e.occurrences sh.occurrences, fields := mergeFields e.fields sh.fields } =
        label e :=
      Prod.ext rfl ((mergeFields_kind ..).trans (kind e (by rw [queue]; rfl)).symm)
    rwa [List.map_cons, same]
  · exact noticesOk_unsent ok ok.nodup ok.counted

/-- A reply or the empty message that is sent no more leaves the notices (R151). -/
theorem Link.NoticesOk.stopped (ok : l.NoticesOk) (free : l.noticeFrozen = false) :
    ({ l with sending := none } : Link).NoticesOk := by
  have unsent := noticesOk_unsent ok ok.nodup ok.counted
  rwa [← ok.no_shadow free] at unsent

/-- R150: the message that a read transaction freezes. -/
theorem Link.NoticesOk.selects (ok : l.NoticesOk) (starts : l.transaction = .start) :
    ({ l with transaction := .read, sending := some l.selected } : Link).NoticesOk where
  apart := ok.apart
  counted := ok.counted
  frozen := by
    intro frozen
    show l.notices ≠ []
    intro empty
    cases replies : l.replies <;> simp [Link.noticeFrozen, Link.selected, replies, empty] at frozen
  shadow sh held := by
    have none_held := ok.no_shadow (noticeFrozen_quiet (ok.quiet (by rw [starts]; nofun)))
    exact absurd (none_held.symm.trans held) nofun
  reading _ := rfl
  high high := absurd (starts.symm.trans (ok.high high)) nofun

/-- The level of CS_N and the transaction state, while nothing is being sent (R141). -/
theorem Link.NoticesOk.moves (ok : l.NoticesOk) {x : TransactionState} {c : Bool} (quiet : l.sending = none)
    (idle : c = true → x = .idle) : ({ l with csHigh := c, transaction := x } : Link).NoticesOk where
  apart := ok.apart
  counted := ok.counted
  frozen := ok.frozen
  shadow := ok.shadow
  reading sends := absurd sends (by simp [quiet])
  high := idle

/-- A transaction goes on while CS_N is low and nothing is being sent (R141). -/
theorem Link.NoticesOk.goes (ok : l.NoticesOk) {x : TransactionState} (quiet : l.sending = none)
    (open_ : l.transaction ≠ .idle) : ({ l with transaction := x } : Link).NoticesOk :=
  ok.moves quiet fun high => absurd (ok.high high) open_

theorem Link.NoticesOk.sent (ok : l.NoticesOk) : l.sent.NoticesOk := by
  unfold Link.sent
  split
  · rename_i sends
    exact (ok.stopped (by rw [Link.noticeFrozen, sends])).replied _ l.reservations
  · exact ok.dropNotice
  · rename_i sends
    exact ok.stopped (by rw [Link.noticeFrozen, sends])
  · rename_i sends
    exact ok.stopped (by rw [Link.noticeFrozen, sends])

theorem Link.NoticesOk.cutShort (ok : l.NoticesOk) : l.cutShort.NoticesOk := by
  unfold Link.cutShort
  split
  case h_1 => exact ok.dropNotice
  case h_2 => exact ok.mergeShadow
  all_goals
    rename_i sends
    exact ok.stopped (by rw [Link.noticeFrozen, sends])

/-- R158: a restart leaves the frozen entry at the head, and marks it where it is a stream notice. -/
theorem Link.NoticesOk.restarted (ok : l.NoticesOk) : l.restarted.NoticesOk := by
  have kept {q q' : List NoticeEntry} (queue : l.notices = q) (sub : q'.Sublist q) :
      (q'.map label).Nodup ∧ ∀ e ∈ q', Counted e.occurrences := by
    subst queue
    exact ⟨ok.nodup.sublist (sub.map label), fun e he => ok.counted e (sub.subset he)⟩
  unfold Link.restarted
  split
  · rename_i bytes marked e rest sends queue
    have globals : (e :: globalNotices rest).Sublist (e :: rest) := List.filter_sublist.cons_cons e
    obtain ⟨apart, counted⟩ := kept queue globals
    have frozen := noticeFrozen_of_sending sends
    split
    · refine ⟨pairwise_apart_iff.mpr apart, counted, fun _ => nofun, fun sh held => ?_, ok.reading, ok.high⟩
      obtain ⟨_, least, most, kind⟩ := ok.shadow sh held
      rw [queue] at kind
      exact ⟨frozen, least, most, kind⟩
    · exact ⟨pairwise_apart_iff.mpr apart, counted, fun _ => nofun, nofun,
        fun _ => ok.reading (by rw [sends]; rfl), ok.high⟩
  · rename_i other
    have globals : (globalNotices l.notices).Sublist l.notices := List.filter_sublist
    obtain ⟨apart, counted⟩ := kept rfl globals
    have free : l.noticeFrozen = false := by
      by_contra frozen
      obtain ⟨e, rest, queue⟩ := List.exists_cons_of_ne_nil (ok.frozen (Bool.eq_true_of_not_eq_false frozen))
      unfold Link.noticeFrozen at frozen
      split at frozen
      · rename_i bytes marked sends
        exact other bytes marked e rest sends queue
      · exact frozen rfl
    refine ⟨pairwise_apart_iff.mpr apart, counted, fun frozen => absurd (free.symm.trans frozen) nofun,
      fun sh held => absurd ((ok.no_shadow free).symm.trans held) nofun, ok.reading, ok.high⟩

end LinkLaws

end Sys2Proof.Machine

namespace Sys2Proof.Proofs

open Sys2Proof.Machine Sys2Proof.Laws

/-! ### What the steps of the other blocks do to the link and to the command queue (R149, R153, R158) -/

section Serving

/-- `t` comes from `s` by steps of the blocks other than the link: they post notices, produce replies (R149) and clear
the stream notices at a restart (R158), and do nothing else to the link or to the command queue. -/
inductive Serves (s : State) : State → Prop where
  | refl : Serves s s
  | work {t u : State} (h : Serves s t) (link : Posts t.link u.link) (queue : u.command.queue = t.command.queue)
      (held : u.heldInReset = t.heldInReset) : Serves s u
  | reply {t : State} (h : Serves s t) (payload : List Byte) : Serves s (t.produceReply payload)
  | restart {t : State} (h : Serves s t) : Serves s (t.setLink t.link.restarted)

variable {s t u : State}

theorem Serves.trans (h : Serves s t) (g : Serves t u) : Serves s u := by
  induction g with
  | refl => exact h
  | work _ link queue held ih => exact ih.work link queue held
  | reply _ payload ih => exact ih.reply payload
  | restart _ ih => exact ih.restart

theorem serves_inner (h : Inner s t) : Serves s t :=
  Serves.refl.work h.link (congrArg CommandUnit.queue h.command) h.heldInReset

/-- A change that reaches neither the link nor the command queue. -/
theorem serves_aside (link : t.link = s.link) (queue : t.command.queue = s.command.queue)
    (held : t.heldInReset = s.heldInReset) : Serves s t :=
  Serves.refl.work (link ▸ .refl _) queue held

/-- Inner work, and then the reply. -/
theorem serves_replied (h : Inner s t) (payload : List Byte) : Serves s (t.produceReply payload) :=
  (serves_inner h).reply payload

variable (s) (i : StreamId)

theorem serves_reply (payload : List Byte) : Serves s (s.produceReply payload) := Serves.refl.reply payload
theorem serves_refuse (status : Status) : Serves s (s.refuse status) := serves_reply ..
theorem serves_setStage (c : HostCommand) (g : CommandStage) : Serves s (s.setStage c g) := serves_aside rfl rfl rfl

/-! #### Map and pool commands -/

theorem serves_mapPage (access : Access) (v : VPage) (asked : Option FrameId) :
    Serves s (s.mapPage i access v asked) := by
  have mapped : ∀ f, Serves s (s.mapFrame i access v f) := fun f =>
    serves_replied (((inner_issueFromQueue ..).trans (inner_setEntry ..)).trans (inner_retry ..)) _
  unfold State.mapPage
  split
  · exact serves_refuse ..
  · split
    · exact serves_refuse ..
    · exact mapped _
  · split
    · exact serves_refuse ..
    · exact mapped _

theorem serves_unmapRange (first : VPage) (count : Nat) : Serves s (s.unmapRange i first count) := by
  unfold State.unmapRange
  split
  · exact serves_refuse ..
  · exact serves_replied ((inner_purge ..).trans (inner_releasePages ..)) _

theorem serves_releaseMap : Serves s (s.releaseMap i) := by
  unfold State.releaseMap
  exact serves_replied ((inner_purge ..).trans (inner_releasePages ..)) _

theorem serves_protectRange (access : Access) (first : VPage) (count : Nat) :
    Serves s (s.protectRange i access first count) := by
  have set : ∀ u v, Inner u (State.setAccess u i access v) := fun _ _ => inner_setEntry ..
  unfold State.protectRange
  split_ifs
  iterate 2 exact serves_refuse ..
  exact serves_replied ((inner_purge ..).trans (inner_foldl _ _ set _)) _

theorem serves_shareRange (j : StreamId) (access : Access) (first second : VPage) (count : Nat) :
    Serves s (s.shareRange i j access first second count) := by
  unfold State.shareRange
  dsimp only
  split_ifs
  iterate 4 exact serves_refuse ..
  exact serves_replied ((inner_foldl _ _ (fun u => inner_sharePage u i j access) _).trans (inner_retry ..)) _

/-! #### Frame data and bursts -/

theorem serves_beginTransfer (c : HostCommand) (x : Transfer) : Serves s (s.beginTransfer c x) :=
  serves_aside rfl rfl rfl

theorem serves_readPage (v : VPage) (offset length : Nat) : Serves s (s.readPage i v offset length) := by
  unfold State.readPage
  split
  · exact serves_reply ..
  · dsimp only
    split
    · exact serves_reply ..
    · exact serves_beginTransfer ..

theorem serves_writePage (v : VPage) (offset : Nat) (data : List Byte) : Serves s (s.writePage i v offset data) := by
  unfold State.writePage
  split
  · exact serves_refuse ..
  · dsimp only
    split_ifs
    iterate 5 exact serves_refuse ..
    exact (serves_inner (inner_setFrame ..)).trans (serves_beginTransfer ..)

theorem serves_completeWrite (x : Transfer) : Serves s (s.completeWrite x) :=
  serves_replied (((inner_setFill ..).trans (inner_setFrame ..)).trans (inner_decideAllDeferred _)) _

theorem serves_sealCommand (v : VPage) : Serves s (s.sealCommand i v) := by
  unfold State.sealCommand
  split
  · exact serves_refuse ..
  · dsimp only
    split
    · exact serves_refuse ..
    · exact serves_replied (inner_sealFrame ..) _

theorem serves_grantTo (r : Requester) : Serves s (s.grantTo r) := by
  unfold State.grantTo
  split
  · exact .refl
  · split
    · split
      · exact serves_inner (inner_grantCapture ..)
      · exact serves_inner (inner_grantReplay ..)
    · unfold State.grantHost
      split
      · exact .refl
      · dsimp only
        split
        · exact serves_replied ((inner_granted ..).trans (inner_endBurst _)) _
        · exact serves_inner (inner_granted ..)

theorem serves_storeWrite (f : FrameId) (o : Nat) (bytes : List Byte) : Serves s (s.storeWrite f o bytes) :=
  serves_aside rfl rfl rfl

theorem serves_completeCapture (b : Burst) : Serves s (s.completeCapture i b) := by
  have landed : Serves s (s.landCapture i b) := serves_aside rfl rfl rfl
  unfold State.completeCapture
  dsimp only
  split
  · exact landed.trans (serves_inner (inner_answerRestart ..))
  · exact landed.trans (serves_inner (inner_afterCapture ..))

theorem serves_continueTransfer (x : Transfer) : Serves s (s.continueTransfer x) := by
  unfold State.continueTransfer
  dsimp only
  split_ifs
  · exact serves_aside rfl rfl rfl
  · exact serves_aside rfl rfl rfl
  · exact (serves_aside rfl rfl rfl : Serves s (s.setCommand { s.command with transfer := some x })).reply _

theorem serves_completeHostBurst (b : Burst) : Serves s (s.completeHostBurst b) := by
  unfold State.completeHostBurst
  split
  · exact serves_inner (inner_endBurst s)
  · split
    · exact ((serves_storeWrite ..).trans (serves_inner (inner_endBurst _))).trans (serves_continueTransfer ..)
    · exact (serves_inner (inner_endBurst s)).trans (serves_continueTransfer ..)

/-! #### Stream commands -/

theorem serves_openPort (d : Direction) (p : PortId) (fault : FaultPolicy) (policy : ReleasePolicy) :
    Serves s (s.openPort i d p fault policy) := by
  unfold State.openPort
  split_ifs
  iterate 3 exact serves_refuse ..
  exact serves_replied ((inner_setPort ..).trans (inner_setEngine ..)) _

theorem serves_closeStream (releases : Bool) : Serves s (s.closeStream i releases) := by
  have closed : Inner s (s.closeEngine i) := (inner_modPortOf ..).trans (inner_setEngine ..)
  unfold State.closeStream
  dsimp only
  split_ifs
  · exact ((serves_inner closed).trans (serves_setStage ..)).trans (serves_inner (inner_sendClaim ..))
  · exact serves_replied closed _
  · exact serves_refuse ..

theorem serves_armSlot (name : SlotName) (d : Descriptor) : Serves s (s.armSlot i name d) := by
  unfold State.armSlot
  dsimp only
  split_ifs
  · exact serves_refuse ..
  · exact serves_refuse ..
  · exact serves_replied (inner_setEngine ..) _
  · exact serves_refuse ..
  · exact serves_replied (inner_setEngine ..) _

theorem serves_startSlot (name : SlotName) : Serves s (s.startSlot i name) := by
  unfold State.startSlot
  dsimp only
  split_ifs
  iterate 2 exact serves_refuse ..
  exact serves_replied (((inner_setEngine ..).trans (inner_setGate ..)).trans (inner_enterPage ..)) _

theorem serves_pauseStream : Serves s (s.pauseStream i) := by
  unfold State.pauseStream
  split
  · exact serves_replied (((inner_setGate ..).trans (inner_withdrawRequest ..)).trans (inner_modEngine ..)) _
  · exact serves_refuse ..

theorem serves_resumeStream : Serves s (s.resumeStream i) := by
  have running : ∀ e, Inner s ((s.setGate i true).modEngine i e) := fun _ =>
    (inner_setGate ..).trans (inner_modEngine ..)
  unfold State.resumeStream
  dsimp only
  split_ifs
  · exact serves_replied ((running _).trans (inner_resumeReplay ..)) _
  · exact serves_replied (running _) _
  · exact serves_refuse ..

/-- A STOP or ABORT in WAIT_FAULT (R66). -/
theorem serves_stoppedInFault (reason : EndReason) (c : HostCommand) :
    Serves s ((s.stopInFault i reason).replyToStop i c) := by
  have stopped := serves_inner (inner_stopInFault s i reason)
  unfold State.replyToStop
  split
  · exact stopped.trans (serves_setStage ..)
  · exact stopped.reply _

theorem serves_stopStream : Serves s (s.stopStream i) := by
  unfold State.stopStream
  split
  · unfold State.stopCapture
    split
    case h_1 | h_2 =>
      exact serves_replied (((inner_setGate ..).trans (inner_modEngine ..)).trans (inner_endWhenDrained ..)) _
    case h_3 => exact serves_stoppedInFault ..
    all_goals exact serves_refuse ..
  · unfold State.stopReplay
    split
    case h_1 | h_2 | h_3 | h_4 => exact serves_replied (inner_endReplay ..) _
    all_goals exact serves_refuse ..
  · exact serves_refuse ..

theorem serves_cutCapture : Serves s (s.cutCapture i) :=
  serves_replied
    ((((inner_setGate ..).trans (inner_discardCapture ..)).trans (inner_withdrawRequest ..)).trans
      ((inner_modEngine ..).trans (inner_endWhenDrained ..))) _

theorem serves_abortStream : Serves s (s.abortStream i) := by
  unfold State.abortStream
  split
  · unfold State.abortCapture
    split
    case h_1 | h_2 => exact serves_cutCapture ..
    case h_3 =>
      split
      · exact serves_refuse ..
      · exact serves_cutCapture ..
    case h_4 => exact serves_stoppedInFault ..
    all_goals exact serves_refuse ..
  · unfold State.abortReplay
    split
    case h_1 | h_2 | h_3 | h_4 => exact serves_replied (inner_endReplay ..) _
    case h_5 =>
      split
      · exact serves_refuse ..
      · exact serves_replied (inner_cutReplay ..) _
    all_goals exact serves_refuse ..
  · exact serves_refuse ..

theorem serves_triggerStream : Serves s (s.triggerStream i) := by
  unfold State.triggerStream
  dsimp only
  split
  · exact serves_replied (inner_takeTrigger ..) _
  · exact serves_refuse ..

theorem serves_endingSeal (carried : Option Nat) :
    Serves s (((s.giveUpPlace i carried).endBySeal i).answerStop i) := by
  have ended := serves_inner ((inner_giveUpPlace s i carried).trans (inner_endBySeal _ i))
  unfold State.answerStop
  split
  · exact ended.reply _
  · exact ended

/-! #### The command unit, RESTART and the end of an initialisation -/

theorem serves_takeCommand : Serves s s.takeCommand := by
  unfold State.takeCommand
  split
  · exact .refl
  · split
    · exact serves_refuse ..
    · unfold State.handCommand
      dsimp only
      split
      · exact serves_aside rfl rfl rfl
      · exact serves_aside rfl rfl rfl

theorem serves_sendRestart (scope : RestartScope) : Serves s (s.sendRestart scope) := serves_aside rfl rfl rfl

theorem serves_restart (scope : RestartScope) (n : Nat) : Serves s (s.restart scope n) := by
  unfold State.restart
  cases scope with
  | streams =>
    have cleared := serves_inner ((inner_restartMapUnit s).trans (inner_clearStreams _))
    exact cleared.restart.reply _
  | all =>
    have cleared : Serves s s.restartMapUnit.clearMaps.clearStreams :=
      serves_inner (((inner_restartMapUnit s).trans (inner_setMapUnit ..)).trans (inner_clearStreams _))
    exact cleared.restart.trans (serves_setStage ..)

theorem serves_completeInit : Serves s s.completeInit := by
  have ready := serves_inner ((inner_setMapUnit s { s.mapUnit with initInProgress := false, lowArmed := true }).trans
    (inner_post _ none (.ready s.mapUnit.initReason)))
  unfold State.completeInit State.commandsReady
  dsimp only
  split
  · exact ready.reply _
  · split
    · exact ready.trans (serves_aside rfl rfl rfl)
    · exact ready

end Serving

end Sys2Proof.Proofs

namespace Sys2Proof.Machine

open Sys2Proof.Laws Sys2Proof.Proofs

/-! ### What posting, a send and a restart leave of the link -/

section LinkFields

variable (l : Link) (stream : Option StreamId) (fields : NoticeFields)

@[simp] theorem linkPost_csHigh : (l.post stream fields).csHigh = l.csHigh := by
  obtain ⟨_, _, posted⟩ := post_eq l stream fields; rw [posted]
@[simp] theorem linkPost_transaction : (l.post stream fields).transaction = l.transaction := by
  obtain ⟨_, _, posted⟩ := post_eq l stream fields; rw [posted]
@[simp] theorem linkPost_replies : (l.post stream fields).replies = l.replies := by
  obtain ⟨_, _, posted⟩ := post_eq l stream fields; rw [posted]
@[simp] theorem linkPost_reservations : (l.post stream fields).reservations = l.reservations := by
  obtain ⟨_, _, posted⟩ := post_eq l stream fields; rw [posted]
@[simp] theorem linkPost_sending : (l.post stream fields).sending = l.sending := by
  obtain ⟨_, _, posted⟩ := post_eq l stream fields; rw [posted]

/-- A restart removes and marks notices alone (R158). -/
theorem restarted_eq : ∃ notices sending shadow,
    l.restarted = { l with notices := notices, sending := sending, shadow := shadow } := by
  unfold Link.restarted
  split
  · split
    · exact ⟨_, l.sending, l.shadow, rfl⟩
    · exact ⟨_, _, _, rfl⟩
  · exact ⟨_, l.sending, l.shadow, rfl⟩

theorem dropNotice_eq : ∃ notices shadow,
    l.dropNotice = { l with notices := notices, sending := none, shadow := shadow } := by
  unfold Link.dropNotice
  split
  · exact ⟨l.notices, _, rfl⟩
  · split
    · exact ⟨_, l.shadow, rfl⟩
    · exact ⟨_, _, rfl⟩

theorem mergeShadow_eq : ∃ notices,
    l.mergeShadow = { l with notices := notices, sending := none, shadow := none } := by
  unfold Link.mergeShadow
  split
  · exact ⟨_, rfl⟩
  · exact ⟨l.notices, rfl⟩

/-- A send cut short keeps its reply (R151). -/
theorem cutShort_eq : ∃ notices shadow,
    l.cutShort = { l with notices := notices, sending := none, shadow := shadow } := by
  unfold Link.cutShort
  split
  · exact dropNotice_eq l
  · obtain ⟨notices, merged⟩ := mergeShadow_eq l
    exact ⟨notices, none, merged⟩
  all_goals exact ⟨l.notices, l.shadow, rfl⟩

theorem cutShort_sending : l.cutShort.sending = none := by
  obtain ⟨_, _, cut⟩ := cutShort_eq l; rw [cut]

/-- A complete send removes one reply at most (R151). -/
theorem sent_eq : ∃ replies notices shadow, replies.length ≤ l.replies.length ∧
    l.sent = { l with replies := replies, notices := notices, sending := none, shadow := shadow } := by
  unfold Link.sent
  split
  · exact ⟨_, l.notices, l.shadow, by simp, rfl⟩
  · obtain ⟨notices, shadow, dropped⟩ := dropNotice_eq l
    exact ⟨l.replies, notices, shadow, le_rfl, dropped⟩
  all_goals exact ⟨l.replies, l.notices, l.shadow, le_rfl, rfl⟩

end LinkFields

/-! ### The bounds of admission, step by step (R147) -/

section Admission

variable {s t : State}

/-- The bounds read the replies, the reservations and the command queue. -/
theorem State.AdmissionOk.of_same (ok : s.AdmissionOk) (replies : t.link.replies.length ≤ s.link.replies.length)
    (reservations : t.link.reservations = s.link.reservations) (queue : t.command.queue = s.command.queue) :
    t.AdmissionOk := by
  obtain ⟨reserved, queued, places⟩ := ok
  refine ⟨by rw [reservations, queue, reserved], by rwa [queue], ?_⟩
  omega

/-- R149: the reply takes the place that was reserved for it. -/
theorem State.AdmissionOk.produceReply (ok : s.AdmissionOk) (payload : List Byte) :
    (s.produceReply payload).AdmissionOk := by
  obtain ⟨reserved, queued, places⟩ := ok
  unfold State.produceReply
  split
  · exact ⟨reserved, queued, places⟩
  · rename_i m rest queue
    rw [queue, List.length_cons] at reserved queued
    refine ⟨?_, ?_, ?_⟩
    · show s.link.reservations - 1 = rest.length
      omega
    · show rest.length ≤ 4
      omega
    · show (s.link.replies ++ [_]).length + (s.link.reservations - 1) ≤ 8
      rw [List.length_append, List.length_singleton]
      omega

theorem State.AdmissionOk.linkError (ok : s.AdmissionOk) (reason : LinkErrorReason) :
    (s.linkError reason).AdmissionOk :=
  ok.of_same (by simp [State.linkError]) (by simp [State.linkError]) rfl

/-- R147, R148: a message is admitted, answered FULL, or discarded. -/
theorem State.AdmissionOk.takeForAdmission (ok : s.AdmissionOk) (m : Message) : (s.takeForAdmission m).AdmissionOk := by
  obtain ⟨reserved, queued, places⟩ := ok
  unfold State.takeForAdmission State.replyPlaces
  split_ifs with room short
  · refine ⟨?_, ?_, ?_⟩
    · show s.link.reservations + 1 = (s.command.queue ++ [m]).length
      rw [List.length_append, List.length_singleton, reserved]
    · show (s.command.queue ++ [m]).length ≤ 4
      rw [List.length_append, List.length_singleton]
      omega
    · show s.link.replies.length + (s.link.reservations + 1) ≤ 8
      omega
  · refine ⟨reserved, queued, ?_⟩
    show (s.link.replies ++ [_]).length + s.link.reservations ≤ 8
    rw [List.length_append, List.length_singleton]
    omega
  · exact State.AdmissionOk.linkError ⟨reserved, queued, places⟩ _

end Admission

end Sys2Proof.Machine

namespace Sys2Proof.Proofs

open Sys2Proof.Machine Sys2Proof.Laws

/-! ### The rows of the other blocks -/

section ServingRows

variable {s t : State} {i : StreamId} {occasion : Bool} {effect : State → State}

/-- The rows of the link, and the resets, which begin it anew. -/
def linkRow (row : Instr) : Bool :=
  match row with
  | .csNFall | .csNRise | .writeTransactionStart | .badStart _ | .oversize _ _ _ | .inboundMessage _ _ _ _ | .readSelect
  | .sendComplete | .powerOn | .pinReset | .resetEnd => true
  | _ => false

theorem serves_takeStep (h : takeStep occasion s effect = .next t) (serves : ∀ u, Serves u (effect u)) : Serves s t :=
  takeStep_keeps (P := Serves s) .refl h fun u hu => hu.trans (serves u)

theorem serves_takeHostClaim {command : HostCommand} (h : takeHostClaim command s effect = .next t)
    (serves : ∀ u, Serves u (effect u)) : Serves s t :=
  serves_takeStep h fun u => (serves_inner (inner_dropOldestClaim u)).trans (serves _)

theorem serves_takeEngineClaim {work : EngineClaim → State → Option State} (h : takeEngineClaim i s work = .next t)
    (serves : ∀ c u u', work c u = some u' → Serves u u') : Serves s t :=
  takeEngineClaim_keeps (P := Serves s) .refl h (fun u hu => hu.trans (serves_inner (inner_dropOldestClaim u)))
    fun c u u' answer hu => hu.trans (serves c u u' answer)

/-- Every row but those of the link serves the link alone. -/
theorem serves_exec (row : Instr) (other : linkRow row = false) (h : exec row s = .next t) : Serves s t := by
  cases row with
  | csNFall | csNRise | writeTransactionStart | badStart | oversize | inboundMessage | readSelect | sendComplete
  | powerOn | pinReset | resetEnd => cases other
  -- The claims of the command unit.
  | map =>
    simp only [exec, execMap] at h
    exact serves_takeHostClaim h fun _ => serves_mapPage ..
  | unmap =>
    simp only [exec, execUnmap] at h
    exact serves_takeHostClaim h fun _ => serves_unmapRange ..
  | protect =>
    simp only [exec, execProtect] at h
    exact serves_takeHostClaim h fun _ => serves_protectRange ..
  | share =>
    simp only [exec, execShare] at h
    exact serves_takeHostClaim h fun _ => serves_shareRange ..
  | queryMap | queryFrame | poolStatus =>
    simp only [exec, execQueryMap, execQueryFrame, execPoolStatus] at h
    exact serves_takeHostClaim h fun _ => serves_reply ..
  | setPoolMark =>
    simp only [exec, execSetPoolMark] at h
    exact serves_takeHostClaim h fun _ => serves_replied (inner_setMapUnit ..) _
  | readData =>
    simp only [exec, execReadData] at h
    exact serves_takeHostClaim h fun _ => serves_readPage ..
  | writeData =>
    simp only [exec, execWriteData] at h
    exact serves_takeHostClaim h fun _ => serves_writePage ..
  | sealPage =>
    simp only [exec, execSealPage] at h
    exact serves_takeHostClaim h fun _ => serves_sealCommand ..
  | writeDataCompletion =>
    simp only [exec, execWriteDataCompletion] at h
    refine serves_takeStep h fun u => ?_
    split
    · exact (serves_inner (inner_dropOldestClaim u)).trans (serves_completeWrite ..)
    · exact .refl
  -- The stream commands.
  | openStream =>
    simp only [exec, execOpenStream] at h
    exact serves_takeStep h fun _ => serves_openPort ..
  | closeStream =>
    simp only [exec, execCloseStream] at h
    split at h
    · exact Host.Outcome.next.inj h ▸ (serves_inner (inner_dropOldestClaim s)).trans (serves_releaseMap ..)
    · exact serves_takeStep h fun _ => serves_closeStream ..
  | arm =>
    simp only [exec, execArm] at h
    exact serves_takeStep h fun _ => serves_armSlot ..
  | start =>
    simp only [exec, execStart] at h
    exact serves_takeStep h fun _ => serves_startSlot ..
  | pause =>
    simp only [exec, execPause] at h
    exact serves_takeStep h fun _ => serves_pauseStream ..
  | resume =>
    simp only [exec, execResume] at h
    exact serves_takeStep h fun _ => serves_resumeStream ..
  | stop =>
    simp only [exec, execStop] at h
    exact serves_takeStep h fun _ => serves_stopStream ..
  | abort =>
    simp only [exec, execAbort] at h
    exact serves_takeStep h fun _ => serves_abortStream ..
  | trigger =>
    simp only [exec, execTrigger] at h
    exact serves_takeStep h fun _ => serves_triggerStream ..
  | pendingEdgeTaken =>
    simp only [exec, execPendingEdgeTaken] at h
    exact serves_takeStep h fun _ => serves_inner (inner_takeEdge ..)
  -- The command unit, RESTART and the initialisation.
  | hello | queryStream =>
    simp only [exec, execHello, execQueryStream] at h
    exact serves_takeStep h fun _ => serves_reply ..
  | commandTake =>
    simp only [exec, execCommandTake] at h
    exact serves_takeStep h serves_takeCommand
  | restartStreams | restartAll =>
    simp only [exec, execRestartStreams, execRestartAll] at h
    exact serves_takeStep h fun _ => serves_sendRestart ..
  | engineRestart =>
    simp only [exec, execEngineRestart] at h
    exact serves_takeStep h fun _ => serves_inner (inner_stopEngine ..)
  | restartClaim =>
    cases h
    split
    · exact serves_restart ..
    · exact .refl
  | poolInitAppend =>
    cases h
    split
    · split
      · exact serves_inner (inner_setMapUnit ..)
      · exact .refl
    · exact .refl
  | poolInitComplete =>
    simp only [exec, execPoolInitComplete] at h
    exact serves_takeStep h serves_completeInit
  -- The lanes.
  | captureStrobe =>
    cases h
    split
    · split
      · exact serves_inner (inner_offerWord ..)
      · exact .refl
    · exact .refl
  | replayStrobe =>
    cases h
    split
    · split
      · exact serves_inner (inner_askWord ..)
      · exact .refl
    · exact .refl
  | triggerEdge =>
    simp only [exec, execTriggerEdge] at h
    exact serves_takeStep h fun _ => serves_inner (inner_setPort ..)
  -- Requests, grants and completions.
  | captureBurstRequest | replayBurstRequest =>
    simp only [exec, execCaptureBurstRequest, execReplayBurstRequest] at h
    exact serves_takeStep h fun _ => serves_inner (inner_requestBurst ..)
  | arbiterGrant =>
    simp only [exec, execArbiterGrant] at h
    refine serves_takeStep h fun u => ?_
    split
    · exact serves_grantTo ..
    · exact .refl
  | captureBurstComplete =>
    simp only [exec, execCaptureBurstComplete] at h
    refine serves_takeStep h fun u => ?_
    split
    · exact serves_completeCapture ..
    · exact .refl
  | replayBurstComplete =>
    simp only [exec, execReplayBurstComplete] at h
    refine serves_takeStep h fun u => ?_
    split
    · exact serves_inner (inner_completeReplay ..)
    · exact .refl
  | hostBurstComplete =>
    simp only [exec, execHostBurstComplete] at h
    refine serves_takeStep h fun u => ?_
    split
    · exact serves_completeHostBurst ..
    · exact .refl
  -- The claims of the stream engines.
  | fillReport =>
    simp only [exec, execFillReport] at h
    refine serves_takeEngineClaim h fun c _ _ answer => ?_
    cases c <;> cases answer
    exact serves_inner (inner_setFill ..)
  | leaveSealClaim =>
    simp only [exec, execLeaveSealClaim] at h
    refine serves_takeEngineClaim h fun c _ _ answer => ?_
    cases c <;> cases answer
    exact serves_inner (inner_takeLeaveSeal ..)
  | endingSealClaim =>
    simp only [exec, execEndingSealClaim] at h
    refine serves_takeEngineClaim h fun c _ _ answer => ?_
    cases c <;> cases answer
    exact serves_endingSeal ..
  | writeClaim =>
    simp only [exec, execWriteClaim] at h
    refine serves_takeEngineClaim h fun c _ _ answer => ?_
    cases c <;> cases answer
    exact serves_inner (inner_writeClaim ..)
  | releaseClaim =>
    simp only [exec, execReleaseClaim] at h
    refine serves_takeEngineClaim h fun c _ _ answer => ?_
    cases c <;> cases answer
    exact serves_inner (inner_takeRelease ..)
  | readClaim =>
    simp only [exec, execReadClaim] at h
    split at h
    case h_1 => cases h; exact serves_inner ((inner_dropOldestClaim s).trans (inner_answerRead ..))
    all_goals cases h; exact serves_inner (inner_continuePageChange ..)
  | waitDataSignal =>
    simp only [exec, execWaitDataSignal] at h
    exact serves_takeStep h fun _ => serves_inner (inner_takeSignal ..)

/-- The other blocks keep the bounds of admission. -/
theorem Serves.admissionOk (serves : Serves s t) (ok : s.AdmissionOk) : t.AdmissionOk := by
  induction serves with
  | refl => exact ok
  | work _ link queue _ ih =>
    obtain ⟨_, _, posted⟩ := link.eq
    exact ih.of_same (by rw [posted]) (by rw [posted]) queue
  | reply _ payload ih => exact ih.produceReply payload
  | @restart t _ ih =>
    obtain ⟨_, _, _, cleared⟩ := restarted_eq t.link
    exact ih.of_same (by rw [setLink_link, cleared]) (by rw [setLink_link, cleared]) rfl

@[simp] theorem produceReply_held (s : State) (payload : List Byte) :
    (s.produceReply payload).heldInReset = s.heldInReset := by
  unfold State.produceReply
  split <;> rfl

@[simp] theorem produceReply_transaction (s : State) (payload : List Byte) :
    (s.produceReply payload).link.transaction = s.link.transaction := by
  unfold State.produceReply
  split <;> rfl

/-- A reply leaves the notices. -/
theorem noticesOk_produceReply (ok : s.link.NoticesOk) (payload : List Byte) :
    (s.produceReply payload).link.NoticesOk := by
  unfold State.produceReply
  split
  · exact ok
  · exact ok.replied ..

/-- The other blocks keep the laws of the link. -/
theorem Serves.linkOk (serves : Serves s t) (ok : s.LinkOk) : t.LinkOk := by
  induction serves with
  | refl => exact ok
  | work _ link _ held ih =>
    obtain ⟨_, _, posted⟩ := link.eq
    exact ⟨ih.notices.posts link, fun holds => by rw [posted]; exact ih.held (held ▸ holds)⟩
  | reply _ payload ih =>
    exact ⟨noticesOk_produceReply ih.notices payload, fun holds => by
      rw [produceReply_transaction]
      exact ih.held (produceReply_held _ payload ▸ holds)⟩
  | @restart t _ ih =>
    obtain ⟨_, _, _, cleared⟩ := restarted_eq t.link
    exact ⟨ih.notices.restarted, fun holds => by rw [setLink_link, cleared]; exact ih.held holds⟩

end ServingRows

end Sys2Proof.Proofs

namespace Sys2Proof.Proofs

open Sys2Proof.Machine Sys2Proof.Laws

/-! ### The rows of the link, and the resets (R141 to R151, R156, R157) -/

section LinkRows

variable {s t : State}

theorem transactionIs_iff {x : TransactionState} :
    s.transactionIs x = true ↔ s.heldInReset = none ∧ s.link.transaction = x := by
  simp [State.transactionIs]

/-- Out of reset the link keeps the laws of the notice queue alone. -/
theorem linkOk_out (out : t.heldInReset = none) (ok : t.link.NoticesOk) : t.LinkOk :=
  ⟨ok, fun held => by rw [out] at held; cases held⟩

/-! #### The bounds of admission -/

theorem admissionOk_setTransaction (ok : s.AdmissionOk) (x : TransactionState) : (s.setTransaction x).AdmissionOk :=
  ok.of_same le_rfl rfl rfl

theorem admissionOk_sent (ok : s.AdmissionOk) : (s.setLink s.link.sent).AdmissionOk := by
  obtain ⟨_, _, _, fewer, sent⟩ := sent_eq s.link
  exact ok.of_same (by rw [setLink_link, sent]; exact fewer) (by rw [setLink_link, sent]) rfl

theorem admissionOk_csRise (ok : s.AdmissionOk) : s.csRise.AdmissionOk := by
  have ended : s.endTransaction.AdmissionOk := by
    unfold State.endTransaction
    split
    · exact ok.linkError _
    · obtain ⟨_, _, cut⟩ := cutShort_eq s.link
      exact ok.of_same (by rw [setLink_link, cut]) (by rw [setLink_link, cut]) rfl
    all_goals exact ok
  unfold State.csRise
  dsimp only
  split
  · exact ended.of_same le_rfl rfl rfl
  · exact ok.of_same le_rfl rfl rfl

/-- The reset values of the link and the command unit (R156, R159). -/
theorem admissionOk_of_reset {high : Bool} (link : t.link = Link.reset high) (command : t.command = CommandUnit.reset) :
    t.AdmissionOk := by
  constructor <;> simp [link, command, Link.reset, CommandUnit.reset]

theorem admissionOk_linkRow (row : Instr) (own : linkRow row = true) (ok : s.AdmissionOk)
    (h : exec row s = .next t) : t.AdmissionOk := by
  cases row with
  | csNFall =>
    simp only [exec, execCsNFall] at h
    refine takeStep_keeps ok h fun u hu => ?_
    unfold State.csFall
    dsimp only
    split
    · exact hu.of_same le_rfl rfl rfl
    · exact hu.of_same le_rfl rfl rfl
  | csNRise =>
    simp only [exec, execCsNRise] at h
    exact takeStep_keeps ok h fun _ => admissionOk_csRise
  | writeTransactionStart =>
    simp only [exec, execWriteTransactionStart] at h
    exact takeStep_keeps ok h fun _ hu => admissionOk_setTransaction hu _
  | badStart | oversize =>
    simp only [exec, execBadStart, execOversize] at h
    exact takeStep_keeps ok h fun _ hu => admissionOk_setTransaction (hu.linkError _) _
  | inboundMessage =>
    simp only [exec, execInboundMessage] at h
    refine takeStep_keeps ok h fun u hu => ?_
    have received := admissionOk_setTransaction hu .writeIgnore
    split
    · exact received.takeForAdmission _
    · exact received.linkError _
  | readSelect =>
    simp only [exec, execReadSelect] at h
    exact takeStep_keeps ok h fun _ hu => hu.of_same le_rfl rfl rfl
  | sendComplete =>
    simp only [exec, execSendComplete] at h
    exact takeStep_keeps ok h fun _ => admissionOk_sent
  | powerOn | pinReset => cases h; exact admissionOk_of_reset rfl rfl
  | resetEnd =>
    simp only [exec, execResetEnd] at h
    exact takeStep_keeps ok h fun _ hu => hu.of_same le_rfl rfl rfl
  | _ => cases own

/-! #### The laws of the notice queue -/

/-- CS_N falls on an idle link (R141). -/
theorem linkOk_csFall (ok : s.LinkOk) (high : s.link.csHigh = true) : s.csFall.LinkOk := by
  have idle := ok.notices.high high
  have quiet := ok.notices.quiet (by rw [idle]; nofun)
  unfold State.csFall
  dsimp only
  split
  · rename_i out
    exact linkOk_out (Option.isNone_iff_eq_none.mp out) (ok.notices.moves quiet nofun)
  · exact ⟨ok.notices.moves quiet nofun, fun _ => idle⟩

/-- The end of a transaction leaves nothing to send (R141, R151). -/
theorem noticesOk_endTransaction (ok : s.link.NoticesOk) :
    s.endTransaction.link.NoticesOk ∧ s.endTransaction.link.sending = none := by
  unfold State.endTransaction
  split
  case h_1 transaction => exact ⟨ok.post .., (linkPost_sending ..).trans (ok.quiet (by rw [transaction]; nofun))⟩
  case h_2 => exact ⟨ok.cutShort, cutShort_sending _⟩
  all_goals
    rename_i transaction
    exact ⟨ok, ok.quiet (by rw [transaction]; nofun)⟩

theorem linkOk_csRise (ok : s.LinkOk) : s.csRise.LinkOk := by
  unfold State.csRise
  dsimp only
  split
  · obtain ⟨ended, quiet⟩ := noticesOk_endTransaction ok.notices
    exact ⟨ended.moves quiet fun _ => rfl, fun _ => rfl⟩
  · rename_i held
    have idle := ok.held (Option.isSome_iff_ne_none.mpr (by simpa using held))
    exact ⟨ok.notices.moves (ok.notices.quiet (by rw [idle]; nofun)) fun _ => rfl, fun _ => rfl⟩

/-- Within a transaction that sends nothing, an error may be posted and the state moves on (R141, R142, R145). -/
theorem linkOk_setTransaction (ok : s.LinkOk) (out : s.heldInReset = none) (unread : s.link.transaction ≠ .read)
    (open_ : s.link.transaction ≠ .idle) (x : TransactionState) : (s.setTransaction x).LinkOk :=
  linkOk_out out (ok.notices.goes (ok.notices.quiet unread) open_)

theorem linkOk_linkError (ok : s.LinkOk) (reason : LinkErrorReason) : (s.linkError reason).LinkOk :=
  (serves_inner (inner_post s none (.linkError reason))).linkOk ok

/-- R142, R145: a transaction that is ignored from here on. -/
theorem linkOk_ignored (ok : s.LinkOk) (out : s.heldInReset = none) (unread : s.link.transaction ≠ .read)
    (open_ : s.link.transaction ≠ .idle) (reason : LinkErrorReason) (x : TransactionState) :
    ((s.linkError reason).setTransaction x).LinkOk := by
  have kept : (s.linkError reason).link.transaction = s.link.transaction := linkPost_transaction ..
  exact linkOk_setTransaction (linkOk_linkError ok reason) out (by rwa [kept]) (by rwa [kept]) x

/-- R147, R148: an admission and a FULL reply leave the notices. -/
theorem linkOk_takeForAdmission (ok : s.LinkOk) (m : Message) : (s.takeForAdmission m).LinkOk := by
  unfold State.takeForAdmission
  split
  · split
    · exact ⟨ok.notices.replied .., ok.held⟩
    · exact ⟨ok.notices.replied .., ok.held⟩
  · exact linkOk_linkError ok _

/-- R157: the link is idle or ignores a transaction that it has not seen begin. -/
theorem linkOk_startUp (ok : s.LinkOk) (held : s.heldInReset.isSome = true) : s.startUp.LinkOk := by
  have idle := ok.held held
  refine linkOk_out rfl (ok.notices.moves (ok.notices.quiet (by rw [idle]; nofun)) fun high => ?_)
  exact if_pos high

theorem linkOk_of_reset {high : Bool} (link : t.link = Link.reset high) : t.LinkOk := by
  refine ⟨?_, fun _ => by rw [link]; rfl⟩
  rw [link]
  exact
    { apart := List.Pairwise.nil
      counted := nofun
      frozen := nofun
      shadow := nofun
      reading := nofun
      high := fun _ => rfl }

theorem linkOk_linkRow (row : Instr) (own : linkRow row = true) (ok : s.LinkOk) (h : exec row s = .next t) :
    t.LinkOk := by
  cases row with
  | csNFall =>
    simp only [exec, execCsNFall] at h
    rcases takeStep_next h with rfl | ⟨high, rfl⟩
    · exact ok
    · exact linkOk_csFall ok high
  | csNRise =>
    simp only [exec, execCsNRise] at h
    exact takeStep_keeps ok h fun _ => linkOk_csRise
  | writeTransactionStart =>
    simp only [exec, execWriteTransactionStart] at h
    rcases takeStep_next h with rfl | ⟨due, rfl⟩
    · exact ok
    · obtain ⟨out, starts⟩ := transactionIs_iff.mp due
      exact linkOk_setTransaction ok out (by rw [starts]; nofun) (by rw [starts]; nofun) _
  | badStart first =>
    simp only [exec, execBadStart] at h
    rcases takeStep_next h with rfl | ⟨due, rfl⟩
    · exact ok
    · simp only [Bool.and_eq_true, transactionIs_iff] at due
      obtain ⟨⟨⟨out, starts⟩, _⟩, _⟩ := due
      exact linkOk_ignored ok out (by rw [starts]; nofun) (by rw [starts]; nofun) ..
  | oversize =>
    simp only [exec, execOversize] at h
    rcases takeStep_next h with rfl | ⟨due, rfl⟩
    · exact ok
    · simp only [Bool.and_eq_true, transactionIs_iff] at due
      obtain ⟨⟨out, writes⟩, _⟩ := due
      exact linkOk_ignored ok out (by rw [writes]; nofun) (by rw [writes]; nofun) ..
  | inboundMessage =>
    simp only [exec, execInboundMessage] at h
    rcases takeStep_next h with rfl | ⟨due, rfl⟩
    · exact ok
    · simp only [Bool.and_eq_true, transactionIs_iff] at due
      obtain ⟨⟨out, writes⟩, _⟩ := due
      have received := linkOk_setTransaction ok out (by rw [writes]; nofun) (by rw [writes]; nofun) .writeIgnore
      split
      · exact linkOk_takeForAdmission received _
      · exact linkOk_linkError received _
  | readSelect =>
    simp only [exec, execReadSelect] at h
    rcases takeStep_next h with rfl | ⟨due, rfl⟩
    · exact ok
    · obtain ⟨out, starts⟩ := transactionIs_iff.mp due
      exact linkOk_out out (ok.notices.selects starts)
  | sendComplete =>
    simp only [exec, execSendComplete] at h
    rcases takeStep_next h with rfl | ⟨due, rfl⟩
    · exact ok
    · simp only [Bool.and_eq_true, transactionIs_iff] at due
      obtain ⟨⟨out, _⟩, _⟩ := due
      exact linkOk_out out ok.notices.sent
  | powerOn | pinReset => cases h; exact linkOk_of_reset rfl
  | resetEnd =>
    simp only [exec, execResetEnd] at h
    rcases takeStep_next h with rfl | ⟨held, rfl⟩
    · exact ok
    · exact linkOk_startUp ok held
  | _ => cases own

end LinkRows

/-- A law of one row is a law of every step, where it reads nothing of the queue of offered steps. -/
theorem step_keeps {P : State → Prop} {s t : State} (ok : P s) (h : step s = .next t)
    (offered : ∀ rest, P { s with pending := rest }) (row : ∀ i u, P u → exec i u = .next t → P t) : P t := by
  unfold step at h
  split at h
  · cases h
    exact ok
  · exact row _ _ (offered _) h

/-- Settles O5: the rows of the link, and those of the other blocks. -/
theorem admissionStaysWithinBounds : Obligations.AdmissionStaysWithinBounds := by
  intro s t ok h
  refine step_keeps ok h (fun _ => ⟨ok.reserved, ok.queued, ok.places⟩) fun row u hu goes => ?_
  cases own : linkRow row with
  | true => exact admissionOk_linkRow row own hu goes
  | false => exact (serves_exec row own goes).admissionOk hu

/-- Settles O7: the rows of the link, and those of the other blocks. -/
theorem noticesStayApart : Obligations.NoticesStayApart := by
  intro s t ok h
  refine step_keeps ok h (fun _ => ⟨ok.notices, ok.held⟩) fun row u hu goes => ?_
  cases own : linkRow row with
  | true => exact linkOk_linkRow row own hu goes
  | false => exact (serves_exec row own goes).linkOk hu

end Sys2Proof.Proofs

namespace Sys2Proof.Proofs

open Sys2Proof.Machine Sys2Proof.Laws

/-! ### The part held in reset (R156, R164) -/

section HeldInReset

variable {s : State}

theorem isNone_held (held : s.heldInReset.isSome = true) : s.heldInReset.isNone = false :=
  Bool.eq_false_iff.mpr (Option.isNone_iff_eq_none.not.mpr (Option.isSome_iff_ne_none.mp held))

theorem oldestClaim_held (held : s.heldInReset.isSome = true) : s.oldestClaim = none := by
  simp [State.oldestClaim, State.mapUnitTakes, isNone_held held]

theorem claimOf_held (held : s.heldInReset.isSome = true) (i : StreamId) : s.claimOf i = none := by
  rw [State.claimOf, oldestClaim_held held]

theorem engineLive_held (held : s.heldInReset.isSome = true) (i : StreamId) : s.engineLive i = false := by
  rw [State.engineLive, isNone_held held, Bool.false_and]

theorem engineFree_held (held : s.heldInReset.isSome = true) (i : StreamId) : s.engineFree i = false := by
  simp [State.engineFree, engineLive_held held]

theorem boundStream_held (held : s.heldInReset.isSome = true) (p : PortId) : s.boundStream p = none := by
  simp [State.boundStream, isNone_held held]

theorem transactionIs_held (held : s.heldInReset.isSome = true) (x : TransactionState) : s.transactionIs x = false := by
  rw [State.transactionIs, isNone_held held, Bool.false_and]

theorem takeEngineClaim_held (held : s.heldInReset.isSome = true) (i : StreamId)
    (work : EngineClaim → State → Option State) : takeEngineClaim i s work = .next s := by
  rw [takeEngineClaim, claimOf_held held]

/-- R164: no command is current in reset. -/
theorem current_held (ok : s.ExecutionOk) (held : s.heldInReset.isSome = true) : s.command.current = none := by
  rw [ok.held held]
  rfl

end HeldInReset

/-- Settles O12: no command is current, no claim is taken, no engine is live, no port is reached, and the link is in no
transaction. -/
theorem heldPartIgnoresOtherSteps : Obligations.HeldPartIgnoresOtherSteps := by
  intro row s held ok power pin ends falls rises
  have idle := current_held ok held
  cases carries : row.command? with
  | some c =>
    refine exec_notCurrent carries fun stage => ?_
    rw [idle]
    nofun
  | none =>
    cases row with
    | powerOn | pinReset | resetEnd | csNFall | csNRise => contradiction
    | badStart | oversize | inboundMessage | readSelect | sendComplete | writeTransactionStart =>
      simp only [exec, execBadStart, execOversize, execInboundMessage, execReadSelect, execSendComplete,
        execWriteTransactionStart]
      exact takeStep_not_due (by simp [transactionIs_held held]) _
    | writeDataCompletion =>
      simp only [exec, execWriteDataCompletion]
      exact takeStep_not_due (by simp [State.completionDue, idle]) _
    | restartClaim => simp [exec, execRestartClaim, State.restartDue, idle]
    | commandTake =>
      simp only [exec, execCommandTake]
      exact takeStep_not_due (by simp [State.takesCommand, isNone_held held]) _
    | poolInitAppend =>
      simp only [exec, execPoolInitAppend, isNone_held held]
      split <;> rfl
    | poolInitComplete =>
      simp only [exec, execPoolInitComplete]
      exact takeStep_not_due (by simp [isNone_held held]) _
    | captureStrobe | replayStrobe => simp only [exec, execCaptureStrobe, execReplayStrobe, boundStream_held held]
    | triggerEdge =>
      simp only [exec, execTriggerEdge]
      exact takeStep_not_due (by simp [boundStream_held held]) _
    | pendingEdgeTaken | waitDataSignal =>
      simp only [exec, execPendingEdgeTaken, execWaitDataSignal]
      exact takeStep_not_due (by simp [engineFree_held held]) _
    | captureBurstRequest | replayBurstRequest =>
      simp only [exec, execCaptureBurstRequest, execReplayBurstRequest]
      exact takeStep_not_due (by simp [engineLive_held held]) _
    | arbiterGrant | captureBurstComplete | replayBurstComplete | hostBurstComplete | engineRestart =>
      simp only [exec, execArbiterGrant, execCaptureBurstComplete, execReplayBurstComplete, execHostBurstComplete,
        execEngineRestart]
      exact takeStep_not_due (by simp [isNone_held held]) _
    | fillReport | leaveSealClaim | endingSealClaim | writeClaim | releaseClaim =>
      simp only [exec, execFillReport, execLeaveSealClaim, execEndingSealClaim, execWriteClaim, execReleaseClaim]
      exact takeEngineClaim_held held ..
    | readClaim =>
      simp only [exec, execReadClaim, claimOf_held held, State.continuePageChange, engineLive_held held]
      rfl
    | _ => cases carries

/-! ### A transaction (R141 to R158) -/

section Transactions

variable {s : State}

theorem transactionIs_out {x : TransactionState} (out : s.heldInReset = none) (at_ : s.link.transaction = x) :
    s.transactionIs x = true := transactionIs_iff.mpr ⟨out, at_⟩

theorem transactionIs_other {x : TransactionState} (other : s.link.transaction ≠ x) : s.transactionIs x = false :=
  Bool.eq_false_iff.mpr fun at_ => other (transactionIs_iff.mp at_).2

/-- R141: CS_N falls. -/
theorem exec_csNFall (out : s.heldInReset = none) (high : s.link.csHigh = true) :
    exec .csNFall s = .next { s with link := { s.link with csHigh := false, transaction := .start } } := by
  have falls : s.csFall = { s with link := { s.link with csHigh := false, transaction := .start } } :=
    if_pos (Option.isNone_iff_eq_none.mpr out)
  simp only [exec, execCsNFall]
  rw [takeStep_due high, falls]

/-- R142: a first byte of neither kind. -/
theorem exec_badStart (out : s.heldInReset = none) (starts : s.link.transaction = .start) {first : Byte}
    (write : first ≠ 0xA5) (read : first ≠ 0x5A) :
    exec (.badStart first) s = .next ((s.linkError .badStart).setTransaction .ignore) := by
  have due : (s.transactionIs .start && first != 0xA5 && first != 0x5A) = true := by
    rw [transactionIs_out out starts, bne_iff_ne.mpr write, bne_iff_ne.mpr read]
    rfl
  simp only [exec, execBadStart]
  exact takeStep_due due _

/-- R145: a length above the largest. -/
theorem exec_oversize (out : s.heldInReset = none) (writes : s.link.transaction = .write) {length : Word}
    (long : 264 < length.toNat) (kind tag : Byte) :
    exec (.oversize kind tag length) s = .next ((s.linkError .oversize).setTransaction .writeIgnore) := by
  simp only [exec, execOversize]
  exact takeStep_due (by simp [transactionIs_out out writes, maxPayload, long]) _

theorem isIntact_iff {kind tag : Byte} {payload : List Byte} {crc : Word} :
    isIntact ⟨kind, tag, payload⟩ crc = true ↔
      crc16 (kind :: tag :: byteOf payload.length :: byteOf (payload.length / 256) :: payload) = crc :=
  beq_iff_eq

/-- R143: the message has been received to its end. -/
theorem exec_inboundMessage (out : s.heldInReset = none) (writes : s.link.transaction = .write) {payload : List Byte}
    (short : payload.length ≤ 264) (kind tag : Byte) (crc : Word) :
    exec (.inboundMessage kind tag payload crc) s =
      .next (if isIntact ⟨kind, tag, payload⟩ crc then
        (s.setTransaction .writeIgnore).takeForAdmission ⟨kind, tag, payload⟩
      else (s.setTransaction .writeIgnore).linkError .crc) := by
  simp only [exec, execInboundMessage]
  exact takeStep_due (by simp [transactionIs_out out writes, maxPayload, short]) _

theorem takeForAdmission_admits {m : Message} (room : s.replyPlaces < 8) (short : s.command.queue.length < 4) :
    s.takeForAdmission m = s.admitMessage m := by
  rw [State.takeForAdmission, if_pos room, if_pos short]

theorem takeForAdmission_full {m : Message} (room : s.replyPlaces < 8) (full : 4 ≤ s.command.queue.length) :
    s.takeForAdmission m = s.answerFull m := by
  rw [State.takeForAdmission, if_pos room, if_neg (not_lt.mpr full)]

theorem takeForAdmission_discards {m : Message} (none_left : 8 ≤ s.replyPlaces) :
    s.takeForAdmission m = s.linkError .discarded := by
  rw [State.takeForAdmission, if_neg (not_lt.mpr none_left)]

/-- R150: the oldest reply, the oldest notice entry, or the empty message. -/
theorem exec_readSelect (out : s.heldInReset = none) (starts : s.link.transaction = .start) :
    exec .readSelect s =
      .next { s with link := { s.link with transaction := .read, sending := some s.link.selected } } := by
  simp only [exec, execReadSelect]
  exact takeStep_due (transactionIs_out out starts) _

theorem exec_sendComplete {x : Sending} (out : s.heldInReset = none) (reads : s.link.transaction = .read)
    (sends : s.link.sending = some x) : exec .sendComplete s = .next { s with link := s.link.sent } := by
  simp only [exec, execSendComplete]
  exact takeStep_due (by simp [transactionIs_out out reads, sends]) _

/-- R141: CS_N rises on the link as the transaction has left it. -/
theorem exec_csNRise (out : s.heldInReset = none) (low : s.link.csHigh = false) :
    exec .csNRise s =
      .next (s.endTransaction.setLink { s.endTransaction.link with csHigh := true, transaction := .idle }) := by
  have rises : s.csRise =
      s.endTransaction.setLink { s.endTransaction.link with csHigh := true, transaction := .idle } := by
    simp [State.csRise, out]
  simp only [exec, execCsNRise]
  rw [takeStep_due (by simp [low]), rises]

/-- R145: a write transaction is cut off. -/
theorem endTransaction_write (writes : s.link.transaction = .write) : s.endTransaction = s.linkError .truncated := by
  rw [State.endTransaction, writes]

/-- R151: a read transaction ends what is being sent. -/
theorem endTransaction_read (reads : s.link.transaction = .read) : s.endTransaction = s.setLink s.link.cutShort := by
  rw [State.endTransaction, reads]

theorem endTransaction_other (unwritten : s.link.transaction ≠ .write) (unread : s.link.transaction ≠ .read) :
    s.endTransaction = s := by
  unfold State.endTransaction
  split
  · contradiction
  · contradiction
  all_goals rfl

/-- R141, R151: CS_N rises in a read transaction. -/
theorem exec_csNRise_read (out : s.heldInReset = none) (low : s.link.csHigh = false)
    (reads : s.link.transaction = .read) :
    exec .csNRise s = .next { s with link := { s.link.cutShort with csHigh := true, transaction := .idle } } := by
  rw [exec_csNRise out low, endTransaction_read reads]
  rfl

end Transactions

/-- Settles O17: the ignore state is none of those in which the link takes a byte. -/
theorem badStartIsIgnored : Obligations.BadStartIsIgnored := by
  refine ⟨fun s first out starts write read => exec_badStart out starts write read, fun s ignored => ?_⟩
  have unstarted : s.transactionIs .start = false := transactionIs_other (by rw [ignored]; nofun)
  have unwritten : s.transactionIs .write = false := transactionIs_other (by rw [ignored]; nofun)
  have unread : s.transactionIs .read = false := transactionIs_other (by rw [ignored]; nofun)
  simp only [exec, execInboundMessage, execOversize, execBadStart, execReadSelect, execSendComplete,
    execWriteTransactionStart, unstarted, unwritten, unread, Bool.false_and]
  exact ⟨fun _ _ _ _ => rfl, fun _ _ _ => rfl, fun _ => rfl, rfl, rfl, rfl⟩

/-- R144: the check value of the CRC. -/
theorem crc16_check : crc16 [0x31, 0x32, 0x33, 0x34, 0x35, 0x36, 0x37, 0x38, 0x39] = 0x29B1 := by
  decide +kernel

/-- Settles O18: the CRC decides first, then the places for replies, then the command queue. -/
theorem inboundMessageIsAdmittedOrRefused : Obligations.InboundMessageIsAdmittedOrRefused := by
  refine ⟨fun s kind tag payload crc out writes short => ?_, fun s kind tag length out writes long => ?_, crc16_check,
    rfl⟩
  · rw [exec_inboundMessage out writes short]
    refine ⟨fun wrong => ?_, fun right => ?_⟩
    · rw [if_neg (isIntact_iff.not.mpr wrong)]
      rfl
    · rw [if_pos (isIntact_iff.mpr right)]
      refine ⟨fun queued room => ?_, fun queued room => ?_, fun noRoom => ?_⟩
      · rw [takeForAdmission_admits (by exact room) (by exact queued)]
        rfl
      · rw [takeForAdmission_full (by exact room) (by exact queued)]
        rfl
      · rw [takeForAdmission_discards (by exact noRoom)]
        rfl
  · refine ⟨_, exec_oversize out writes long kind tag, rfl, fun low => ?_⟩
    have still : ((s.linkError .oversize).setTransaction .writeIgnore).link.csHigh = false :=
      (linkPost_csHigh ..).trans low
    have ignored : ((s.linkError .oversize).setTransaction .writeIgnore).endTransaction = _ :=
      endTransaction_other nofun nofun
    rw [exec_csNRise (by exact out) still, ignored]
    rfl

/-! ### What is sent, and how a send ends (R150, R151, R155) -/

section Sends

variable {l : Link} {bytes : List Byte} {marked : Bool} {e : NoticeEntry} {es : List NoticeEntry}

theorem dropNotice_alone (queue : l.notices = e :: es) (none_held : l.shadow = none) :
    l.dropNotice = { l with notices := es, sending := none } := by
  rw [Link.dropNotice, queue]
  dsimp only
  rw [none_held]

theorem dropNotice_shadow {n : Nat} {fields : NoticeFields} (queue : l.notices = e :: es)
    (held : l.shadow = some ⟨n, fields⟩) :
    l.dropNotice = { l with notices := es ++ [⟨e.stream, n, fields⟩], sending := none, shadow := none } := by
  rw [Link.dropNotice, queue]
  dsimp only
  rw [held]

theorem mergeShadow_alone (none_held : l.shadow = none) : l.mergeShadow = { l with sending := none } := by
  rw [Link.mergeShadow, none_held]
  cases l.notices <;> rfl

theorem mergeShadow_shadow {n : Nat} {fields : NoticeFields} (queue : l.notices = e :: es)
    (held : l.shadow = some ⟨n, fields⟩) :
    l.mergeShadow =
      { l with
        notices := { e with
          occurrences := addOccurrences e.occurrences n, fields := mergeFields e.fields fields } :: es
        sending := none, shadow := none } := by
  rw [Link.mergeShadow, queue, held]

theorem sent_notice (sends : l.sending = some (.notice bytes marked)) : l.sent = l.dropNotice := by
  rw [Link.sent, sends]

theorem cutShort_notice (sends : l.sending = some (.notice bytes false)) : l.cutShort = l.mergeShadow := by
  rw [Link.cutShort, sends]

theorem cutShort_marked (sends : l.sending = some (.notice bytes true)) : l.cutShort = l.dropNotice := by
  rw [Link.cutShort, sends]

end Sends

/-- Settles O19: by what is sent, and whether a shadow record is held. -/
theorem endOfASendSettlesTheMessage : Obligations.EndOfASendSettlesTheMessage := by
  refine ⟨fun s out reads => ?_, fun s out low => ?_⟩
  · refine ⟨fun bytes sends => ?_,
      fun bytes marked e es sends queue => ⟨fun alone => ?_, fun n fields held => ?_⟩, fun bytes sends => ?_⟩
    · rw [exec_sendComplete out reads sends, Link.sent, sends]
    · rw [exec_sendComplete out reads sends, sent_notice sends, dropNotice_alone queue alone]
    · rw [exec_sendComplete out reads sends, sent_notice sends, dropNotice_shadow queue held]
    · rw [exec_sendComplete out reads sends, Link.sent, sends]
  · refine ⟨fun writes => ?_, fun unwritten unread => ?_, fun reads => ?_⟩
    · rw [exec_csNRise out low, endTransaction_write writes]
      rfl
    · rw [exec_csNRise out low, endTransaction_other unwritten unread]
      rfl
    rw [exec_csNRise_read out low reads]
    refine ⟨fun bytes sends => ?_, fun bytes e es n fields sends queue held other => ?_,
      fun bytes e es n x y sends queue held flow => ?_, fun bytes e es sends queue alone => ?_,
      fun bytes e es sends queue => ⟨fun alone => ?_, fun n fields held => ?_⟩, fun bytes sends => ?_⟩
    · rw [Link.cutShort, sends]
    · rw [cutShort_notice sends, mergeShadow_shadow queue held, mergeFields_of_held other]
      rfl
    · rw [cutShort_notice sends, mergeShadow_shadow queue held, flow, mergeFields_flow]
      rfl
    · rw [cutShort_notice sends, mergeShadow_alone alone]
    · rw [cutShort_marked sends, dropNotice_alone queue alone]
    · rw [cutShort_marked sends, dropNotice_shadow queue held]
    · rcases sends with sends | sends
      · rw [Link.cutShort, sends]
      · rw [Link.cutShort, sends]

/-! ### The bytes of a message (R143, R144, R150, R171, 12.6, 12.7) -/

section Bytes

theorem codeIn_readyReason (reason : ReadyReason) :
    readyReasonCode reason = codeIn [.powerOn, .pinReset, .restartAll] (some reason) := by
  cases reason <;> rfl

theorem codeIn_linkError (reason : LinkErrorReason) :
    linkErrorCode reason = codeIn [.crc, .truncated, .oversize, .badStart, .discarded] (some reason) := by
  cases reason <;> rfl

theorem codeIn_faultReason (reason : FaultReason) :
    faultReasonCode reason = codeIn [.absent, .poolEmpty] (some reason) := by
  cases reason <;> rfl

theorem codeIn_slot (slot : SlotName) : slotCode slot = codeIn [.a, .b] (some slot) := by
  cases slot <;> rfl

theorem codeIn_endReason (reason : EndReason) :
    endReasonCode reason = codeIn [.completed, .starved, .stopped, .aborted, .failed] (some reason) := by
  cases reason <;> rfl

/-- A stream is its own code; FFh where there is none (R171). -/
theorem codeIn_stream (stream : Option StreamId) :
    optionByte (fun (i : StreamId) => byteOf i.val) stream = codeIn [0, 1, 2, 3, 4, 5, 6, 7] stream := by
  cases stream with
  | none => rfl
  | some i =>
    revert i
    decide

end Bytes

/-! ### MISO (R141, R150, R151, R156, R157) -/

section Miso

variable {s : State}

theorem misoByte_undriven (undriven : s.link.csHigh = true ∨ s.heldInReset.isSome = true) (k : Nat) :
    s.misoByte k = none := by
  have off : s.misoDriven = false := by
    rcases undriven with high | held
    · simp [State.misoDriven, high]
    · simp [State.misoDriven, isNone_held held]
  unfold State.misoByte
  rw [off]
  rfl

theorem misoDriven_low (low : s.link.csHigh = false) (out : s.heldInReset = none) : s.misoDriven = true := by
  simp [State.misoDriven, low, out]

theorem misoByte_first (low : s.link.csHigh = false) (out : s.heldInReset = none) : s.misoByte 0 = some 0x00 := by
  unfold State.misoByte
  rw [if_pos (misoDriven_low low out)]

theorem misoByte_next (low : s.link.csHigh = false) (out : s.heldInReset = none) (k : Nat) :
    s.misoByte (k + 1) = some (s.misoBytes.getD k 0x00) := by
  unfold State.misoByte
  rw [if_pos (misoDriven_low low out)]

/-- R151: 00h where nothing is being sent. -/
theorem misoByte_quiet (low : s.link.csHigh = false) (out : s.heldInReset = none) (quiet : s.link.sending = none)
    (k : Nat) : s.misoByte k = some 0x00 := by
  cases k with
  | zero => exact misoByte_first low out
  | succ k =>
    rw [misoByte_next low out, State.misoBytes, quiet]
    rfl

theorem misoBytes_sending {bytes : List Byte} {marked : Bool}
    (sends : s.link.sending = some (.reply bytes) ∨ s.link.sending = some (.notice bytes marked) ∨
      s.link.sending = some (.empty bytes)) : s.misoBytes = bytes := by
  rcases sends with sends | sends | sends
  · rw [State.misoBytes, sends]
  · rw [State.misoBytes, sends]
  · rw [State.misoBytes, sends]

end Miso

/-- Settles O16: the bytes of each notice kind are those that the link freezes, and MISO gives them one by one. -/
theorem transactionBegins : Obligations.TransactionBegins := by
  unfold Obligations.TransactionBegins
  intro w d sent noticeBytes
  have spelled : ∀ e : NoticeEntry, e.bytes = noticeBytes e := by
    rintro ⟨stream, n, fields⟩
    cases fields with
    | ready => simp only [NoticeEntry.bytes, NoticeFields.bytes, codeIn_stream, codeIn_readyReason]; rfl
    | poolLow => simp only [NoticeEntry.bytes, codeIn_stream]; rfl
    | linkError => simp only [NoticeEntry.bytes, NoticeFields.bytes, codeIn_stream, codeIn_linkError]; rfl
    | fault => simp only [NoticeEntry.bytes, NoticeFields.bytes, codeIn_stream, codeIn_faultReason]; rfl
    | segmentDone => simp only [NoticeEntry.bytes, NoticeFields.bytes, codeIn_stream, codeIn_slot]; rfl
    | triggered => simp only [NoticeEntry.bytes, codeIn_stream]; rfl
    | flow => simp only [NoticeEntry.bytes, codeIn_stream]; rfl
    | streamEnd reason position offending =>
      simp only [NoticeEntry.bytes, NoticeFields.bytes, codeIn_stream, codeIn_endReason]
      cases offending <;> rfl
  refine ⟨crc16_bits, fun s out => ⟨exec_csNFall out, fun starts => ?_⟩, fun s out starts => ?_, fun s => ?_,
    fun s k => ⟨fun undriven => misoByte_undriven undriven k, fun low out => ?_⟩⟩
  · simp only [exec, execWriteTransactionStart]
    exact takeStep_due (transactionIs_out out starts) _
  · rw [exec_readSelect out starts, Link.selected]
    refine ⟨fun r rs replies => ?_, fun e es replies queue => ?_, fun replies queue => ?_⟩
    · rw [replies]
      rfl
    · rw [replies, queue, ← spelled]
    · rw [replies, queue]
      rfl
  · simp [State.attn]
  · refine ⟨misoByte_first low out, fun quiet => misoByte_quiet low out quiet k,
      fun ok unread => misoByte_quiet low out (ok.notices.quiet unread) k,
      fun bytes marked sends => ⟨fun inside => ?_, fun past => ?_⟩⟩
    · rw [misoByte_next low out, misoBytes_sending sends, List.getD_eq_getElem _ _ inside]
    · rw [misoByte_next low out, misoBytes_sending sends, List.getD_eq_default _ _ past]

end Sys2Proof.Proofs

namespace Sys2Proof.Proofs

open Sys2Proof.Machine Sys2Proof.Laws

/-! ### The restart claim (R158, R167 to R169) -/

section RestartClaim

variable {s : State} {n : Nat}

/-- Every stream engine has stopped (R166). -/
def AllAnswered (s : State) : Prop := ∀ i, ∃ answer, (s.engine i).restart = .answered answer

/-- An engine in the list of the engines is that of a stream. -/
theorem mem_engines {e : Engine} : e ∈ s.engines.toList ↔ ∃ i, s.engine i = e := by
  rw [Vector.mem_toList_iff, Vector.mem_iff_getElem]
  exact ⟨fun ⟨k, bound, same⟩ => ⟨⟨k, bound⟩, same⟩, fun ⟨i, same⟩ => ⟨i.val, i.isLt, same⟩⟩

theorem allStopped_answered (all : AllAnswered s) : s.allStopped = true := by
  refine List.all_eq_true.mpr fun e he => ?_
  obtain ⟨i, rfl⟩ := mem_engines.mp he
  obtain ⟨answer, restart⟩ := all i
  rw [Engine.stoppedByRestart, restart]

/-- R167: the restart claim is taken. -/
theorem exec_restartClaim {scope : RestartScope}
    (current : s.command.current = some ⟨.restart scope, .stoppingEngines n⟩) (out : s.heldInReset = none)
    (pool : s.mapUnit.initInProgress = false) (all : AllAnswered s) :
    exec .restartClaim s = .next (s.restart scope n) := by
  have due : s.restartDue = some (scope, n) := by
    simp [State.restartDue, current, State.mapUnitTakes, out, pool, allStopped_answered all]
  simp only [exec, execRestartClaim, due]

/-! #### The frames sealed (R167, step 1) -/

/-- What the engines have answered, in the order of the streams. -/
def answers (s : State) : List (FrameId × Nat) := s.engines.toList.filterMap fun e => e.restart.toSeal

theorem toSeal_iff {stage : RestartStage} {x : FrameId × Nat} :
    stage.toSeal = some x ↔ stage = .answered (some x) := by
  cases stage <;> simp [RestartStage.toSeal]

theorem mem_answers {x : FrameId × Nat} : x ∈ answers s ↔ ∃ i, (s.engine i).restart = .answered (some x) := by
  simp only [answers, List.mem_filterMap, toSeal_iff, mem_engines]
  exact ⟨fun ⟨_, ⟨i, same⟩, restart⟩ => ⟨i, same ▸ restart⟩, fun ⟨i, restart⟩ => ⟨_, ⟨i, rfl⟩, restart⟩⟩

/-- The seals write the frame table alone. -/
theorem sealAll_eq (l : List (FrameId × Nat)) (s : State) :
    l.foldl State.sealForRestart s =
      s.setMapUnit { s.mapUnit with frames := (l.foldl State.sealForRestart s).mapUnit.frames } := by
  induction l generalizing s with
  | nil => rfl
  | cons x rest ih => rw [List.foldl_cons, ih]; rfl

theorem frame_sealAll_other {l : List (FrameId × Nat)} {f : FrameId} (other : ∀ x ∈ l, x.1 ≠ f) (s : State) :
    (l.foldl State.sealForRestart s).frame f = s.frame f := by
  induction l generalizing s with
  | nil => rfl
  | cons x rest ih =>
    obtain ⟨head, tail⟩ := List.forall_mem_cons.mp other
    rw [List.foldl_cons, ih tail]
    exact frame_setFrame_other _ _ _ _ head

/-- R7: a frame that the answers name with one offset alone. -/
theorem frame_sealAll_named {l : List (FrameId × Nat)} {f : FrameId} {o : Nat} (named : (f, o) ∈ l)
    (once : ∀ x ∈ l, x.1 = f → x.2 = o) (s : State) :
    (l.foldl State.sealForRestart s).frame f = { s.frame f with fill := o, isSealed := true, writer := none } := by
  induction l generalizing s with
  | nil => cases named
  | cons x rest ih =>
    obtain ⟨head, tail⟩ := List.forall_mem_cons.mp once
    have sealed (own : x.1 = f) : (s.sealForRestart x).frame f =
        { s.frame f with fill := o, isSealed := true, writer := none } := by
      subst own
      rw [← head rfl]
      exact frame_setFrame_self ..
    rw [List.foldl_cons]
    by_cases later : (f, o) ∈ rest
    · rw [ih later tail]
      by_cases own : x.1 = f
      · rw [sealed own]
      · rw [State.sealForRestart, frame_setFrame_other _ _ _ _ own]
    · have gone : ∀ y ∈ rest, y.1 ≠ f := fun y hy own => later ((Prod.ext own (tail y hy own) : y = (f, o)) ▸ hy)
      rw [frame_sealAll_other gone]
      exact sealed (by rw [← (List.mem_cons.mp named).resolve_right later])

/-- A seal is no new life of the frame (R2, R167). -/
theorem generation_sealAll (l : List (FrameId × Nat)) (f : FrameId) (s : State) :
    ((l.foldl State.sealForRestart s).frame f).generation = (s.frame f).generation := by
  induction l generalizing s with
  | nil => rfl
  | cons x rest ih =>
    rw [List.foldl_cons, ih, State.sealForRestart]
    by_cases own : x.1 = f
    · rw [← own, frame_setFrame_self]
    · rw [frame_setFrame_other _ _ _ _ own]

/-- R167: the claim seals frames and empties the two lists. -/
theorem restartMapUnit_eq (s : State) :
    s.restartMapUnit =
      s.setMapUnit { s.mapUnit with frames := s.restartMapUnit.mapUnit.frames, waiters := [], deferred := [] } := by
  unfold State.restartMapUnit
  rw [sealAll_eq]
  rfl

/-- R168: the streams are cleared and the command is answered. -/
theorem restart_streams {m : Message} {rest : List Message} (queue : s.command.queue = m :: rest) :
    s.restart .streams n =
      ({ s with
        mapUnit := { s.mapUnit with frames := s.restartMapUnit.mapUnit.frames, waiters := [], deferred := [] }
        engines := Vector.replicate 8 Engine.reset
        ports := Vector.replicate 4 Port.unbound
        link := s.link.restarted } : State).answered m rest [0x00, 0x00, byteOf n] := by
  unfold State.restart
  rw [restartMapUnit_eq]
  exact produceReply_answered (by exact queue) _

/-- R169: the maps and the pool are cleared as well, and the command waits. -/
theorem restart_all :
    s.restart .all n =
      { s with
        mapUnit := { s.mapUnit with
          frames := s.restartMapUnit.mapUnit.frames.map FrameRecord.restarted
          maps := Vector.replicate 8 (Vector.replicate 512 none)
          freeQueue := [], waiters := [], deferred := [], initInProgress := true, initNext := 0
          initReason := .restartAll }
        engines := Vector.replicate 8 Engine.reset
        ports := Vector.replicate 4 Port.unbound
        link := s.link.restarted
        command := { s.command with current := some ⟨.restart .all, .initialising n⟩ } } := by
  unfold State.restart
  rw [restartMapUnit_eq]
  rfl

/-! #### The notices (R158) -/

theorem isGlobal_iff (kind : NoticeKind) : kind.isGlobal = decide (kind ∈ [.ready, .poolLow, .linkError]) := by
  cases kind <;> rfl

theorem globalNotices_eq (q : List NoticeEntry) :
    globalNotices q = q.filter fun e => e.fields.kind ∈ [.ready, .poolLow, .linkError] := by
  simp only [globalNotices, isGlobal_iff]

theorem restarted_free {l : Link} (free : l.noticeFrozen = false) :
    l.restarted = { l with notices := globalNotices l.notices } := by
  unfold Link.restarted
  split
  · rename_i sends _
    exact absurd ((noticeFrozen_of_sending sends).symm.trans free) nofun
  · rfl

theorem restarted_frozen {l : Link} {bytes : List Byte} {marked : Bool} {e : NoticeEntry} {es : List NoticeEntry}
    (sends : l.sending = some (.notice bytes marked)) (queue : l.notices = e :: es) :
    l.restarted =
      if e.fields.kind.isGlobal then { l with notices := e :: globalNotices es }
      else { l with notices := e :: globalNotices es, sending := some (.notice bytes true), shadow := none } := by
  rw [Link.restarted, sends, queue]

end RestartClaim

/-- Settles O25: the claim of either scope, and the step at the link. -/
theorem restartClearsByItsScope : Obligations.RestartClearsByItsScope := by
  refine ⟨fun s m rest n current queue out pool all apart => ?_, fun s n current out pool all => ?_,
    fun l => ⟨fun free => ?_, fun bytes marked e es sends held => ?_⟩⟩
  · rw [exec_restartClaim current out pool all, restart_streams queue]
    refine ⟨_, rfl, rfl, fun i f o restart => ?_, fun f unnamed => ?_⟩
    · refine frame_sealAll_named (mem_answers.mpr ⟨i, restart⟩) (fun x named own => ?_) s
      obtain ⟨j, other⟩ := mem_answers.mp named
      obtain ⟨_, o'⟩ := x
      subst own
      have same := apart i j _ _ _ restart other
      subst same
      rw [restart] at other
      cases other
      rfl
    · refine frame_sealAll_other (fun x named own => ?_) s
      obtain ⟨i, restart⟩ := mem_answers.mp named
      subst own
      exact unnamed i x.2 restart
  · rw [exec_restartClaim current out pool all, restart_all]
    refine ⟨_, rfl, rfl, fun i v => ?_, fun f => ?_⟩
    · simp [State.entry]
    · have kept : (s.restartMapUnit.frame f).generation = (s.frame f).generation :=
        generation_sealAll (answers s) f s
      rw [← kept]
      simp [State.frame, FrameRecord.restarted, FrameRecord.reset]
  · rw [restarted_free free, globalNotices_eq]
  · rw [restarted_frozen sends held, isGlobal_iff, globalNotices_eq]
    exact ⟨fun global => if_pos (decide_eq_true global), fun stream => if_neg (by simpa using stream)⟩

end Sys2Proof.Proofs

namespace Sys2Proof.Proofs

open Sys2Proof.Machine Sys2Proof.Laws

/-! ### What the steps of a current command's owner do to the command unit (R149, R159, R162) -/

section OwnerSteps

/-- The command unit after a reply (R149, R159); without a command queued nothing is answered. -/
def replied (u : CommandUnit) : CommandUnit :=
  match u.queue with
  | [] => u
  | _ :: rest => { queue := rest, current := none, execution := .ready, transfer := none }

theorem produceReply_command (s : State) (payload : List Byte) :
    (s.produceReply payload).command = replied s.command := by
  unfold State.produceReply replied
  split <;> simp_all

/-- `t` comes from `s` by a step of the owner of the command `c`: the command is answered (R149), or it stays current
at a further stage (R162). -/
inductive Owner (c : HostCommand) (s t : State) : Prop where
  | answers (command : t.command = replied s.command)
  | holds (stage : CommandStage) (transfer : Option Transfer)
      (command : t.command = { s.command with current := some ⟨c, stage⟩, transfer := transfer })

variable {c : HostCommand} {s t u : State}

/-- Inner work, and then the reply. -/
theorem owner_replied (h : Inner s t) (payload : List Byte) : Owner c s (t.produceReply payload) :=
  .answers (by rw [produceReply_command, h.command])

/-- Inner work, and then another stage. -/
theorem owner_staged (h : Inner s t) (stage : CommandStage) : Owner c s (t.setStage c stage) :=
  .holds stage s.command.transfer (by rw [setStage_command, h.command])

/-- Inner work before the owner's step. -/
theorem owner_after (h : Inner s t) (step : Owner c t u) : Owner c s u := by
  cases step with
  | answers command => exact .answers (by rw [command, h.command])
  | holds stage transfer command => exact .holds stage transfer (by rw [command, h.command])

variable (s) (i : StreamId)

theorem owner_reply (payload : List Byte) : Owner c s (s.produceReply payload) := owner_replied (.refl s) payload
theorem owner_refuse (status : Status) : Owner c s (s.refuse status) := owner_reply ..

/-! #### Map and pool commands -/

theorem owner_mapPage (access : Access) (v : VPage) (asked : Option FrameId) :
    Owner c s (s.mapPage i access v asked) := by
  have mapped : ∀ f, Owner c s (s.mapFrame i access v f) := fun f =>
    owner_replied (((inner_issueFromQueue ..).trans (inner_setEntry ..)).trans (inner_retry ..)) _
  unfold State.mapPage
  split
  · exact owner_refuse ..
  · split
    · exact owner_refuse ..
    · exact mapped _
  · split
    · exact owner_refuse ..
    · exact mapped _

theorem owner_unmapRange (first : VPage) (count : Nat) : Owner c s (s.unmapRange i first count) := by
  unfold State.unmapRange
  split
  · exact owner_refuse ..
  · exact owner_replied ((inner_purge ..).trans (inner_releasePages ..)) _

theorem owner_releaseMap : Owner c s (s.releaseMap i) := by
  unfold State.releaseMap
  exact owner_replied ((inner_purge ..).trans (inner_releasePages ..)) _

theorem owner_protectRange (access : Access) (first : VPage) (count : Nat) :
    Owner c s (s.protectRange i access first count) := by
  have set : ∀ u v, Inner u (State.setAccess u i access v) := fun _ _ => inner_setEntry ..
  unfold State.protectRange
  split_ifs
  iterate 2 exact owner_refuse ..
  exact owner_replied ((inner_purge ..).trans (inner_foldl _ _ set _)) _

theorem owner_shareRange (j : StreamId) (access : Access) (first second : VPage) (count : Nat) :
    Owner c s (s.shareRange i j access first second count) := by
  unfold State.shareRange
  dsimp only
  split_ifs
  iterate 4 exact owner_refuse ..
  exact owner_replied ((inner_foldl _ _ (fun u => inner_sharePage u i j access) _).trans (inner_retry ..)) _

/-! #### Frame data -/

theorem owner_readPage (v : VPage) (offset length : Nat) :
    Owner (.readData i v offset length) s (s.readPage i v offset length) := by
  unfold State.readPage
  split
  · exact owner_reply ..
  · dsimp only
    split
    · exact owner_reply ..
    · exact .holds .transferring _ rfl

theorem owner_writePage (v : VPage) (offset : Nat) (data : List Byte) :
    Owner (.writeData i v offset data) s (s.writePage i v offset data) := by
  unfold State.writePage
  split
  · exact owner_refuse ..
  · dsimp only
    split_ifs
    iterate 5 exact owner_refuse ..
    exact .holds .transferring _ rfl

theorem owner_sealCommand (v : VPage) : Owner c s (s.sealCommand i v) := by
  unfold State.sealCommand
  split
  · exact owner_refuse ..
  · dsimp only
    split
    · exact owner_refuse ..
    · exact owner_replied (inner_sealFrame ..) _

/-! #### Stream commands -/

theorem owner_openPort (d : Direction) (p : PortId) (fault : FaultPolicy) (policy : ReleasePolicy) :
    Owner c s (s.openPort i d p fault policy) := by
  unfold State.openPort
  split_ifs
  iterate 3 exact owner_refuse ..
  exact owner_replied ((inner_setPort ..).trans (inner_setEngine ..)) _

theorem owner_closeStream (releases : Bool) :
    Owner (.closeStream i releases) s (s.closeStream i releases) := by
  have closed : Inner s (s.closeEngine i) := (inner_modPortOf ..).trans (inner_setEngine ..)
  unfold State.closeStream
  dsimp only
  split_ifs
  · exact owner_after closed (.holds .releasingMap _ rfl)
  · exact owner_replied closed _
  · exact owner_refuse ..

theorem owner_armSlot (name : SlotName) (d : Descriptor) : Owner c s (s.armSlot i name d) := by
  unfold State.armSlot
  dsimp only
  split_ifs
  · exact owner_refuse ..
  · exact owner_refuse ..
  · exact owner_replied (inner_setEngine ..) _
  · exact owner_refuse ..
  · exact owner_replied (inner_setEngine ..) _

theorem owner_startSlot (name : SlotName) : Owner c s (s.startSlot i name) := by
  unfold State.startSlot
  dsimp only
  split_ifs
  iterate 2 exact owner_refuse ..
  exact owner_replied (((inner_setEngine ..).trans (inner_setGate ..)).trans (inner_enterPage ..)) _

theorem owner_pauseStream : Owner c s (s.pauseStream i) := by
  unfold State.pauseStream
  split
  · exact owner_replied (((inner_setGate ..).trans (inner_withdrawRequest ..)).trans (inner_modEngine ..)) _
  · exact owner_refuse ..

theorem owner_resumeStream : Owner c s (s.resumeStream i) := by
  have running : ∀ e, Inner s ((s.setGate i true).modEngine i e) := fun _ =>
    (inner_setGate ..).trans (inner_modEngine ..)
  unfold State.resumeStream
  dsimp only
  split_ifs
  · exact owner_replied ((running _).trans (inner_resumeReplay ..)) _
  · exact owner_replied (running _) _
  · exact owner_refuse ..

/-- R66: in WAIT_FAULT a STOP or ABORT is answered, or waits for the ending seal claim. -/
theorem owner_stoppedInFault (reason : EndReason) : Owner c s ((s.stopInFault i reason).replyToStop i c) := by
  have stopped := inner_stopInFault s i reason
  unfold State.replyToStop
  split
  · exact owner_staged stopped .awaitingEndingSeal
  · exact owner_replied stopped _

theorem owner_stopStream : Owner (.stop i) s (s.stopStream i) := by
  unfold State.stopStream
  split
  · unfold State.stopCapture
    split
    case h_1 | h_2 =>
      exact owner_replied (((inner_setGate ..).trans (inner_modEngine ..)).trans (inner_endWhenDrained ..)) _
    case h_3 => exact owner_stoppedInFault ..
    all_goals exact owner_refuse ..
  · unfold State.stopReplay
    split
    case h_1 | h_2 | h_3 | h_4 => exact owner_replied (inner_endReplay ..) _
    all_goals exact owner_refuse ..
  · exact owner_refuse ..

theorem owner_cutCapture : Owner c s (s.cutCapture i) :=
  owner_replied
    ((((inner_setGate ..).trans (inner_discardCapture ..)).trans (inner_withdrawRequest ..)).trans
      ((inner_modEngine ..).trans (inner_endWhenDrained ..))) _

theorem owner_abortStream : Owner (.abort i) s (s.abortStream i) := by
  unfold State.abortStream
  split
  · unfold State.abortCapture
    split
    case h_1 | h_2 => exact owner_cutCapture ..
    case h_3 =>
      split
      · exact owner_refuse ..
      · exact owner_cutCapture ..
    case h_4 => exact owner_stoppedInFault ..
    all_goals exact owner_refuse ..
  · unfold State.abortReplay
    split
    case h_1 | h_2 | h_3 | h_4 => exact owner_replied (inner_endReplay ..) _
    case h_5 =>
      split
      · exact owner_refuse ..
      · exact owner_replied (inner_cutReplay ..) _
    all_goals exact owner_refuse ..
  · exact owner_refuse ..

theorem owner_triggerStream : Owner c s (s.triggerStream i) := by
  unfold State.triggerStream
  dsimp only
  split
  · exact owner_replied (inner_takeTrigger ..) _
  · exact owner_refuse ..

/-! #### RESTART -/

theorem owner_sendRestart (scope : RestartScope) : Owner (.restart scope) s (s.sendRestart scope) :=
  .holds (.stoppingEngines s.notIdle) s.command.transfer rfl

theorem owner_restart (scope : RestartScope) (n : Nat) : Owner (.restart scope) s (s.restart scope n) := by
  unfold State.restart
  cases scope with
  | streams =>
    have cleared := (inner_restartMapUnit s).trans (inner_clearStreams _)
    exact owner_after cleared (.answers (produceReply_command ..))
  | all =>
    have cleared : Inner s s.restartMapUnit.clearMaps.clearStreams :=
      ((inner_restartMapUnit s).trans (inner_setMapUnit ..)).trans (inner_clearStreams _)
    exact owner_after cleared (.holds (.initialising n) _ rfl)

end OwnerSteps

end Sys2Proof.Proofs

namespace Sys2Proof.Proofs

open Sys2Proof.Machine Sys2Proof.Laws

/-! ### The current command is the one that the head of the queue spells (R159, R160, R164) -/

section CurrentCommand

variable {s t u : State} {i : StreamId} {c : HostCommand} {stage : CommandStage} {occasion : Bool}
  {effect : State → State}

/-- The current command is in execution, and the message at the head of the queue spells it (R159, R160). -/
def HeadCurrent (x : CommandUnit) : Prop :=
  ∀ y, x.current = some y →
    x.execution = .executing ∧ ∃ m rest, x.queue = m :: rest ∧ readCommand m = .ok y.command

theorem headCurrent_of_idle {x : CommandUnit} (idle : x.current = none) : HeadCurrent x := fun y current => by
  rw [idle] at current
  cases current

theorem headCurrent_inner (h : Inner s t) (ok : HeadCurrent s.command) : HeadCurrent t.command := by rwa [h.command]

theorem headCurrent_replied {x : CommandUnit} (ok : HeadCurrent x) : HeadCurrent (replied x) := by
  unfold replied
  split
  · exact ok
  · exact headCurrent_of_idle rfl

theorem headCurrent_reply (ok : HeadCurrent s.command) (payload : List Byte) :
    HeadCurrent (s.produceReply payload).command := by
  rw [produceReply_command]
  exact headCurrent_replied ok

/-- R162: the current command goes on to another stage. -/
theorem headCurrent_staged {x : CommandUnit} (ok : HeadCurrent x) (now : x.current = some ⟨c, stage⟩)
    (next : CommandStage) (transfer : Option Transfer) :
    HeadCurrent { x with current := some ⟨c, next⟩, transfer := transfer } := by
  rintro _ ⟨⟩
  exact ok ⟨c, stage⟩ now

theorem headCurrent_owner (ok : HeadCurrent s.command) (now : s.command.current = some ⟨c, stage⟩)
    (step : Owner c s t) : HeadCurrent t.command := by
  cases step with
  | answers command =>
    rw [command]
    exact headCurrent_replied ok
  | holds next transfer command =>
    rw [command]
    exact headCurrent_staged ok now next transfer

/-! #### A step that takes the current command -/

theorem claimDue_current (due : s.claimDue c stage = true) : s.command.current = some ⟨c, stage⟩ :=
  (isAt_iff stage).mp (Bool.and_eq_true_iff.mp due).1

theorem commandDue_current (due : s.commandDue i c = true) : s.command.current = some ⟨c, .handed⟩ :=
  (isAt_iff .handed).mp (Bool.and_eq_true_iff.mp due).1

theorem headCurrent_takeStep (ok : HeadCurrent s.command) (h : takeStep occasion s effect = .next t)
    (keeps : ∀ u, HeadCurrent u.command → HeadCurrent (effect u).command) : HeadCurrent t.command :=
  takeStep_keeps (P := fun u => HeadCurrent u.command) ok h keeps

theorem headCurrent_takeInner (ok : HeadCurrent s.command) (h : takeStep occasion s effect = .next t)
    (inner : ∀ u, Inner u (effect u)) : HeadCurrent t.command :=
  headCurrent_takeStep ok h fun u => headCurrent_inner (inner u)

/-- The owner takes the command on its occasion, which shows that it is current. -/
theorem headCurrent_takeOwned (ok : HeadCurrent s.command) (h : takeStep occasion s effect = .next t)
    (now : occasion = true → s.command.current = some ⟨c, stage⟩) (owner : ∀ u, Owner c u (effect u)) :
    HeadCurrent t.command := by
  rcases takeStep_next h with rfl | ⟨due, rfl⟩
  · exact ok
  · exact headCurrent_owner ok (now due) (owner s)

theorem headCurrent_takeHostClaim (ok : HeadCurrent s.command) (h : takeHostClaim c s effect = .next t)
    (owner : ∀ u, Owner c u (effect u)) : HeadCurrent t.command :=
  headCurrent_takeOwned ok h claimDue_current fun u => owner_after (inner_dropOldestClaim u) (owner _)

theorem headCurrent_takeCommandStep (ok : HeadCurrent s.command)
    (h : takeStep (s.commandDue i c) s effect = .next t) (owner : ∀ u, Owner c u (effect u)) :
    HeadCurrent t.command :=
  headCurrent_takeOwned ok h commandDue_current owner

theorem headCurrent_takeEngineClaim {work : EngineClaim → State → Option State} (ok : HeadCurrent s.command)
    (h : takeEngineClaim i s work = .next t) (inner : ∀ x u u', work x u = some u' → Inner u u') :
    HeadCurrent t.command :=
  takeEngineClaim_keeps (P := fun u => HeadCurrent u.command) ok h
    (fun u => headCurrent_inner (inner_dropOldestClaim u))
    fun x u u' answer => headCurrent_inner (inner x u u' answer)

/-! #### Steps of other blocks that reach the command unit -/

/-- R160: the head of the queue becomes the current command only as it was read. -/
theorem headCurrent_takeCommand (ok : HeadCurrent s.command) : HeadCurrent s.takeCommand.command := by
  unfold State.takeCommand
  split
  · exact ok
  · rename_i m rest queue
    split
    · exact headCurrent_reply ok _
    · rename_i y read
      have handed : (s.handCommand y).command =
          { s.command with current := some ⟨y, .handed⟩, execution := .executing } := by
        unfold State.handCommand
        dsimp only
        split <;> rfl
      rw [handed]
      rintro _ ⟨⟩
      exact ⟨rfl, m, rest, queue, read⟩

/-- R165, R169: a unit that waits for the initialisation has no current command. -/
theorem headCurrent_completeInit (ok : HeadCurrent s.command) : HeadCurrent s.completeInit.command := by
  unfold State.completeInit State.commandsReady
  dsimp only
  split
  · exact headCurrent_reply (headCurrent_inner (s := s) ((inner_setMapUnit ..).trans (inner_post ..)) ok) _
  · split
    · rename_i waits
      intro y current
      exact absurd (waits.symm.trans (ok y current).1) nofun
    · exact ok

/-- R147: an admitted message goes behind the head. -/
theorem headCurrent_admitMessage (ok : HeadCurrent s.command) (m : Message) :
    HeadCurrent (s.admitMessage m).command := by
  intro y current
  obtain ⟨executing, head, rest, queue, read⟩ := ok y current
  refine ⟨executing, head, rest ++ [m], ?_, read⟩
  show s.command.queue ++ [m] = _
  rw [queue, List.cons_append]

theorem headCurrent_takeForAdmission (ok : HeadCurrent s.command) (m : Message) :
    HeadCurrent (s.takeForAdmission m).command := by
  unfold State.takeForAdmission
  split_ifs
  · exact headCurrent_admitMessage ok m
  · exact ok
  · exact ok

theorem headCurrent_answerStop (ok : HeadCurrent s.command) (i : StreamId) :
    HeadCurrent (s.answerStop i).command := by
  unfold State.answerStop
  split
  · exact headCurrent_reply ok _
  · exact ok

/-- R133, R136, R139: a transfer goes on, ends with the reply, or brings its command to the completion claim. -/
theorem headCurrent_continueTransfer (ok : HeadCurrent s.command) (x : Transfer) :
    HeadCurrent (s.continueTransfer x).command := by
  unfold State.continueTransfer
  dsimp only
  split_ifs
  · exact ok
  · intro y current
    obtain ⟨now, held, rfl⟩ := Option.map_eq_some_iff.mp current
    exact ok now held
  · exact headCurrent_reply (by exact ok) _

theorem headCurrent_completeWrite (ok : HeadCurrent s.command) (x : Transfer) :
    HeadCurrent (s.completeWrite x).command :=
  headCurrent_reply
    (headCurrent_inner (((inner_setFill ..).trans (inner_setFrame ..)).trans (inner_decideAllDeferred _)) ok) _

theorem headCurrent_completeHostBurst (ok : HeadCurrent s.command) (b : Burst) :
    HeadCurrent (s.completeHostBurst b).command := by
  unfold State.completeHostBurst
  split
  · exact ok
  · split
    · exact headCurrent_continueTransfer (by exact ok) _
    · exact headCurrent_continueTransfer (by exact ok) _

theorem headCurrent_completeCapture (ok : HeadCurrent s.command) (i : StreamId) (b : Burst) :
    HeadCurrent (s.completeCapture i b).command := by
  have landed : HeadCurrent (s.landCapture i b).command := ok
  unfold State.completeCapture
  dsimp only
  split
  · exact headCurrent_inner (inner_answerRestart ..) landed
  · exact headCurrent_inner (inner_afterCapture ..) landed

theorem headCurrent_grantTo (ok : HeadCurrent s.command) (r : Requester) : HeadCurrent (s.grantTo r).command := by
  unfold State.grantTo
  split
  · exact ok
  · split
    · split
      · exact headCurrent_inner (inner_grantCapture ..) ok
      · exact headCurrent_inner (inner_grantReplay ..) ok
    · unfold State.grantHost
      split
      · exact ok
      · dsimp only
        split
        · exact headCurrent_reply (headCurrent_inner (s := s) ((inner_granted ..).trans (inner_endBurst _)) ok) _
        · exact ok

theorem headCurrent_csRise (ok : HeadCurrent s.command) : HeadCurrent s.csRise.command := by
  have ended : HeadCurrent s.endTransaction.command := by
    unfold State.endTransaction
    split <;> exact ok
  unfold State.csRise
  dsimp only
  split
  · exact ended
  · exact ok

theorem headCurrent_csFall (ok : HeadCurrent s.command) : HeadCurrent s.csFall.command := by
  unfold State.csFall
  dsimp only
  split <;> exact ok

theorem restartDue_current {scope : RestartScope} {n : Nat} (due : s.restartDue = some (scope, n)) :
    s.command.current = some ⟨.restart scope, .stoppingEngines n⟩ := by
  unfold State.restartDue at due
  split at due
  · split at due
    · cases due
      assumption
    · cases due
  · cases due

end CurrentCommand

end Sys2Proof.Proofs

namespace Sys2Proof.Proofs

open Sys2Proof.Machine Sys2Proof.Laws

/-! ### Every row keeps the current command at the head of the queue (R159, R164) -/

section CurrentCommandRows

variable {s t : State}

/-- Every row keeps the current command the one that the head of the queue spells. -/
theorem headCurrent_exec (row : Instr) (ok : HeadCurrent s.command) (h : exec row s = .next t) :
    HeadCurrent t.command := by
  cases row with
  -- The claims of the command unit.
  | map =>
    simp only [exec, execMap] at h
    exact headCurrent_takeHostClaim ok h fun _ => owner_mapPage ..
  | unmap =>
    simp only [exec, execUnmap] at h
    exact headCurrent_takeHostClaim ok h fun _ => owner_unmapRange ..
  | protect =>
    simp only [exec, execProtect] at h
    exact headCurrent_takeHostClaim ok h fun _ => owner_protectRange ..
  | share =>
    simp only [exec, execShare] at h
    exact headCurrent_takeHostClaim ok h fun _ => owner_shareRange ..
  | queryMap | queryFrame | poolStatus =>
    simp only [exec, execQueryMap, execQueryFrame, execPoolStatus] at h
    exact headCurrent_takeHostClaim ok h fun _ => owner_reply ..
  | setPoolMark =>
    simp only [exec, execSetPoolMark] at h
    exact headCurrent_takeHostClaim ok h fun _ => owner_replied (inner_setMapUnit ..) _
  | readData =>
    simp only [exec, execReadData] at h
    exact headCurrent_takeHostClaim ok h fun _ => owner_readPage ..
  | writeData =>
    simp only [exec, execWriteData] at h
    exact headCurrent_takeHostClaim ok h fun _ => owner_writePage ..
  | sealPage =>
    simp only [exec, execSealPage] at h
    exact headCurrent_takeHostClaim ok h fun _ => owner_sealCommand ..
  | writeDataCompletion =>
    simp only [exec, execWriteDataCompletion] at h
    refine headCurrent_takeStep ok h fun u hu => ?_
    split
    · exact headCurrent_completeWrite (headCurrent_inner (inner_dropOldestClaim u) hu) _
    · exact hu
  -- The stream commands.
  | openStream =>
    simp only [exec, execOpenStream] at h
    exact headCurrent_takeCommandStep ok h fun _ => owner_openPort ..
  | closeStream i releases =>
    simp only [exec, execCloseStream] at h
    split at h
    case isTrue due =>
      have goes := Host.Outcome.next.inj h
      rw [← goes]
      exact headCurrent_owner ok (claimDue_current due) (owner_after (inner_dropOldestClaim s) (owner_releaseMap ..))
    case isFalse => exact headCurrent_takeCommandStep ok h fun _ => owner_closeStream ..
  | arm =>
    simp only [exec, execArm] at h
    exact headCurrent_takeCommandStep ok h fun _ => owner_armSlot ..
  | start =>
    simp only [exec, execStart] at h
    exact headCurrent_takeCommandStep ok h fun _ => owner_startSlot ..
  | pause =>
    simp only [exec, execPause] at h
    exact headCurrent_takeCommandStep ok h fun _ => owner_pauseStream ..
  | resume =>
    simp only [exec, execResume] at h
    exact headCurrent_takeCommandStep ok h fun _ => owner_resumeStream ..
  | stop =>
    simp only [exec, execStop] at h
    exact headCurrent_takeCommandStep ok h fun _ => owner_stopStream ..
  | abort =>
    simp only [exec, execAbort] at h
    exact headCurrent_takeCommandStep ok h fun _ => owner_abortStream ..
  | trigger =>
    simp only [exec, execTrigger] at h
    exact headCurrent_takeCommandStep ok h fun _ => owner_triggerStream ..
  | queryStream =>
    simp only [exec, execQueryStream] at h
    exact headCurrent_takeCommandStep ok h fun _ => owner_reply ..
  | pendingEdgeTaken =>
    simp only [exec, execPendingEdgeTaken] at h
    exact headCurrent_takeInner ok h fun _ => inner_takeEdge ..
  -- The command unit, RESTART, the resets and the initialisation.
  | hello =>
    simp only [exec, execHello] at h
    exact headCurrent_takeOwned ok h (isAt_iff .handed).mp fun _ => owner_reply ..
  | commandTake =>
    simp only [exec, execCommandTake] at h
    exact headCurrent_takeStep ok h fun _ => headCurrent_takeCommand
  | restartStreams | restartAll =>
    simp only [exec, execRestartStreams, execRestartAll] at h
    exact headCurrent_takeOwned ok h (isAt_iff .handed).mp fun _ => owner_sendRestart ..
  | engineRestart =>
    simp only [exec, execEngineRestart] at h
    exact headCurrent_takeInner ok h fun _ => inner_stopEngine ..
  | restartClaim =>
    cases h
    split
    · rename_i scope n due
      exact headCurrent_owner ok (restartDue_current due) (owner_restart ..)
    · exact ok
  | powerOn | pinReset =>
    cases h
    exact headCurrent_of_idle rfl
  | resetEnd =>
    simp only [exec, execResetEnd] at h
    exact headCurrent_takeStep ok h fun _ hu => hu
  | poolInitAppend =>
    cases h
    split
    · split <;> exact ok
    · exact ok
  | poolInitComplete =>
    simp only [exec, execPoolInitComplete] at h
    exact headCurrent_takeStep ok h fun _ => headCurrent_completeInit
  -- The link.
  | csNFall =>
    simp only [exec, execCsNFall] at h
    exact headCurrent_takeStep ok h fun _ => headCurrent_csFall
  | csNRise =>
    simp only [exec, execCsNRise] at h
    exact headCurrent_takeStep ok h fun _ => headCurrent_csRise
  | writeTransactionStart | readSelect | sendComplete | badStart | oversize =>
    simp only [exec, execWriteTransactionStart, execReadSelect, execSendComplete, execBadStart, execOversize] at h
    exact headCurrent_takeStep ok h fun _ hu => hu
  | inboundMessage =>
    simp only [exec, execInboundMessage] at h
    refine headCurrent_takeStep ok h fun u hu => ?_
    split
    · exact headCurrent_takeForAdmission (s := u.setTransaction .writeIgnore) hu _
    · exact hu
  -- The lanes.
  | captureStrobe =>
    cases h
    split
    · split
      · exact headCurrent_inner (inner_offerWord ..) ok
      · exact ok
    · exact ok
  | replayStrobe =>
    cases h
    split
    · split
      · exact headCurrent_inner (inner_askWord ..) ok
      · exact ok
    · exact ok
  | triggerEdge =>
    simp only [exec, execTriggerEdge] at h
    exact headCurrent_takeInner ok h fun _ => inner_setPort ..
  -- Requests, grants and completions.
  | captureBurstRequest | replayBurstRequest =>
    simp only [exec, execCaptureBurstRequest, execReplayBurstRequest] at h
    exact headCurrent_takeInner ok h fun _ => inner_requestBurst ..
  | arbiterGrant =>
    simp only [exec, execArbiterGrant] at h
    refine headCurrent_takeStep ok h fun u hu => ?_
    split
    · exact headCurrent_grantTo hu _
    · exact hu
  | captureBurstComplete =>
    simp only [exec, execCaptureBurstComplete] at h
    refine headCurrent_takeStep ok h fun u hu => ?_
    split
    · exact headCurrent_completeCapture hu _ _
    · exact hu
  | replayBurstComplete =>
    simp only [exec, execReplayBurstComplete] at h
    refine headCurrent_takeStep ok h fun u hu => ?_
    split
    · exact headCurrent_inner (inner_completeReplay ..) hu
    · exact hu
  | hostBurstComplete =>
    simp only [exec, execHostBurstComplete] at h
    refine headCurrent_takeStep ok h fun u hu => ?_
    split
    · exact headCurrent_completeHostBurst hu _
    · exact hu
  -- The claims of the stream engines.
  | fillReport =>
    simp only [exec, execFillReport] at h
    refine headCurrent_takeEngineClaim ok h fun x _ _ answer => ?_
    cases x <;> cases answer
    exact inner_setFill ..
  | leaveSealClaim =>
    simp only [exec, execLeaveSealClaim] at h
    refine headCurrent_takeEngineClaim ok h fun x _ _ answer => ?_
    cases x <;> cases answer
    exact inner_takeLeaveSeal ..
  | endingSealClaim i =>
    simp only [exec, execEndingSealClaim] at h
    refine takeEngineClaim_keeps (P := fun u => HeadCurrent u.command) ok h
      (fun u => headCurrent_inner (inner_dropOldestClaim u)) fun x u _ answer hu => ?_
    cases x <;> cases answer
    exact headCurrent_answerStop (headCurrent_inner (s := u) ((inner_giveUpPlace ..).trans (inner_endBySeal ..)) hu) i
  | writeClaim =>
    simp only [exec, execWriteClaim] at h
    refine headCurrent_takeEngineClaim ok h fun x _ _ answer => ?_
    cases x <;> cases answer
    exact inner_writeClaim ..
  | releaseClaim =>
    simp only [exec, execReleaseClaim] at h
    refine headCurrent_takeEngineClaim ok h fun x _ _ answer => ?_
    cases x <;> cases answer
    exact inner_takeRelease ..
  | readClaim =>
    simp only [exec, execReadClaim] at h
    split at h
    case h_1 => cases h; exact headCurrent_inner ((inner_dropOldestClaim s).trans (inner_answerRead ..)) ok
    all_goals cases h; exact headCurrent_inner (inner_continuePageChange ..) ok
  | waitDataSignal =>
    simp only [exec, execWaitDataSignal] at h
    exact headCurrent_takeInner ok h fun _ => inner_takeSignal ..

/-! #### The part held in reset (R164) -/

/-- While the part is held in reset the command unit has its reset values (R164). -/
def AtReset (s : State) : Prop := s.heldInReset.isSome = true → s.command = CommandUnit.reset

theorem atReset_out (out : s.heldInReset = none) : AtReset s := fun held => by
  rw [out] at held
  cases held

theorem serves_heldInReset (serves : Serves s t) : t.heldInReset = s.heldInReset := by
  induction serves with
  | refl => rfl
  | work _ _ _ held ih => exact held.trans ih
  | reply _ payload ih => exact (produceReply_held _ payload).trans ih
  | restart _ ih => exact ih

/-- The rows of the link leave the command unit of a part held in reset, and the resets begin it anew. -/
theorem atReset_linkRow (row : Instr) (own : linkRow row = true) (ok : AtReset s) (h : exec row s = .next t) :
    AtReset t := by
  cases row with
  | powerOn | pinReset =>
    cases h
    exact fun _ => rfl
  | resetEnd =>
    simp only [exec, execResetEnd] at h
    exact takeStep_keeps ok h fun _ _ => nofun
  | csNFall =>
    simp only [exec, execCsNFall] at h
    refine takeStep_keeps ok h fun u hu => ?_
    unfold State.csFall
    dsimp only
    split <;> exact hu
  | csNRise =>
    simp only [exec, execCsNRise] at h
    refine takeStep_keeps ok h fun u hu => ?_
    unfold State.csRise State.endTransaction
    dsimp only
    split
    · split <;> exact hu
    · exact hu
  | writeTransactionStart | readSelect | sendComplete | badStart | oversize =>
    simp only [exec, execWriteTransactionStart, execReadSelect, execSendComplete, execBadStart, execOversize] at h
    exact takeStep_keeps ok h fun _ hu => hu
  | inboundMessage =>
    simp only [exec, execInboundMessage] at h
    rcases takeStep_next h with rfl | ⟨due, rfl⟩
    · exact ok
    · obtain ⟨out, _⟩ := transactionIs_iff.mp (Bool.and_eq_true_iff.mp due).1
      refine atReset_out ?_
      unfold State.takeForAdmission
      split_ifs <;> exact out
  | _ => cases own

/-- The rows of the other blocks are not taken in reset, and they do not begin one. -/
theorem atReset_otherRow (row : Instr) (other : linkRow row = false) (ok : s.ExecutionOk)
    (h : exec row s = .next t) : AtReset t := by
  have same : t.heldInReset = s.heldInReset := serves_heldInReset (serves_exec row other h)
  intro held
  rw [same] at held
  have stays : exec row s = .next s := by
    refine heldPartIgnoresOtherSteps row s held ok ?_ ?_ ?_ ?_ ?_
    all_goals
      rintro rfl
      cases other
  cases h.symm.trans stays
  exact ok.held held

end CurrentCommandRows

/-- Settles O6: every row keeps the current command at the head of the queue, and only a reset holds the part. -/
theorem currentCommandStaysQueued : Obligations.CurrentCommandStaysQueued := by
  intro s t ok h
  refine step_keeps ok h (fun _ => ⟨ok.executing, ok.held⟩) fun row u hu goes =>
    ⟨headCurrent_exec row hu.executing goes, ?_⟩
  cases own : linkRow row with
  | true => exact atReset_linkRow row own hu.held goes
  | false => exact atReset_otherRow row own hu goes

end Sys2Proof.Proofs

namespace Sys2Proof.Proofs

open Sys2Proof.Machine Sys2Proof.Laws

/-! ### A RESTART at the stream engines (R166, R168, R169) -/

section EngineRestart

variable {s t : State} {i : StreamId} {p : PortId} {b : Burst} {e : Engine} {m : Message} {rest : List Message}

/-- R166, R168: the restart of scope STREAMS is sent. -/
theorem exec_restartStreams (h : s.Handed (.restart .streams) m rest) :
    exec .restartStreams s = .next (s.sendRestart .streams) := by
  show execRestartStreams s = _
  exact takeStep_due ((isAt_iff .handed).mpr h.current) _

/-- R166, R169: the restart of scope ALL is sent. -/
theorem exec_restartAll (h : s.Handed (.restart .all) m rest) :
    exec .restartAll s = .next (s.sendRestart .all) := by
  show execRestartAll s = _
  exact takeStep_due ((isAt_iff .handed).mpr h.current) _

theorem exec_engineRestart (out : s.heldInReset = none) (sent : (s.engine i).restart = .sent) :
    exec (.engineRestart i) s = .next (s.stopEngine i) := by
  show execEngineRestart i s = _
  exact takeStep_due (by simp [out, sent]) _

/-- A stream engine that has ended its work and answered a restart (R166, steps 5 to 7). -/
def stoppedWith (e : Engine) (answer : Option (FrameId × Nat)) : Engine :=
  { e with
    cache := Vector.replicate 4 none, lookFill := none, due := .none, signals := [], restart := .answered answer }

/-- R166, steps 5 to 7: the FIFO of the stream's port is emptied, and the engine answers. -/
theorem answerRestart_bound (port : (t.engine i).port = some p) :
    t.answerRestart i =
      (t.setPort p { t.port p with fifo := [] }).setEngine i
        (stoppedWith (t.engine i) (t.engine i).restartAnswer) := by
  rw [State.answerRestart, setFifo_bound port]
  rfl

theorem answerRestart_setEngine (port : e.port = some p) :
    (t.setEngine i e).answerRestart i =
      (t.setPort p { t.port p with fifo := [] }).setEngine i (stoppedWith e e.restartAnswer) := by
  rw [answerRestart_bound (p := p) (by rw [engine_setEngine_self, port]), engine_setEngine_self, setPort_setEngine,
    setEngine_setEngine]
  rfl

/-- R166, step 1: an IDLE stream answers at once. -/
theorem stopEngine_idle (idle : (s.engine i).state = .idle) :
    s.stopEngine i = s.setEngine i { s.engine i with restart := .answered none } := by
  rw [State.stopEngine, if_pos idle]
  rfl

/-- The state in which a stream that is not IDLE has closed its gate, cleared its pending edge, and withdrawn its
request and its claims (R166, steps 2 to 4). -/
def withdrawn (s : State) (i : StreamId) (p : PortId) : State :=
  ((s.setPort p { s.port p with gateOpen := false, edgePending := false }).withdrawRequest i).setClaims
    (s.mapUnit.claims.filter fun c => !c.isOf i)

theorem stopEngine_busy (busy : (s.engine i).state ≠ .idle) (port : (s.engine i).port = some p) :
    s.stopEngine i =
      if s.burstInFlight (requesterOf i) then
        (withdrawn s i p).modEngine i fun e => { e with restart := .waitingBurst }
      else (withdrawn s i p).answerRestart i := by
  rw [State.stopEngine, if_neg busy, modPortOf_bound port]
  rfl

/-- R166, step 5: an engine with a burst in flight waits for it. -/
theorem stopEngine_waits (busy : (s.engine i).state ≠ .idle) (port : (s.engine i).port = some p)
    (flight : s.burstInFlight (requesterOf i) = true) :
    s.stopEngine i = (withdrawn s i p).setEngine i { s.engine i with restart := .waitingBurst } := by
  rw [stopEngine_busy busy port, if_pos flight]
  rfl

/-- R166, steps 5 to 7: one without a burst in flight answers. -/
theorem stopEngine_answers (busy : (s.engine i).state ≠ .idle) (port : (s.engine i).port = some p)
    (still : s.burstInFlight (requesterOf i) = false) :
    s.stopEngine i =
      (((s.setPort p { s.port p with gateOpen := false, edgePending := false, fifo := [] }).withdrawRequest
        i).setClaims (s.mapUnit.claims.filter fun c => !c.isOf i)).setEngine i
          (stoppedWith (s.engine i) (s.engine i).restartAnswer) := by
  have gate : (withdrawn s i p).port p = { s.port p with gateOpen := false, edgePending := false } :=
    port_setPort_self ..
  rw [stopEngine_busy busy port, if_neg (by simp [still]), answerRestart_bound (t := withdrawn s i p) port, gate]
  have emptied : (withdrawn s i p).setPort p { s.port p with gateOpen := false, edgePending := false, fifo := [] } =
      ((s.setPort p { s.port p with gateOpen := false, edgePending := false, fifo := [] }).withdrawRequest
        i).setClaims (s.mapUnit.claims.filter fun c => !c.isOf i) :=
    congrArg (fun u : State => (u.withdrawRequest i).setClaims (s.mapUnit.claims.filter fun c => !c.isOf i))
      (setPort_setPort s p _ _)
  exact congrArg (fun u : State => u.setEngine i _) emptied

/-! #### After the burst in flight (R166, step 5) -/

/-- The burst of an engine that waits for it lands, and the engine answers. -/
theorem exec_captureBurstComplete_restart (out : s.heldInReset = none) (flight : s.arbiter.inFlight = some b)
    (own : b.requester = requesterOf i) (writes : b.isWrite = true) (waits : (s.engine i).restart = .waitingBurst) :
    exec (.captureBurstComplete i) s = .next ((landed s i b).answerRestart i) := by
  have due : (s.heldInReset.isNone && s.streamBurst i true) = true := by
    simp [out, State.streamBurst, flight, own, writes]
  have lands : s.landCapture i b = landed s i b := rfl
  have still : ((landed s i b).engine i).restart = .waitingBurst := by
    rw [landed, engine_setEngine_self]
    exact waits
  show execCaptureBurstComplete i s = _
  rw [execCaptureBurstComplete, takeStep_due due, flight]
  simp only [State.completeCapture, lands, still, if_true]

/-- The words of a replay burst are discarded, and the engine answers. -/
theorem exec_replayBurstComplete_restart (out : s.heldInReset = none) (flight : s.arbiter.inFlight = some b)
    (own : b.requester = requesterOf i) (reads : b.isWrite = false) (waits : (s.engine i).restart = .waitingBurst) :
    exec (.replayBurstComplete i) s =
      .next ((s.endBurst.setEngine i ((s.engine i).advanced b.length)).answerRestart i) := by
  have due : (s.heldInReset.isNone && s.streamBurst i false) = true := by
    simp [out, State.streamBurst, flight, own, reads]
  have still : ((s.engine i).advanced b.length).restart = .waitingBurst := waits
  show execReplayBurstComplete i s = _
  rw [execReplayBurstComplete, takeStep_due due, flight]
  simp only [State.completeReplay, State.modEngine, engine_endBurst, engine_setEngine_self, still, if_true]

theorem restartAnswer_capture (capture : e.direction = some .capture) :
    e.restartAnswer = e.currentPage.map fun c => (c.frame, e.position.offset) := if_pos capture

theorem restartAnswer_replay (replay : e.direction = some .replay) : e.restartAnswer = none :=
  if_neg (by rw [replay]; nofun)

end EngineRestart

/-- Settles O24: the sending, the taking by an engine in each situation, and the end of the burst waited for. -/
theorem everyEngineTakesTheRestart : Obligations.EveryEngineTakesTheRestart := by
  refine ⟨fun s m rest scope handed => ?_, fun s i out sent => ⟨fun idle => ?_, fun p busy port => ?_⟩,
    fun s i p b out flight own waits port => ?_⟩
  · cases scope with
    | streams => exact exec_restartStreams handed
    | all => exact exec_restartAll handed
  · rw [exec_engineRestart out sent, stopEngine_idle idle]
  · rw [exec_engineRestart out sent]
    exact ⟨fun still => congrArg _ (stopEngine_answers busy port still),
      fun flight => congrArg _ (stopEngine_waits busy port flight)⟩
  · have bound : ((s.engine i).advanced b.length).port = some p := port
    refine ⟨fun writes capture => ?_, fun reads replay => ?_⟩
    · have answer := restartAnswer_capture (e := (s.engine i).advanced b.length) capture
      rw [exec_captureBurstComplete_restart out flight own writes waits, landed, answerRestart_setEngine bound, answer]
      rfl
    · have answer := restartAnswer_replay (e := (s.engine i).advanced b.length) replay
      rw [exec_replayBurstComplete_restart out flight own reads waits, answerRestart_setEngine bound, answer]
      rfl

end Sys2Proof.Proofs

namespace Sys2Proof.Proofs

open Sys2Proof.Machine Sys2Proof.Laws

/-! ### The fields of a payload (R170, 12.7) -/

section PayloadFields

variable {p q : List Byte} {k n : Nat} {x : Byte}

/-- A payload holds these bytes from a place on. -/
def BytesAt (p : List Byte) (k : Nat) (bytes : List Byte) : Prop :=
  match bytes with
  | [] => True
  | x :: rest => p.getD k 0 = x ∧ BytesAt p (k + 1) rest

@[simp] theorem bytesAt_nil : BytesAt p k [] := trivial
@[simp] theorem bytesAt_cons : BytesAt p k (x :: q) ↔ p.getD k 0 = x ∧ BytesAt p (k + 1) q := .rfl

theorem drop_eq_iff : p.drop k = q ↔ p.length - k = q.length ∧ BytesAt p k q := by
  induction q generalizing k with
  | nil => simp [Nat.sub_eq_zero_iff_le]
  | cons x rest ih =>
    rw [bytesAt_cons, List.length_cons]
    by_cases inside : k < p.length
    · have shorter : p.length - k = rest.length + 1 ↔ p.length - (k + 1) = rest.length := by omega
      rw [List.drop_eq_getElem_cons inside, List.cons.injEq, ih, List.getD_eq_getElem _ _ inside, shorter]
      exact and_left_comm
    · have past : p.drop k = [] := List.drop_eq_nil_of_le (Nat.le_of_not_lt inside)
      rw [past]
      exact ⟨nofun, fun ⟨length, _⟩ => by omega⟩

/-- A payload is known by its length and its bytes. -/
theorem eq_iff_bytesAt : p = q ↔ p.length = q.length ∧ BytesAt p 0 q := drop_eq_iff (k := 0)

theorem byte_iff (small : n < 256) : byteAt p k = n ↔ p.getD k 0 = byteOf n := by
  rw [byteAt, ← BitVec.toNat_inj, byteOf, BitVec.toNat_ofNat, Nat.mod_eq_of_lt small]

theorem word_iff (small : n < 65536) :
    wordAt p k = n ↔ p.getD k 0 = byteOf n ∧ p.getD (k + 1) 0 = byteOf (n / 256) := by
  rw [wordAt, byteAt, byteAt, ← BitVec.toNat_inj, ← BitVec.toNat_inj, byteOf, byteOf, BitVec.toNat_ofNat,
    BitVec.toNat_ofNat]
  have low := (p.getD k 0).isLt
  have high := (p.getD (k + 1) 0).isLt
  omega

theorem finOf?_iff {value : Nat} {y : Fin n} : finOf? n value = some y ↔ value = y.val := by
  unfold finOf?
  split
  · simp [Fin.ext_iff]
  · have := y.isLt
    simp
    omega

@[simp] theorem finByte_iff {y : Fin n} (small : n ≤ 256) :
    finOf? n (byteAt p k) = some y ↔ p.getD k 0 = byteOf y.val := by
  rw [finOf?_iff, byte_iff (lt_of_lt_of_le y.isLt small)]

@[simp] theorem finWord_iff {y : Fin n} (small : n ≤ 65536) :
    finOf? n (wordAt p k) = some y ↔ p.getD k 0 = byteOf y.val ∧ p.getD (k + 1) 0 = byteOf (y.val / 256) := by
  rw [finOf?_iff, word_iff (lt_of_lt_of_le y.isLt small)]

@[simp] theorem reserved?_iff {y : Unit} : reserved? (byteAt p k) = some y ↔ p.getD k 0 = 0x00 := by
  have zero : p.getD k 0 = 0x00 ↔ byteAt p k = 0 := (byte_iff (by decide)).symm
  rw [zero, reserved?]
  simp

/-- A field of two values, whose codes are their places in the list (12.7). -/
theorem twoCodes_iff {α : Type} [DecidableEq α] {a b y : α} (apart : a ≠ b) (among : y = a ∨ y = b) :
    (if byteAt p k = 0 then some a else if byteAt p k = 1 then some b else none) = some y ↔
      p.getD k 0 = codeIn [a, b] (some y) := by
  rcases among with rfl | rfl
  · have code : codeIn [y, b] (some y) = byteOf 0 := by simp [codeIn, byteOf]
    rw [code, ← byte_iff (by decide)]
    split_ifs <;> simp_all [apart.symm]
  · have code : codeIn [a, y] (some y) = byteOf 1 := by simp [codeIn, byteOf, List.idxOf_cons_ne _ apart]
    rw [code, ← byte_iff (by decide)]
    split_ifs <;> simp_all

@[simp] theorem boolOf?_iff {y : Bool} :
    boolOf? (byteAt p k) = some y ↔ p.getD k 0 = codeIn [false, true] (some y) :=
  twoCodes_iff nofun (by cases y <;> simp)
@[simp] theorem accessOf?_iff {y : Access} :
    accessOf? (byteAt p k) = some y ↔ p.getD k 0 = codeIn [.readWrite, .readOnly] (some y) :=
  twoCodes_iff nofun (by cases y <;> simp)
@[simp] theorem directionOf?_iff {y : Direction} :
    directionOf? (byteAt p k) = some y ↔ p.getD k 0 = codeIn [.capture, .replay] (some y) :=
  twoCodes_iff nofun (by cases y <;> simp)
@[simp] theorem releasePolicyOf?_iff {y : ReleasePolicy} :
    releasePolicyOf? (byteAt p k) = some y ↔ p.getD k 0 = codeIn [.keep, .release] (some y) :=
  twoCodes_iff nofun (by cases y <;> simp)
@[simp] theorem slotOf?_iff {y : SlotName} :
    slotOf? (byteAt p k) = some y ↔ p.getD k 0 = codeIn [.a, .b] (some y) :=
  twoCodes_iff nofun (by cases y <;> simp)
@[simp] theorem modeOf?_iff {y : SegmentMode} :
    modeOf? (byteAt p k) = some y ↔ p.getD k 0 = codeIn [.once, .loop] (some y) :=
  twoCodes_iff nofun (by cases y <;> simp)
@[simp] theorem scopeOf?_iff {y : RestartScope} :
    scopeOf? (byteAt p k) = some y ↔ p.getD k 0 = codeIn [.streams, .all] (some y) :=
  twoCodes_iff nofun (by cases y <;> simp)

@[simp] theorem faultPolicyOf?_iff {y : FaultPolicy} :
    faultPolicyOf? (byteAt p k) = some y ↔ p.getD k 0 = codeIn [.allocate, .host, .skip] (some y) := by
  have code : p.getD k 0 = faultPolicyCode y ↔ byteAt p k = (faultPolicyCode y).toNat := BitVec.toNat_inj.symm
  rw [← faultPolicyCode_eq, code, faultPolicyOf?]
  cases y <;> split_ifs <;> simp_all [faultPolicyCode]

/-- R26: the frame of MAP, or FFFFh for any. -/
@[simp] theorem mapFrameOf?_iff {f : Option FrameId} :
    mapFrameOf? (wordAt p k) = some f ↔
      p.getD k 0 = byteOf ((f.map fun y => y.val).getD 0xFFFF) ∧
        p.getD (k + 1) 0 = byteOf ((f.map fun y => y.val).getD 0xFFFF / 256) := by
  have small : (f.map fun y => y.val).getD 0xFFFF < 65536 := by
    cases f with
    | none => decide
    | some y => exact lt_trans y.isLt (by decide)
  rw [← word_iff small, mapFrameOf?]
  cases f with
  | none => split_ifs <;> simp_all
  | some y =>
    have := y.isLt
    split_ifs with any
    · simp [any]; omega
    · simp [finOf?_iff]

end PayloadFields

end Sys2Proof.Proofs

namespace Sys2Proof.Proofs

open Sys2Proof.Machine Sys2Proof.Laws

/-! ### The messages read as commands (R160, R170, 12.3) -/

section Commands

/-- The kind of a command (12.7). -/
@[simp] def kindOf (c : HostCommand) : Byte :=
  match c with
  | .hello => 0x01
  | .restart _ => 0x02
  | .map _ _ _ _ => 0x10
  | .unmap _ _ _ => 0x11
  | .protect _ _ _ _ => 0x12
  | .share _ _ _ _ _ _ => 0x13
  | .queryMap _ _ _ => 0x14
  | .queryFrame _ => 0x18
  | .poolStatus => 0x19
  | .setPoolMark _ => 0x1A
  | .openStream _ _ _ _ _ => 0x20
  | .closeStream _ _ => 0x21
  | .arm _ _ _ => 0x22
  | .start _ _ => 0x23
  | .pause _ => 0x24
  | .resume _ => 0x25
  | .stop _ => 0x26
  | .abort _ => 0x27
  | .trigger _ => 0x28
  | .queryStream _ => 0x29
  | .readData _ _ _ _ => 0x30
  | .writeData _ _ _ _ => 0x31
  | .sealPage _ _ => 0x32

/-- The payload of a command (12.3, 12.7). -/
@[simp] def payloadOf (c : HostCommand) : List Byte :=
  match c with
  | .hello | .poolStatus => []
  | .restart scope => [codeIn [.streams, .all] (some scope)]
  | .map i access v f =>
    [byteOf i.val, codeIn [.readWrite, .readOnly] (some access)] ++ le16 v.val
      ++ (f.map fun (y : FrameId) => le16 y.val).getD [0xFF, 0xFF]
  | .unmap i v n => [byteOf i.val, 0x00] ++ le16 v.val ++ le16 n
  | .protect i access v n => [byteOf i.val, codeIn [.readWrite, .readOnly] (some access)] ++ le16 v.val ++ le16 n
  | .share i j access v u n =>
    [byteOf i.val, byteOf j.val, codeIn [.readWrite, .readOnly] (some access), 0x00] ++ le16 v.val ++ le16 u.val
      ++ le16 n
  | .queryMap i v n => [byteOf i.val, byteOf n] ++ le16 v.val
  | .queryFrame f => le16 f.val
  | .setPoolMark n => le16 n
  | .openStream i direction p fault policy =>
    [byteOf i.val, codeIn [.capture, .replay] (some direction), byteOf p.val,
      codeIn [.allocate, .host, .skip] (some fault), codeIn [.keep, .release] (some policy)]
  | .closeStream i release => [byteOf i.val, codeIn [false, true] (some release)]
  | .arm i slot d =>
    [byteOf i.val, codeIn [.a, .b] (some slot), codeIn [.once, .loop] (some d.mode),
      codeIn [false, true] (some d.link)] ++ le16 d.first.val ++ le16 d.count ++ le16 d.postTrigger
  | .start i slot => [byteOf i.val, codeIn [.a, .b] (some slot)]
  | .pause i | .resume i | .stop i | .abort i | .trigger i | .queryStream i => [byteOf i.val]
  | .readData i v offset n => [byteOf i.val, 0x00] ++ le16 v.val ++ le16 offset ++ le16 n
  | .writeData i v offset data => [byteOf i.val, 0x00] ++ le16 v.val ++ le16 offset ++ data
  | .sealPage i v => [byteOf i.val, 0x00] ++ le16 v.val

variable {p : List Byte} {c : HostCommand} {k : Byte} {m : Message}

/-- A payload is read as a command of its kind alone. -/
theorem kindOf_readFields (read : readFields k.toNat p = some c) : kindOf c = k := by
  refine BitVec.eq_of_toNat_eq ?_
  revert read
  generalize k.toNat = n
  unfold readFields
  split
  case h_24 => nofun
  all_goals
    simp only [bind, Option.bind_eq_some_iff, Option.some.injEq, forall_exists_index, and_imp]
    intros
    subst_vars
    rfl

/-- R26: any frame is asked for by FFFFh. -/
theorem mapFrame_bytes (f : Option FrameId) :
    (f.map fun (y : FrameId) => le16 y.val).getD [0xFF, 0xFF] = le16 ((f.map fun y => y.val).getD 0xFFFF) := by
  cases f <;> rfl

/-- A payload of the length that 12.3 gives is read as a command exactly when it is laid out as that command's. -/
theorem readFields_iff (ok : commandFieldsOk c = true) :
    (∃ rule, lengthRule? (kindOf c).toNat = some rule ∧ rule.accepts p.length = true ∧
      readFields (kindOf c).toNat p = some c) ↔ p = payloadOf c := by
  rw [eq_iff_bytesAt]
  cases c with
  | hello | poolStatus | restart | pause | resume | stop | abort | trigger | queryStream | queryFrame =>
    simp [lengthRule?, LengthRule.accepts, readFields, Option.bind_eq_some_iff, le16]
  | closeStream | start | openStream =>
    simp [lengthRule?, LengthRule.accepts, readFields, Option.bind_eq_some_iff, -Bool.exists_bool]
  | sealPage =>
    simp [lengthRule?, LengthRule.accepts, readFields, Option.bind_eq_some_iff, le16]
    tauto
  | map =>
    simp only [payloadOf, mapFrame_bytes]
    simp [lengthRule?, LengthRule.accepts, readFields, Option.bind_eq_some_iff, le16, and_assoc]
  | setPoolMark =>
    simp only [commandFieldsOk, decide_eq_true_eq] at ok
    simp (disch := omega) [lengthRule?, LengthRule.accepts, readFields, le16, word_iff]
  | unmap | protect | share | queryMap =>
    simp only [commandFieldsOk, pageRangeOk, Bool.and_eq_true, decide_eq_true_eq] at ok
    simp (disch := omega) [lengthRule?, LengthRule.accepts, readFields, Option.bind_eq_some_iff, le16, word_iff,
      byte_iff]
    tauto
  | arm i slot d =>
    obtain ⟨first, count, mode, link, postTrigger⟩ := d
    simp only [commandFieldsOk, Bool.and_eq_true, decide_eq_true_eq] at ok
    simp (disch := omega) [lengthRule?, LengthRule.accepts, readFields, Option.bind_eq_some_iff, le16, word_iff,
      -Bool.exists_bool]
    tauto
  | readData =>
    simp only [commandFieldsOk, Bool.and_eq_true, decide_eq_true_eq] at ok
    simp (disch := omega) [lengthRule?, LengthRule.accepts, readFields, Option.bind_eq_some_iff, le16, word_iff]
    tauto
  | writeData i v offset data =>
    simp only [commandFieldsOk, Bool.and_eq_true, decide_eq_true_eq, beq_iff_eq] at ok
    have lengths : ((8 ≤ p.length ∧ p.length ≤ 262) ∧ p.length % 2 = 0) ∧ p.length - 6 = data.length ↔
        p.length = data.length + 1 + 1 + 1 + 1 + 1 + 1 := by omega
    simp (disch := omega) [lengthRule?, LengthRule.accepts, readFields, Option.bind_eq_some_iff, le16, word_iff,
      drop_eq_iff]
    tauto

/-! #### The checks of the command unit (R160) -/

theorem readCommand_ok : readCommand m = .ok c ↔
    (∃ rule, lengthRule? m.kind.toNat = some rule ∧ rule.accepts m.payload.length = true ∧
      readFields m.kind.toNat m.payload = some c) ∧ commandFieldsOk c = true := by
  unfold readCommand
  cases lengthRule? m.kind.toNat with
  | none => simp
  | some rule =>
    dsimp only
    split_ifs with accepted
    · cases readFields m.kind.toNat m.payload with
      | none => simp
      | some d =>
        dsimp only
        split_ifs with inRange
        · simp only [accepted, Except.ok.injEq, Option.some.injEq, exists_eq_left', true_and, iff_self_and]
          rintro rfl
          exact inRange
        · simp only [accepted, Option.some.injEq, exists_eq_left', true_and, false_iff, not_and]
          rintro rfl
          exact inRange
    · simp [accepted]

/-- R160, R170: a message is read as a command exactly when its kind and payload are that command's. -/
theorem readCommand_ok_iff : readCommand m = .ok c ↔
    (m.kind, m.payload) = (kindOf c, payloadOf c) ∧ commandFieldsOk c = true := by
  rw [readCommand_ok, Prod.mk.injEq]
  refine and_congr_left fun ok => ⟨fun read => ?_, fun ⟨kind, payload⟩ => ?_⟩
  · have kind : kindOf c = m.kind := by
      obtain ⟨_, _, _, fields⟩ := read
      exact kindOf_readFields fields
    rw [← kind] at read
    exact ⟨kind.symm, (readFields_iff ok).mp read⟩
  · rw [kind]
    exact (readFields_iff ok).mpr payload

theorem readCommand_badKind : readCommand m = .error .badKind ↔ lengthRule? m.kind.toNat = none := by
  unfold readCommand
  cases lengthRule? m.kind.toNat with
  | none => simp
  | some rule =>
    dsimp only
    split_ifs
    · split
      · simp
      · split_ifs <;> simp
    · simp

theorem readCommand_badLength : readCommand m = .error .badLength ↔
    ∃ rule, lengthRule? m.kind.toNat = some rule ∧ rule.accepts m.payload.length = false := by
  unfold readCommand
  cases lengthRule? m.kind.toNat with
  | none => simp
  | some rule =>
    dsimp only
    split_ifs with accepted
    · split
      · simp [accepted]
      · split_ifs <;> simp [accepted]
    · simp [accepted]

theorem readCommand_error {status : Status} (refused : readCommand m = .error status) :
    status ∈ [.badKind, .badLength, .badField] := by
  unfold readCommand at refused
  split at refused
  · cases refused
    decide
  · split_ifs at refused
    · split at refused
      · cases refused
        decide
      · split_ifs at refused
        cases refused
        decide
    · cases refused
      decide

/-! #### The table of payload lengths (12.3) -/

/-- The command kinds with one payload length (12.3). -/
def payloadLengths : List (Byte × Nat) :=
  [(0x01, 0), (0x02, 1), (0x10, 6), (0x11, 6), (0x12, 6), (0x13, 10), (0x14, 4), (0x18, 2), (0x19, 0), (0x1A, 2),
    (0x20, 5), (0x21, 2), (0x22, 10), (0x23, 2), (0x24, 1), (0x25, 1), (0x26, 1), (0x27, 1), (0x28, 1), (0x29, 1),
    (0x30, 8), (0x32, 4)]

/-- R170: every kind listed has its one length. -/
theorem lengthRule_listed : ∀ x ∈ payloadLengths, lengthRule? x.1.toNat = some (.exactly x.2) := by decide

/-- R170, 12.7: the kinds are those listed, and WRITE_DATA. -/
theorem lengthRule_cases (k : Byte) :
    lengthRule? k.toNat = none ∧ k ∉ 0x31 :: payloadLengths.map (fun x => x.1) ∨
      lengthRule? k.toNat = some .writeData ∧ k = 0x31 ∨
      ∃ x ∈ payloadLengths, k = x.1 := by
  decide +revert

theorem lengthRule_none {k : Byte} :
    lengthRule? k.toNat = none ↔ k ∉ 0x31 :: payloadLengths.map fun x => x.1 := by
  rcases lengthRule_cases k with ⟨rule, unlisted⟩ | ⟨rule, rfl⟩ | ⟨x, listed, rfl⟩
  · exact iff_of_true rule unlisted
  · exact iff_of_false (by rw [rule]; nofun) fun other => other List.mem_cons_self
  · have rule := lengthRule_listed x listed
    exact iff_of_false (by rw [rule]; nofun) fun other =>
      other (List.mem_cons_of_mem _ (List.mem_map_of_mem listed))

theorem lengthRule_exactly {k : Byte} {n : Nat} :
    lengthRule? k.toNat = some (.exactly n) ↔ (k, n) ∈ payloadLengths := by
  refine ⟨fun rule => ?_, fun listed => lengthRule_listed _ listed⟩
  rcases lengthRule_cases k with ⟨unruled, _⟩ | ⟨written, _⟩ | ⟨x, listed, rfl⟩
  · cases unruled.symm.trans rule
  · cases written.symm.trans rule
  · cases (lengthRule_listed x listed).symm.trans rule
    exact listed

theorem lengthRule_writeData {k : Byte} : lengthRule? k.toNat = some .writeData ↔ k = 0x31 := by
  refine ⟨fun rule => ?_, fun kind => by subst kind; rfl⟩
  rcases lengthRule_cases k with ⟨unruled, _⟩ | ⟨_, kind⟩ | ⟨x, listed, rfl⟩
  · cases unruled.symm.trans rule
  · exact kind
  · cases (lengthRule_listed x listed).symm.trans rule

/-- R160, R170: BAD_LENGTH by the two forms of rule. -/
theorem readCommand_badLength_iff : readCommand m = .error .badLength ↔
    (∃ n, (m.kind, n) ∈ payloadLengths ∧ m.payload.length ≠ n) ∨
      m.kind = 0x31 ∧ ¬ (8 ≤ m.payload.length ∧ m.payload.length ≤ 262 ∧ m.payload.length % 2 = 0) := by
  rw [readCommand_badLength]
  constructor
  · rintro ⟨rule, given, refused⟩
    cases rule with
    | exactly n => exact .inl ⟨n, lengthRule_exactly.mp given, by simpa [LengthRule.accepts] using refused⟩
    | writeData =>
      refine .inr ⟨lengthRule_writeData.mp given, fun ⟨long, short, even⟩ => ?_⟩
      simp [LengthRule.accepts, long, short, even] at refused
  · rintro (⟨n, listed, other⟩ | ⟨kind, other⟩)
    · exact ⟨.exactly n, lengthRule_exactly.mpr listed, by simpa [LengthRule.accepts] using other⟩
    · refine ⟨.writeData, lengthRule_writeData.mpr kind, Bool.eq_false_iff.mpr fun accepted => other ?_⟩
      simpa [LengthRule.accepts, and_assoc] using accepted

end Commands

/-! ### COMMAND_TAKE (R159, R160) -/

section CommandTake

variable {s : State} {c : HostCommand} {m : Message} {rest : List Message}

theorem exec_commandTake (out : s.heldInReset = none) (ready : s.command.execution = .ready)
    (queue : s.command.queue = m :: rest) : exec .commandTake s = .next s.takeCommand := by
  show execCommandTake s = _
  exact takeStep_due (by simp [State.takesCommand, out, ready, queue]) _

theorem takeCommand_refused {status : Status} (queue : s.command.queue = m :: rest)
    (read : readCommand m = .error status) : s.takeCommand = s.answered m rest [statusCode status] := by
  simp only [State.takeCommand, queue, read]
  exact refuse_answered queue status

theorem takeCommand_handed (queue : s.command.queue = m :: rest) (read : readCommand m = .ok c) :
    s.takeCommand = s.handCommand c := by
  simp only [State.takeCommand, queue, read]

theorem handCommand_eq (s : State) (c : HostCommand) :
    s.handCommand c =
      { s with
        command := { s.command with current := some ⟨c, .handed⟩, execution := .executing }
        mapUnit :=
          if ownedByMapUnit c then { s.mapUnit with claims := s.mapUnit.claims ++ [.host] } else s.mapUnit } := by
  unfold State.handCommand
  dsimp only
  split <;> rfl

end CommandTake

/-- Settles O22: what COMMAND_TAKE does with the head of the queue, and how the head is read. -/
theorem commandTakeChecksTheHead : Obligations.CommandTakeChecksTheHead := by
  refine ⟨fun s m rest out ready queue => ?_, ?_⟩
  · rw [exec_commandTake out ready queue]
    exact ⟨fun status read => congrArg _ (takeCommand_refused queue read),
      fun c read => congrArg _ ((takeCommand_handed queue read).trans (handCommand_eq s c))⟩
  · intro w spelled inRange lengths m
    have spelled_eq : ∀ c, spelled c = (kindOf c, payloadOf c) := fun c => by cases c <;> rfl
    have inRange_iff : ∀ c, inRange c ↔ commandFieldsOk c = true := fun c => by
      cases c with
      | share =>
        simp only [inRange, commandFieldsOk, pageRangeOk, Bool.and_eq_true, decide_eq_true_eq]
        tauto
      | _ => simp [inRange, commandFieldsOk, pageRangeOk, and_assoc]
    refine ⟨readCommand_badKind.trans lengthRule_none, readCommand_badLength_iff, fun c => ?_,
      fun status => readCommand_error⟩
    rw [spelled_eq, inRange_iff]
    exact readCommand_ok_iff

end Sys2Proof.Proofs

namespace Sys2Proof.Proofs

open Sys2Proof.Machine

/-! ### The queue of offered steps (log entry 5) -/

/-- The step at the front of the queue is the one that runs, and it finds the rest of the queue in its state. -/
theorem step_of_offered {s : State} {i : Instr} {rest : List Instr} (offered : s.pending = i :: rest) :
    step s = exec i { s with pending := rest } := by
  simp only [step, offered]

/-- Settles O1: taking the front off the queue undoes offering it, so the row runs on the state as it was. -/
theorem stepRunsTheFrontStep : Obligations.StepRunsTheFrontStep := by
  intro i s
  have offered : ({ s with pending := i :: s.pending } : State).pending = i :: s.pending := rfl
  exact step_of_offered offered

end Sys2Proof.Proofs
